-- ==== Sys2Proof/Word.lean ====
section
/-! DEFINITION. The word types of the Derac DX32 model: registers are 32 bits (R65), memory is bytes (R370). -/

namespace Sys2Proof

/-- A 32-bit register, descriptor or record word (R5, R65). -/
abbrev Word := BitVec 32

/-- One byte of a frame, record or memory cell. -/
abbrev Byte := BitVec 8

/-- A byte string, first byte first. -/
abbrev Bytes := List Byte

/-- A tick number: floor(Meridian time / 125 us) mod 2^32 (R4). -/
abbrev Tick := BitVec 32

end Sys2Proof
end

