-- ==== Sys2Proof/Syntax.lean ====
section
/-! DEFINITION. The commands of the DX32: one constructor of `Instr` for each row of spec/opcode_table.json, with the
row's operands. An order's operands are the fields of its descriptor (R412, R413); a register command carries the
master that writes and the written value; an event carries what arrives from outside. -/

namespace Sys2Proof

/-- The plain or the line side of the device (R7). -/
inductive Side | plain | line
deriving DecidableEq, Repr

/-- The two data paths (R7): encrypt from plain to line, decrypt from line to plain. -/
inductive Dir | enc | dec
deriving DecidableEq, Repr

/-- The masters of the interconnect (R381); TIRCY is cores 0–3, an AGENT core (4–63) runs user or kernel code. -/
inductive Master
  | host | tircy (core : Nat) | agentUser (core : Nat) | agentKernel (core : Nat) | debug | orbit | record | pke | ucu | twin
  | loader
deriving DecidableEq, Repr

/-- The three kinds of access a Boundary unit tells apart (R384). -/
inductive Access | read | write | fetch
deriving DecidableEq, Repr

/-- How a frame's reception ends: with a good FCS; with a bad FCS; or not yet, the bytes being those delivered so far
(R98). A frame of which `cw` codewords were corrected, in `sym` symbols, is a good one, and a frame that lies in `cw`
codewords that cannot be corrected is one with a bad FCS (R95). -/
inductive RxEnd
  | good
  | fcsErr
  | cut
  | corrected (cw sym : Nat)
  | uncorrectable (cw : Nat)
deriving DecidableEq, Repr

/-- What PREEMPT_VERIFY tells (R108, R109): an attempt of the port went unanswered or was answered, or its partner requests one. -/
inductive Verify
  | unanswered
  | answered
  | request
deriving DecidableEq, Repr

/-- The reception's end as the MAC sees it (R95). -/
def RxEnd.atMac : RxEnd → RxEnd
  | .corrected _ _ => .good
  | .uncorrectable _ => .fcsErr
  | e => e

/-- The header of an order's descriptor (R412): its TAG and its INT and FENCE flags. -/
structure OrdHdr where
  tag : Word
  int : Bool
  fence : Bool
deriving DecidableEq, Repr

/-- The operand fields of GAZ_EDIT (R413, R126). -/
structure GazEditArgs where
  op : Nat
  kind : Nat
  port : Nat
  age : Bool
  action : Nat
  cls : Nat
  sa : Nat
  key : Nat
deriving DecidableEq, Repr

/-- The operand fields of CON_EDIT (R413, R128). -/
structure ConEditArgs where
  op : Nat
  action : Nat
  cls : Nat
  prioAuto : Bool
  prio : Nat
  sa : Nat
  value : Nat
  mask : Nat
deriving DecidableEq, Repr

/-- The orders of R413 with their operands, as a descriptor spells them. -/
inductive Order
  | nop
  | logRead (first count off : Nat)
  | warmReset
  | modeSet (mode : Nat)
  | attest (challenge report : Nat)
  | fwStage (image len slot : Nat)
  | fwActivate (slot : Nat)
  | ownerEnrol (off : Nat)
  | kekGenerate
  | provisionCommit
  | zeroize (magic : Word)
  | portMap (side : Side) (group : Nat) (parts : List Nat)
  | portEq (retrain : Bool) (side : Side) (port : Nat)
  | memRetrain (ch : Nat)
  | merStep (neg pps : Bool) (sec ns frac : Nat)
  | keyImport (slot off : Nat)
  | cakLoad (slot off : Nat)
  | saInstall (sa off slot : Nat)
  | saRewrite (sa off slot : Nat)
  | saErase (sa : Nat)
  | saPin (sa : Nat)
  | saUnpin (sa : Nat)
  | saExport (sa off slot : Nat)
  | saImport (sa off slot : Nat)
  | gazEdit (a : GazEditArgs)
  | conEdit (a : ConEditArgs)
  | surveyStart (base count : Nat) (rep : Bool)
  | eclSchedule (kind sa new : Nat) (target : Tick) (floor : Nat)
  | eclCancel (kind sa : Nat) (target : Tick)
  | tsiSwap (dir : Dir) (target : Tick)
  | almAdvance (mask target : Nat)
  | almRenew (ctr : Nat)
  | sealRekey (kid : Nat)
  | pkeJob (off : Nat)
  | twinArbitrate (retire : Nat)
  | twinSwitchback
  | diagSaLoad (sa romKey off : Nat)
  | diagLoopback (mode inst block : Nat) (side : Side)
  | unknown (op : Nat)
deriving DecidableEq, Repr

/-- What BOOT finds outside the device (R50, R355, R371, R452, R456): for each image slot its VERSION, ARB and body if it verifies by
signature, body hash and length; the density each channel's devices report in GiB and the data rate of the board chart in MT/s; each
channel of which an attempt failed, with the number of attempts that did and the sequence of its first failure (5 is the check of
kept values); how many runs of the RNG start-up tests failed; and the Almanac words that did not verify.
DESIGN CHOICE, safe (log entry 25). -/
structure BootInput where
  imgA : Option (Nat × Nat × Bytes)
  imgB : Option (Nat × Nat × Bytes)
  gib : List Nat
  mts : Nat
  failed : List (Nat × Nat × Nat)
  rngFails : Nat
  almFails : List Nat
deriving DecidableEq, Repr

/-- How the line of an Orbit fill came back: it verified, its tag failed twice, or the data failed the bus integrity check at Orbit's
port (R152, R367, R395). -/
inductive FillEnd
  | passed
  | tag
  | integ
deriving DecidableEq, Repr

/-- How an access that a Boundary unit checks is made: which bus integrity check of it fails, if any (R394), and of a register access the
byte enables of its first word and the number of its words (R65). -/
structure AccessForm where
  integ : Nat
  be : Nat
  n : Nat
deriving DecidableEq, Repr

/-- The words of a write access to registers (R65). -/
structure WordRun where
  first : Word
  more : List Word
deriving DecidableEq, Repr

/-- A write of UCU_LOCK.ACQ, and the master whose own write of it reaches the unit in the same clock, if any (R441). -/
structure AcqWrite where
  writer : Master
  rival : Option Master
deriving DecidableEq, Repr

/-- A step of the MKA agent's key change for a new SAK (R238): `new` is the transmit SA being installed, and names the key
change. The agent's own protocol exchange lies outside the block; its steps arrive in the order of R238. -/
inductive MkaStep
  /-- Step 1: install `new` as the successor of `old`; `sak` is the new SAK. -/
  | install (old new : Nat) (sak : Bytes)
  /-- Step 2: the first field of `new` has been read and is announced. -/
  | announce (new : Nat)
  /-- Step 3: install a peer's receive SA under the new AN, beside the old one. -/
  | peer (new oldRx newRx : Nat)
  /-- Step 3: the peer announces its lowest acceptable PN. -/
  | floor (newRx floor : Nat)
  /-- Step 4: every live peer reports that it receives under the new key. -/
  | reported (new : Nat)
  /-- Step 5: OVERLAP after the first frame accepted under `newRx`, close the old receive SA. -/
  | close (newRx : Nat)
  /-- Step 5: the close has taken effect; delete the old entries and erase. -/
  | cleanup (newRx : Nat)
  /-- Step 6: OVERLAP after the switch, notice RETIRE_READY. -/
  | retire (new : Nat)
  /-- A step's order failed. -/
  | fail (new : Nat)
deriving DecidableEq, Repr

/-- The commands of the DX32: orders, events and register commands, one constructor per row of the table.
DESIGN CHOICE, safe (log entry 2). -/
inductive Instr
  -- host orders (R413)
  | nop (h : OrdHdr)
  | logRead (h : OrdHdr) (first count off : Nat)
  | warmReset (h : OrdHdr)
  | modeSet (h : OrdHdr) (mode : Nat)
  | attest (h : OrdHdr) (challenge report : Nat)
  | fwStage (h : OrdHdr) (image len slot : Nat)
  | fwActivate (h : OrdHdr) (slot : Nat)
  | fwAgentRestarted (core : Nat) (answered : Bool)
  | ownerEnrol (h : OrdHdr) (off : Nat)
  | kekGenerate (h : OrdHdr)
  | provisionCommit (h : OrdHdr)
  | provisionSweepDone (failed : List Nat)
  | zeroize (h : OrdHdr) (magic : Word)
  | portMap (h : OrdHdr) (side : Side) (group : Nat) (parts : List Nat)
  | portEq (h : OrdHdr) (retrain : Bool) (side : Side) (port : Nat)
  | portEqTimeout (side : Side) (port : Nat)
  | memRetrain (h : OrdHdr) (ch : Nat)
  | remapOutDone (ch : Nat)
  | retrainingDone (ch attempts failStep : Nat) (pass : Bool)
  | remapInDone (ch : Nat)
  | merStep (h : OrdHdr) (neg pps : Bool) (sec ns frac : Nat)
  | merStepPpsTimeout
  | keyImport (h : OrdHdr) (slot off : Nat)
  | cakLoad (h : OrdHdr) (slot off : Nat)
  | saInstall (h : OrdHdr) (sa off slot : Nat)
  | saRewrite (h : OrdHdr) (sa off slot : Nat)
  | saErase (h : OrdHdr) (sa : Nat)
  | saPin (h : OrdHdr) (sa : Nat)
  | saUnpin (h : OrdHdr) (sa : Nat)
  | saExport (h : OrdHdr) (sa off slot : Nat)
  | saImport (h : OrdHdr) (sa off slot : Nat)
  | gazEdit (h : OrdHdr) (a : GazEditArgs)
  | conEdit (h : OrdHdr) (a : ConEditArgs)
  | surveyStart (h : OrdHdr) (base count : Nat) (rep : Bool)
  | eclSchedule (h : OrdHdr) (kind sa new : Nat) (target : Tick) (floor : Nat)
  | eclCancel (h : OrdHdr) (kind sa : Nat) (target : Tick)
  | tsiSwap (h : OrdHdr) (dir : Dir) (target : Tick)
  | almAdvance (h : OrdHdr) (mask target : Nat)
  | almRenew (h : OrdHdr) (ctr : Nat)
  | sealRekey (h : OrdHdr) (kid : Nat)
  | rekeyDone (kid : Nat) (failed : List Nat)
  | pkeJob (h : OrdHdr) (off : Nat)
  | pkeJobDone (deviceFault : Bool)
  | twinArbitrate (h : OrdHdr) (retire : Nat)
  | twinSwitchback (h : OrdHdr)
  | diagSaLoad (h : OrdHdr) (sa romKey off : Nat)
  | diagLoopback (h : OrdHdr) (mode inst block : Nat) (side : Side)
  | orderTake
  | completionPost
  -- the Graticule and the tables
  | choreItemCommit (clk : Nat)
  | tickBoundary
  | drainLimit
  | almanacWrite (fails : List Nat)
  | sweeperVisit (slot : Nat) (bad hit : Bool)
  | surveyCompareTick
  | surveyRecheck (rec : Nat)
  | surveyPassEnd
  -- frames
  | plainFrameRx (port clk : Nat) (bytes : Bytes) (e : RxEnd) (express : Bool)
  | lineFrameRx (port clk : Nat) (bytes : Bytes) (e : RxEnd) (express : Bool)
  | frameAdmit (dir : Dir)
  | orbitFillDone (sa : Nat) (r : FillEnd)
  | dispatch (dir : Dir)
  | gangFinish (frame clk : Nat) (icvFault : Bool)
  | egressBegin (side : Side) (port clk : Nat)
  | frameStomp (frame : Nat) (reason : Nat)
  | transitLaunch (frame clk : Nat)
  | bundleAssembly (b : Nat)
  | bundleDeadline (b : Nat)
  -- ports
  | linkUp (side : Side) (port : Nat)
  | linkDown (side : Side) (port cond : Nat)
  | pfcRefresh (side : Side) (port : Nat)
  | preemptVerify (side : Side) (port : Nat) (v : Verify)
  -- pipelines
  | pipeFault (p unit stage : Nat)
  | occultationRotaStep (dir : Dir)
  | testCycleEnd (p fail : Nat)
  | shortKatEnd (p fail : Nat)
  | returnCycleEnd (p fail : Nat)
  | quiesceDone (page : Nat)
  -- circuit plane
  | highwayFrameRx (h pos : Nat) (syms : List Nat)
  | highwayLos (h : Nat)
  | tribFrameComplete (t : Nat)
  | compassHunt (t : Nat)
  | tribDefectChange (t defect : Nat) (declared : Bool)
  | pmSecondClassify (entity : Nat)
  | pmBinClose
  -- twin pair
  | heartbeatRx (bytes : Bytes) (clk : Nat)
  | digestCut (port : Nat)
  | cutRx (bytes : Bytes)
  | digestRx (bytes : Bytes)
  | tickListRx (bytes : Bytes)
  | tickListDeadline
  | saItemRx (bytes : Bytes)
  | rxCheckpointSend (sa : Nat)
  | bundleForwardRx (bytes : Bytes)
  | controlRx (bytes : Bytes)
  | crossCheckSend (key : Nat)
  | crossCheckRx (bytes : Bytes)
  | stateCopyRx (bytes : Bytes)
  | selfCheckEnd
  | arbTimeout
  | joinTrust (verified : Bool) (qx qy peerId : Nat) (nonce : Bytes)
  | joinReady
  | joinAbandon
  | pairedOrderHold
  | realignment
  | configFingerprintMismatch
  | mkaNewSak (st : MkaStep)
  -- time
  | ppsCapture
  | trigPulse (k : Nat)
  | servoChange (port : Option Nat) (off : Int)
  | rtcLoad
  -- pins, power and reset
  | porstN (level : Bool) (straps : Nat)
  | sysrstN (level : Bool)
  | supplyLoss
  | supplyValid
  | pciePerstN (level : Bool)
  | thermalTrip (sensor : Nat)
  | watchdog
  | agentRestart (core : Nat)
  | bootSequence (inp : BootInput)
  | lunarSample (sensor : Nat) (value : Nat)
  | alarm
  -- memory and boundaries
  | boundaryCheck (m : Master) (k : Access) (addr : Nat) (x : AccessForm)
  | sealedRead (m : Master) (addr fails : Nat) (integ : Bool)
  | sealedWrite (m : Master) (addr fails : Nat) (bytes : Bytes) (integ : Bool)
  | scrub (place idx : Nat) (correctable : Bool)
  | healthSample (sensor : Nat) (value : Nat)
  | drbgReseed
  | rngHealthWindow (rctFail aptFail : Bool)
  | ucuJobDone
  | ucuLeaseExpiry
  | errataRecord
  | summaryFlush
  | sampleRecord
  | smbusRead (cmd : Nat)
  | smbusWrite (cmd : Nat)
  | debugToken (valid : Bool) (regions : List Nat)
  -- test access port
  | extest | idcode | samplePreload | extestPulse | extestTrain | clamp | highz | dap | bypass
  -- register commands
  | snapGo (m : Master) (page : Nat)
  | sysGsnapGo (m : Master)
  | qreq (m : Master) (page : Nat) (on : Bool)
  | srst (m : Master) (page : Nat)
  | blockEn (m : Master) (page : Nat) (on : Bool)
  | lock (m : Master) (page : Nat)
  | intForce (m : Master) (page : Nat) (v : Word)
  | intStatClear (m : Master) (page : Nat) (v : Word)
  | errInfoClear (m : Master) (page : Nat)
  | errCountWrite (m : Master) (page : Nat) (v : Word)
  | pmcWrite (m : Master) (page off : Nat) (v : Word)
  | intEoi (m : Master) (v : Word)
  | msixUnmask (m : Master) (vec : Nat)
  | sysCompatWrite (m : Master) (v : Word)
  | grtResvQuery (m : Master) (v : Word)
  | portLoopWrite (m : Master) (side : Side) (port : Nat) (v : Word)
  | portPfcThrWrite (m : Master) (side : Side) (port : Nat) (v : Word)
  | gazSeedWrite (m : Master) (k : Nat) (v : Word)
  | gazRdGo (m : Master)
  | conRdGo (m : Master)
  | orbRdGo (m : Master)
  | seqRdGo (m : Master)
  | eclRdGo (m : Master) (v : Word)
  | eclRdNext (m : Master)
  | swpSurveyStop (m : Master)
  | swpMisPop (m : Master)
  | almNotePop (m : Master)
  | eclNotePop (m : Master)
  | tsiWdata (m : Master) (v : Word)
  | tsiCopy (m : Master) (v : Word)
  | tsiCancel (m : Master) (dir : Dir)
  | tsiRidxWrite (m : Master) (v : Word)
  | bunWrite (m : Master)
  | bunRead (m : Master)
  | trbHunt (m : Master) (t : Nat)
  | apsCmdWrite (m : Master) (g : Nat) (v : Word)
  | hwyLoopWrite (m : Master) (h : Nat) (v : Word)
  | oldLoopWrite (m : Master) (v : Word)
  | merRateWrite (m : Master) (v : Word)
  | trgArm (m : Master) (k : Nat) (v : Word)
  | pmbRdGo (m : Master)
  | pmbTcaPop (m : Master)
  | schClrMax (m : Master)
  | sealB2mapWrite (m : Master) (k : Nat) (v : Word)
  | bdyCommit (m : Master) (u : Nat)
  | bdyCommitDrained (u : Nat)
  | bdyNoticePop (m : Master) (u : Nat)
  | ordCtrlEn (m : Master) (en : Bool)
  | ordSqTail (m : Master) (v : Word)
  | ordCqHead (m : Master) (v : Word)
  | eraCtrlEn (m : Master) (en : Bool)
  | eraCons (m : Master) (v : Word)
  | lrnRingCons (m : Master) (v : Word)
  | smpCtrlEn (m : Master) (en : Bool)
  | smpCons (m : Master) (v : Word)
  | ucuAcq (w : AcqWrite)
  | ucuRel (m : Master)
  | ucuForce (m : Master)
  | ucuGo (m : Master)
  | ucuKeysrcWrite (m : Master) (v : Word)
  | pkeAbort (m : Master) (area : Nat)
  | rngReq (m : Master)
  | rngReseed (m : Master)
  | registerWrite (m : Master) (off be : Nat) (v : WordRun)
  -- further events
  | highwayLosync (h : Nat) (lost : Bool)
  | oldunSyncChange (clk : Bool) (lanes : Nat) (desk : Bool) (skew errs : Nat)
  | vbatLoss
  | pcieLinkDown (up : Bool)
  | thermalRelease
  | supplyRelease (straps : Nat)
  | fwStageDone (readBackOk : Bool)
  | tsiCopyDone (dir : Dir)
  | segmentRewriteDone (seg : Nat)
  | zeroizeSweepDone (failed : List Nat)
  | controlFrameTx (side : Side) (port : Nat) (bytes : Bytes)
  | agentChoreItem (core : Nat) (a : GazEditArgs)
deriving DecidableEq, Repr

end Sys2Proof
end

