-- ==== Sys2Proof/Decode.lean ====
section
/-! DEFINITION. The command a table word spells. spec/opcode_table.json gives no row of the DX32 any bits: commands are not words
that a decoder reads. (The descriptors of host orders are read from memory: Machine/Operands.lean.) -/

namespace Sys2Proof

/-- No row of the table gives bits, so no word spells a command. DESIGN CHOICE, safe (log entry 5). -/
def decodeTableWord (_nbits _w : Nat) : Option Instr := none

end Sys2Proof
end

