-- ==== Sys2Proof/Machine/Bits.lean ====
section
/-! DEFINITION. Bit fields, byte orders and modular arithmetic used by every chapter (R5). -/

namespace Sys2Proof.Machine

/-- Field [hi:lo] of a word as a number. -/
def fld (w : Word) (hi lo : Nat) : Nat := w.toNat / 2 ^ lo % 2 ^ (hi - lo + 1)

/-- Bit `i` of a word. -/
def bit (w : Word) (i : Nat) : Bool := w.getLsbD i

/-- Put the number `v` into field [hi:lo] of `w`. -/
def setFld (w : Word) (hi lo v : Nat) : Word :=
  (w &&& ~~~ (BitVec.ofNat 32 ((2 ^ (hi - lo + 1) - 1) * 2 ^ lo))) |||
    BitVec.ofNat 32 (v % 2 ^ (hi - lo + 1) * 2 ^ lo)

/-- Set or clear bit `i`. -/
def setBit (w : Word) (i : Nat) (b : Bool) : Word := setFld w i i (if b then 1 else 0)

/-- 1 for true. -/
def b2n (b : Bool) : Nat := if b then 1 else 0

/-- A word from a number. -/
def wd (n : Nat) : Word := BitVec.ofNat 32 n

/-- The word with bit `i` alone. -/
def oneBit (i : Nat) : Word := BitVec.ofNat 32 (2 ^ i)

/-- A byte from a number. -/
def by8 (n : Nat) : Byte := BitVec.ofNat 8 n

/-- `n` bytes of `v`, most significant first (frames and headers, R5). -/
def beBytes : Nat → Nat → Bytes
  | 0, _ => []
  | n + 1, v => by8 (v / 2 ^ (8 * n)) :: beBytes n v

/-- `n` bytes of `v`, least significant first (registers and records, R5). -/
def leBytes : Nat → Nat → Bytes
  | 0, _ => []
  | n + 1, v => by8 v :: leBytes n (v / 256)

/-- The number a byte string spells, most significant byte first. -/
def beNat (bs : Bytes) : Nat := bs.foldl (fun a b => a * 256 + b.toNat) 0

/-- The number a byte string spells, least significant byte first. -/
def leNat : Bytes → Nat
  | [] => 0
  | b :: r => b.toNat + 256 * leNat r

/-- `n` bytes from offset `o`, padded with zeros past the end. -/
def slice (bs : Bytes) (o n : Nat) : Bytes :=
  let r := (bs.drop o).take n
  r ++ List.replicate (n - r.length) 0

/-- The byte at offset `o`, 0 past the end. -/
def byteAt (bs : Bytes) (o : Nat) : Byte := bs.getD o 0

/-- The big-endian number in `n` bytes at offset `o`. -/
def beAt (bs : Bytes) (o n : Nat) : Nat := beNat (slice bs o n)

/-- Bytewise exclusive or, as long as the shorter string. -/
def xorBytes (a b : Bytes) : Bytes := List.zipWith (· ^^^ ·) a b

/-- A byte string of zeros. -/
def zeros (n : Nat) : Bytes := List.replicate n 0

/-- Little-endian words as bytes. -/
def wordsToBytes (ws : List Word) : Bytes := ws.flatMap (fun w => leBytes 4 w.toNat)

/-- `n` little-endian words of a byte string. -/
def bytesToWords : Nat → Bytes → List Word
  | 0, _ => []
  | n + 1, bs => wd (leNat (slice bs 0 4)) :: bytesToWords n (bs.drop 4)

/-- The signed value of an `n`-bit two's complement number. -/
def signed (n v : Nat) : Int := if v % 2 ^ n < 2 ^ (n - 1) then (v % 2 ^ n : Int) else (v % 2 ^ n : Int) - 2 ^ n

/-- The `n`-bit two's complement form of an integer. -/
def twos (n : Nat) (v : Int) : Nat := (v % (2 ^ n : Int)).toNat

/-- Bits of a byte string, each byte most significant bit first. -/
def msbBits (bs : Bytes) : List Bool :=
  bs.flatMap (fun b => [b.getLsbD 7, b.getLsbD 6, b.getLsbD 5, b.getLsbD 4, b.getLsbD 3, b.getLsbD 2, b.getLsbD 1, b.getLsbD 0])

/-- A number from bits, most significant first. -/
def bitsNat (l : List Bool) : Nat := l.foldl (fun a b => 2 * a + b2n b) 0

/-- Bytes from bits, most significant bit first, `n` bytes, missing bits 0. -/
def bitsBytes : Nat → List Bool → Bytes
  | 0, _ => []
  | n + 1, l =>
    let h := l.take 8
    by8 (bitsNat (h ++ List.replicate (8 - h.length) false)) :: bitsBytes n (l.drop 8)

/-- Ceiling division. -/
def cdiv (a b : Nat) : Nat := (a + b - 1) / b

/-- Difference of two tick numbers modulo 2^32 (R26). -/
def tdiff (a b : Tick) : Nat := (a - b).toNat

/-- A tick-scheduled item with target `t` is due at `now` (R26). -/
def isDue (now t : Tick) : Bool := tdiff now t < 2 ^ 31

/-- 64-bit wrap-around addition of counters (R78, R167). -/
def add64 (a n : Nat) : Nat := (a + n) % 2 ^ 64

/-- Keep the first element for each equal key. -/
def dedupKey {α : Type} (key : α → Nat) : List α → List Nat → List α
  | [], _ => []
  | a :: r, seen => if seen.contains (key a) then dedupKey key r seen else a :: dedupKey key r (key a :: seen)

/-- Replace the elements that satisfy `p`. -/
def mapIf {α : Type} (p : α → Bool) (f : α → α) (l : List α) : List α := l.map (fun a => if p a then f a else a)

end Sys2Proof.Machine
end

