-- ==== Sys2Proof/Machine/Crc.lean ====
section
/-! DEFINITION. The cyclic checks of the spec: CRC-16 (R139, R217, R263), CRC-32C (R122, R314, R319),
the frame check sequence of 802.3 (R95, R173) and CRC-64 (R326). -/

namespace Sys2Proof.Machine

/-- One bit of a most-significant-first CRC of width `n`. -/
def crcBit (n poly : Nat) (c : Nat) (b : Bool) : Nat :=
  let top := c / 2 ^ (n - 1) % 2
  let sh := c * 2 % 2 ^ n
  if top != b2n b then sh ^^^ poly else sh

/-- A CRC over bits taken most significant first, without final exclusive or. -/
def crcBits (n poly init : Nat) (l : List Bool) : Nat := l.foldl (crcBit n poly) init

/-- CRC-16 with polynomial 0x1021 and initial value 0xFFFF (R139, R217, R263). -/
def crc16 (bs : Bytes) : Nat := crcBits 16 0x1021 0xFFFF (msbBits bs)

/-- CRC-64 with polynomial 0x42F0E1EBA9EA3693, initial value 0, no final exclusive or (R326). -/
def crc64 (bs : Bytes) : Nat := crcBits 64 0x42F0E1EBA9EA3693 0 (msbBits bs)

/-- Eight steps of a reflected 32-bit CRC. -/
def crcRefl (poly : Nat) : Nat → Nat → Nat
  | 0, c => c
  | k + 1, c => crcRefl poly k (if c % 2 = 1 then (c / 2) ^^^ poly else c / 2)

/-- A reflected 32-bit CRC register after a byte string. -/
def crc32Reg (poly init : Nat) (bs : Bytes) : Nat :=
  bs.foldl (fun c b => crcRefl poly 8 (c ^^^ b.toNat)) init

/-- CRC-32C, reflected polynomial 0x1EDC6F41, the given initial register, final exclusive or of ones (R122, R319). -/
def crc32c (init : Nat) (bs : Bytes) : Nat := crc32Reg 0x82F63B78 init bs ^^^ 0xFFFFFFFF

/-- A CRC-32C with initial value 0xFFFFFFFF goes on over further bytes. -/
def crcOn (c : Nat) (b : Bytes) : Nat := crc32c (c ^^^ 0xFFFFFFFF) b

/-- The CRC-32 of 802.3 (reflected 0x04C11DB7) of a frame without its FCS. -/
def crc32 (bs : Bytes) : Nat := crc32Reg 0xEDB88320 0xFFFFFFFF bs ^^^ 0xFFFFFFFF

/-- The four FCS bytes that follow a frame on the wire, in the bit order of 802.3 (least significant byte first). -/
def fcsBytes (bs : Bytes) : Bytes := leBytes 4 (crc32 bs)

/-- CRC-4 of G.704 (x^4 + x + 1) over the bits of a sub-multiframe. -/
def crc4 (l : List Bool) : Nat := crcBits 4 0x3 0 l

/-- CRC-6 of the T1 extended superframe (x^6 + x + 1). -/
def crc6 (l : List Bool) : Nat := crcBits 6 0x3 0 l

/-- The one's complement sum checksum of an IPv4 header (R181). -/
def ipChecksum (bs : Bytes) : Nat :=
  let rec go : Nat → Bytes → Nat
    | 0, _ => 0
    | k + 1, l => match l with
      | a :: b :: r => a.toNat * 256 + b.toNat + go k r
      | _ => 0
  let s := go 40 bs
  let s := s % 65536 + s / 65536
  let s := s % 65536 + s / 65536
  65535 - s

end Sys2Proof.Machine
end

