-- ==== Sys2Proof/Config.lean ====
section
/-! DEFINITION. What the spec leaves open and the model leaves free: constants without a body, so that nothing can be
proved of their values. -/

namespace Sys2Proof.Config

/-- The stream of DRBG and TRNG output, byte by byte (R429, R451, R453): random values are free.
DESIGN CHOICE, safe (log entry 10). -/
opaque rnd : Nat → Byte

/-- The device-unique secret fused at manufacture (R429). DESIGN CHOICE, safe (log entry 11). -/
opaque dus : Nat → Byte

/-- ROM test key number n, byte i (R58, R202). DESIGN CHOICE, safe (log entry 11). -/
opaque romKey : Nat → Nat → Byte

/-- LEGEND_CAP.PMC_EVENTS of a page whose chapter does not give it (R70), beyond the events of R82.
DESIGN CHOICE, safe (log entry 11). -/
opaque pmcEvents : Nat → Nat

/-- Bytes a UCU job has written to its destination at a clock of CYC, when it is ended by force (R442).
DESIGN CHOICE, safe (log entry 12). -/
opaque ucuWritten : Nat → Nat

/-- Clocks a LOAD_CURVE takes, at most 40 ms (R444). DESIGN CHOICE, safe (log entry 12). -/
opaque loadCurveClk : Nat → Nat

/-- The firmware public key in boot ROM (R456). DESIGN CHOICE, safe (log entry 11). -/
opaque fwKeyX : Nat
opaque fwKeyY : Nat

/-- The device's certificate in eMRAM (R454, CRT page): its length and bytes.
DESIGN CHOICE, safe (log entry 11). -/
opaque certLen : Nat
opaque cert : Nat → Byte

/-- The board chart entries in use on the lanes of a page (R94, R261): the chart is the board's and the spec does not give it.
DESIGN CHOICE, safe (log entry 11). -/
opaque chart : Nat → BitVec 32

/-- The byte a highway symbol that is no data code-group stands for in a slot (R262, R264): by tick, symbol number and code-group.
DESIGN CHOICE, safe (log entry 12). -/
opaque badSym : Nat → Nat → Nat → Byte

/-- The position at which a highway's looped frame arrives (R267), and the latency in ns of a looped heartbeat (R321).
DESIGN CHOICE, safe (log entry 12). -/
opaque loopPos : Nat → Nat
opaque loopNs : Nat

/-- The FCS a frame arrived with when it was not the correct one (R326), by the correct one: the commands do not carry it.
DESIGN CHOICE, safe (log entry 12). -/
opaque badFcs : Nat → BitVec 32

/-- Byte `i` of the GHASH state of a pipeline that works a frame, by CYC at its dispatch (R196): how the shares of a gang are laid
out is not given. DESIGN CHOICE, safe (log entry 12). -/
opaque ghashState : Nat → Nat → Nat → Byte

/-- Whether the reads of a self-check that ends in a tick find an uncorrectable error or a failing check code (R328): the spec does not
say when a memory fails. DESIGN CHOICE, safe (log entry 12). -/
opaque readError : Nat → Bool

/-- BDY_CLASSES of Boundary unit 7, which serves no class (R383). DESIGN CHOICE, safe (log entry 11). -/
opaque noClass : Nat

end Sys2Proof.Config
end

