-- ==== Sys2Proof/Machine/Pages.lean ====
section
/-! DEFINITION. The register pages of BAR0: which page stands where, its identity, its interrupt source and vector
(R62, R63), and the constant LEGEND_CAP fields each chapter gives its page. -/

namespace Sys2Proof.Machine

/-- The kinds of register page (R62). -/
inductive PageKind
  | sys | grt | int | plain | line | gaz | con | lrn | swp | orb | ecl | alm | seq | pipe | sch | trn | hwy | trb
  | tsi | bun | pmb | aps | twn | old | mer | trg | mem | seal | bdy | lun | ord | era | ucu | pke | rng | fwu | hlt
  | smp | crt
deriving DecidableEq, Repr

/-- One row of the page map of R62: the first page number, how many instances follow, the block type, the first
source index, the vector at reset and the number of block-specific INT_STAT bits. -/
structure PageRow where
  kind : PageKind
  first : Nat
  count : Nat
  type : Nat
  src : Nat
  vec : Nat
  srcs : Nat
deriving DecidableEq, Repr

/-- The page map (R62); page numbers are BAR0 offsets divided by 0x1000. -/
def pageMap : List PageRow :=
  [⟨.sys, 0x0, 1, 0x001, 0, 0, 2⟩, ⟨.grt, 0x1, 1, 0x002, 1, 0, 3⟩, ⟨.int, 0x2, 1, 0x003, 2, 0, 0⟩,
   ⟨.plain, 0x10, 16, 0x010, 32, 16, 8⟩, ⟨.line, 0x20, 16, 0x011, 48, 32, 8⟩,
   ⟨.gaz, 0x30, 1, 0x020, 18, 8, 3⟩, ⟨.con, 0x31, 1, 0x021, 19, 8, 2⟩, ⟨.lrn, 0x32, 1, 0x022, 20, 8, 4⟩,
   ⟨.swp, 0x33, 1, 0x023, 21, 8, 4⟩, ⟨.orb, 0x40, 1, 0x030, 22, 9, 3⟩, ⟨.ecl, 0x41, 1, 0x031, 23, 9, 4⟩,
   ⟨.alm, 0x42, 1, 0x032, 24, 9, 5⟩, ⟨.seq, 0x43, 1, 0x033, 25, 9, 2⟩, ⟨.pipe, 0x50, 42, 0x040, 64, 48, 5⟩] ++
  [⟨.sch, 0x80, 1, 0x050, 26, 10, 4⟩, ⟨.trn, 0x81, 1, 0x051, 27, 10, 3⟩, ⟨.hwy, 0x90, 8, 0x060, 112, 11, 4⟩,
   ⟨.trb, 0xA0, 16, 0x061, 120, 11, 18⟩, ⟨.tsi, 0xB0, 1, 0x062, 28, 11, 2⟩, ⟨.bun, 0xB1, 1, 0x063, 29, 11, 3⟩,
   ⟨.pmb, 0xB2, 1, 0x064, 30, 11, 4⟩, ⟨.aps, 0xB3, 1, 0x065, 31, 11, 3⟩, ⟨.twn, 0xC0, 1, 0x070, 14, 6, 8⟩,
   ⟨.old, 0xC1, 1, 0x071, 15, 6, 3⟩, ⟨.mer, 0xD0, 1, 0x080, 16, 7, 6⟩, ⟨.trg, 0xD1, 1, 0x081, 17, 7, 8⟩] ++
  [⟨.mem, 0xE0, 8, 0x090, 136, 12, 3⟩, ⟨.seal, 0xE8, 1, 0x091, 13, 5, 4⟩, ⟨.bdy, 0xF0, 8, 0x0A0, 144, 5, 4⟩,
   ⟨.lun, 0xF8, 1, 0x0A1, 12, 5, 18⟩, ⟨.ord, 0x100, 1, 0x0B0, 3, 1, 3⟩, ⟨.era, 0x101, 1, 0x0B1, 4, 2, 4⟩,
   ⟨.ucu, 0x102, 1, 0x0B2, 5, 3, 2⟩, ⟨.pke, 0x103, 1, 0x0B3, 6, 3, 3⟩, ⟨.rng, 0x104, 1, 0x0B4, 7, 3, 2⟩,
   ⟨.fwu, 0x105, 1, 0x0B5, 8, 4, 3⟩, ⟨.hlt, 0x106, 1, 0x0B6, 9, 4, 3⟩, ⟨.smp, 0x107, 1, 0x0B7, 10, 4, 2⟩,
   ⟨.crt, 0x108, 1, 0x0B8, 11, 3, 0⟩]

/-- The row and the instance of page number `n`; `none` for an unassigned page (R63). -/
def pageRowAt (n : Nat) : Option (PageRow × Nat) :=
  (pageMap.find? (fun r => r.first ≤ n && n < r.first + r.count)).map (fun r => (r, n - r.first))

/-- The kind and instance of page number `n`. -/
def pageAt (n : Nat) : Option (PageKind × Nat) := (pageRowAt n).map (fun r => (r.1.kind, r.2))

/-- The first page number of a page kind. -/
def pageFirst : PageKind → Nat
  | .sys => 0x0 | .grt => 0x1 | .int => 0x2 | .plain => 0x10 | .line => 0x20 | .gaz => 0x30 | .con => 0x31
  | .lrn => 0x32 | .swp => 0x33 | .orb => 0x40 | .ecl => 0x41 | .alm => 0x42 | .seq => 0x43 | .pipe => 0x50
  | .sch => 0x80 | .trn => 0x81 | .hwy => 0x90 | .trb => 0xA0 | .tsi => 0xB0 | .bun => 0xB1 | .pmb => 0xB2
  | .aps => 0xB3 | .twn => 0xC0 | .old => 0xC1 | .mer => 0xD0 | .trg => 0xD1 | .mem => 0xE0 | .seal => 0xE8
  | .bdy => 0xF0 | .lun => 0xF8 | .ord => 0x100 | .era => 0x101 | .ucu => 0x102 | .pke => 0x103 | .rng => 0x104
  | .fwu => 0x105 | .hlt => 0x106 | .smp => 0x107 | .crt => 0x108

/-- The page number of instance `i` of a kind. -/
def pg (k : PageKind) (i : Nat := 0) : Nat := pageFirst k + i

/-- The page number of a port's page. -/
def portPage : Side → Nat → Nat
  | .plain, p => pg .plain p
  | .line, p => pg .line p

/-- The BAR0 offset of a register. -/
def ra (page off : Nat) : Nat := page * 0x1000 + off

/-- The interrupt source index of a page (R62). -/
def pageSrc (n : Nat) : Nat :=
  match pageRowAt n with
  | some (r, i) => r.src + i
  | none => 0

/-- The vector a source is mapped to at reset; `none` where R62 maps none. -/
def srcVecAtReset (src : Nat) : Option Nat :=
  match pageMap.find? (fun r => r.src ≤ src && src < r.src + r.count) with
  | some r =>
    let i := src - r.src
    some (match r.kind with
      | .plain | .line => r.vec + i
      | .pipe => if i ≤ 20 then 48 else 49
      | _ => r.vec)
  | none => none

/-- The pages whose QUIESCABLE bit is 1: the cipher pipelines (R205). -/
def quiescable (n : Nat) : Bool :=
  match pageAt n with
  | some (.pipe, _) => true
  | _ => false

/-- The pages that hold a frame-tag stage point (TAGPOINT = 1). -/
def tagPoint (n : Nat) : Bool :=
  match pageAt n with
  | some (k, _) => k == .plain || k == .line || k == .gaz || k == .orb || k == .pipe || k == .sch || k == .bun
  | none => false

/-- The mask of the block-specific INT_STAT bits a page implements, with ERR and PMC_OVF (R70, R73). -/
def intMask (n : Nat) : Word :=
  match pageRowAt n with
  | some (r, _) => wd (2 ^ r.srcs - 1) ||| 0xC0000000
  | none => 0

/-- LEGEND_CAP.PMC_EVENTS: 8 on a pipeline's page (R206). Every page accepts the events of R82; the spec lists none beyond them
for another page and gives no greatest number there, so what a page accepts above 3 is a free value. -/
def pmcMax (n : Nat) : Nat :=
  match pageAt n with
  | some (.pipe, _) => 8
  | _ => 3 + Config.pmcEvents n % 253

/-- The class number of a master (R381). -/
def mCls : Master → Nat
  | .host => 0 | .tircy _ => 1 | .agentUser _ => 2 | .agentKernel _ => 2 | .debug => 3 | .orbit => 4 | .record => 5
  | .pke => 6 | .ucu => 7 | .twin => 8 | .loader => 9

/-- Whether a master accesses as privileged (R381). -/
def mPriv : Master → Bool
  | .agentUser _ => false
  | _ => true

/-- The core number of a core master, 0 for the others (R441). -/
def mCore : Master → Nat
  | .tircy c => c | .agentUser c => c | .agentKernel c => c | _ => 0

/-- The snapshot set a master captures and reads: 0 the host's, 1 the control cluster's (R78), which a master that is neither uses too.
DESIGN CHOICE, unsafe (log entry 92). -/
def mSet : Master → Nat
  | .host => 0
  | _ => 1

end Sys2Proof.Machine
end

