-- ==== Sys2Proof/Machine/RegMap.lean ====
section
/-! DEFINITION. The register maps of every page: which registers stand where, what a write may change, the range each
field accepts and the value at reset. One list per page kind, from the register tables of each block's chapter. -/

namespace Sys2Proof.Machine

/-- How a register takes a write (R66): wholly read-only, write-only, lockable or plain read-write. -/
inductive RegAcc | ro | wo | rw | rwl | w1c
deriving DecidableEq, Repr

/-- `n` registers from page offset `off`, `stride` apart: access, writable bits, reset value, and for each checked
field (hi, lo, least, greatest). -/
structure RegRow where
  off : Nat
  n : Nat
  stride : Nat
  acc : RegAcc
  mask : Nat
  rst : Nat
  rng : List (Nat × Nat × Nat × Nat)
deriving DecidableEq, Repr

/-- Rows of each access. -/
def rRO (off n : Nat) : RegRow := ⟨off, n, 4, .ro, 0, 0, []⟩
def rROv (off rst : Nat) : RegRow := ⟨off, 1, 4, .ro, 0, rst, []⟩
def rWO (off n : Nat) : RegRow := ⟨off, n, 4, .wo, 0, 0, []⟩
def rRW (off n mask rst : Nat) (rng : List (Nat × Nat × Nat × Nat) := []) : RegRow := ⟨off, n, 4, .rw, mask, rst, rng⟩
def rRWs (off n stride mask rst : Nat) (rng : List (Nat × Nat × Nat × Nat) := []) : RegRow :=
  ⟨off, n, stride, .rw, mask, rst, rng⟩
def rRWL (off n mask rst : Nat) (rng : List (Nat × Nat × Nat × Nat) := []) : RegRow := ⟨off, n, 4, .rwl, mask, rst, rng⟩

/-- The Legend header of every page (R70). -/
def legendRows : List RegRow :=
  [rRO 0x000 2, rRW 0x008 1 0x80000005 1, rRO 0x00C 1, ⟨0x010, 1, 4, .w1c, 0xFFFFFFFF, 0, []⟩, rRW 0x014 1 0xFFFFFFFF 0,
   rWO 0x018 1, rRO 0x01C 1, ⟨0x020, 1, 4, .w1c, 0xC0000000, 0, []⟩, rRO 0x024 2, rRW 0x02C 1 0xFFFFFFFF 0, rWO 0x040 1,
   rRO 0x044 2, rRO 0x080 2, rRW 0x088 8 0xFFFFFFFF 0, rRW 0x0A8 8 0x8000FFFF 0, rRW 0x0C8 1 0xFF1F030F 0]

/-- SYS page (chapter 03, R87). SYS_PART reads 0x0D32_0001. -/
def sysRows : List RegRow :=
  [rRO 0x100 1, rRW 0x104 1 0x1F 0x1E, rRO 0x108 1, rROv 0x10C 0x0D320001, rRO 0x110 1, rWO 0x114 1, rRW 0x118 1 1 0,
   rRW 0x11C 2 0xFFFFFFFF 0]

/-- GRT page (R88). -/
def grtRows : List RegRow :=
  [rRO 0x100 8, rRW 0x120 1 0xFFFF 8, rRW 0x124 1 0xFFFFFFFF 0, rRO 0x128 1]

/-- INT page (R84). INT_VEC_MAP resets by R62, the MSI-X table masked, as PCIe specifies. -/
def intRows : List RegRow :=
  [rRO 0x100 8, rRW 0x200 64 0xBFBFBFBF 0, rWO 0x300 1, rRO 0x304 3, rRW 0x800 256 0xFFFFFFFF 0, rRO 0xC00 2]

/-- Port pages (R116); the plain and line pages share one layout. -/
def portRows : List RegRow :=
  [rRW 0x100 1 0x307 0 [(9, 8, 0, 2), (2, 0, 0, 5)], rRO 0x104 1, rRW 0x108 1 0xFF06 0xA00 [(15, 8, 1, 255)], rRO 0x10C 2,
   rRW 0x114 1 0x1FFF1FFF 0, rRW 0x118 1 0x80FFFFFF 0, rRW 0x11C 1 0xC00300FF 0xA [(7, 0, 1, 128)],
   rRW 0x120 1 3 0, rRO 0x124 1, rRW 0x128 1 0xFFFFFFFF 0, rRW 0x12C 1 0xFFFF 0,
   rRW 0x140 8 0xBF00FFFF 0 [(29, 28, 0, 2)], rRO 0x200 40]

/-- GAZ page (R142). -/
def gazRows : List RegRow :=
  [rRW 0x100 2 0xFFFFFFFF 0, rRO 0x108 2, rRW 0x110 1 0x3FFFFF 0x1E6666, rRW 0x114 1 0 0, rRO 0x118 1, rRW 0x11C 1 0x8F0F0000 0,
   rRW 0x120 4 0xFFFFFFFF 0, rRW 0x130 1 0xFF 0, rRO 0x140 6,
   rRW 0x180 16 0xFF5FFFFF 0 [(31, 30, 0, 2), (29, 26, 1, 4), (25, 24, 0, 1)], rRO 0x200 10,
   rRW 0x800 256 0xFFFFFFFF 0, rRW 0xC00 2 0xFFFFFFFF 0]

/-- CON page (R142). -/
def conRows : List RegRow :=
  [rRO 0x100 1, rRW 0x104 1 0xFFFF 0, rRW 0x108 1 0 0, rRO 0x140 12, rRO 0x200 6]

/-- LRN page (R142). -/
def lrnRows : List RegRow :=
  [rRW 0x100 1 0xFFFF0001 0x1F400000, rRW 0x104 1 0x0FFFF000 0, rRO 0x108 1, rRW 0x10C 1 0x1FFF 0,
   rRW 0x110 4 0xBF1FFFFF 0 [(29, 28, 0, 2)], rRO 0x120 5, rRO 0x200 16]

/-- SWP page (R142). -/
def swpRows : List RegRow :=
  [rRW 0x100 1 0x8000000F 0, rRW 0x104 1 0xFF 0x10 [(7, 0, 1, 255)], rRO 0x108 2, rWO 0x110 1, rRO 0x114 5, rWO 0x128 1,
   rRO 0x12C 1, rRO 0x200 14]

/-- ORB, SEQ, ALM and ECL pages (R171, R226, R239). -/
def orbRows : List RegRow :=
  [rRO 0x100 6, rRW 0x120 1 0x1FFFFF 0, rRW 0x124 1 0 0, rRO 0x128 1, rRO 0x200 10, rRO 0x400 64]
def seqRows : List RegRow := [rRW 0x100 1 0x1FFFFF 0, rRW 0x104 1 0 0, rRO 0x108 3, rRO 0x200 6]
def almRows : List RegRow := [rRO 0x100 2, rRO 0x140 48, rRO 0x200 12, rRO 0x300 16, rRO 0x380 2, rWO 0x388 1, rRO 0x38C 1]
def eclRows : List RegRow :=
  [rRO 0x100 2, rRW 0x108 1 0xFFFFFFFF 0x1F400050 [(31, 16, 8, 65535), (15, 0, 2, 65535)], rRW 0x10C 1 0xF 0, rRO 0x110 2,
   rRW 0x120 1 0x1FFFFF 0, rRW 0x124 1 3 0, rRO 0x128 4, rRO 0x200 12, rRO 0x380 2, rWO 0x388 1, rRO 0x38C 1]

/-- Cipher pipeline pages (R206). -/
def pipeRows : List RegRow := [rRO 0x100 1, rROv 0x104 0x3F000000, rRO 0x108 5, rRO 0x200 18]

/-- SCH and TRN pages (R258). -/
def schRows : List RegRow :=
  [rRW 0x100 1 0xF000F 0x40004 [(19, 16, 0, 8), (3, 0, 0, 8)], rRW 0x104 1 0x7FF 0x100 [(10, 0, 0, 1024)],
   rRW 0x108 1 0xFFFFFFFF 0xC000C000, rRW 0x10C 1 0xFFFFFFFF 0x1400050 [(31, 16, 1, 65535), (15, 0, 1, 65535)],
   rRO 0x110 2, rWO 0x118 1, rRW 0x140 32 0x3FF 0, rRW 0x200 32 0xFFFFFFFF 0x1040000 [(31, 24, 1, 255), (23, 16, 1, 255)],
   rRW 0x280 32 0xFFFFFFFF 0x8001000, rRO 0x300 32, rRO 0x400 14]
def trnRows : List RegRow :=
  [rRW 0x100 1 0x8000FFFF 0x4B0 [(15, 0, 1200, 65535)], rRO 0x104 2, rRO 0x200 10, rRWs 0x400 256 8 0xFFFFFFFF 0,
   rRWs 0x404 256 8 0xFFFFFFFF 0 [(16, 0, 0, 124999)]]

/-- Circuit plane pages (R281, R305). -/
def hwyRows : List RegRow := [rRW 0x100 1 0x80000000 0, rRO 0x104 1, rRW 0x108 1 3 0, rRO 0x10C 1, rRO 0x200 12]
def trbRows : List RegRow :=
  [rRWs 0x100 16 0xF0 0xB0000000 0 [(29, 28, 0, 2)], rRWs 0x104 16 0xF0 0xC0000000 0, ⟨0x108, 16, 0xF0, .ro, 0, 0, []⟩,
   ⟨0x10C, 16, 0xF0, .ro, 0, 0, []⟩, ⟨0x110, 16, 0xF0, .w1c, 0xFF, 0, []⟩, ⟨0x114, 16, 0xF0, .ro, 0, 0, []⟩] ++
    (List.range 16).map (fun j => ⟨0x120 + 4 * j, 16, 0xF0, .ro, 0, 0, []⟩)
def apsRows : List RegRow :=
  [rRO 0x200 2, rRWs 0x400 128 8 0xC0FF00FF 0x40000000, rRWs 0x404 128 8 0xE000FFFF 0 [(31, 29, 0, 5)], rRO 0x800 128]
def tsiRows : List RegRow :=
  [rRO 0x100 1, rRW 0x104 1 0xFF 0xFF, rRO 0x108 2, rRW 0x110 1 0x80001FFF 0, rWO 0x114 1, rRW 0x118 1 0xC0001FFF 0, rRO 0x11C 1,
   rWO 0x120 2, rRO 0x200 4]
def bunRows : List RegRow :=
  [rRW 0x100 1 0xFFFF 0x88B5, rRW 0x104 1 0xFFFFFFFF 0, rRW 0x108 1 0xFFFF 0, rRW 0x10C 1 0xFFFF 0x1F4, rRO 0x110 2,
   rRW 0x120 1 0x3FF 0, rRW 0x124 1 0 0, rRW 0x140 1 0xFE1FFFFF 0, rRW 0x144 1 0xFFFF1FFF 0, rRW 0x148 1 0xF37F07FF 0,
   rRW 0x14C 1 0x1FFFF 0, rRW 0x150 1 0xFFFFFFFF 0, rRW 0x154 1 0x1FFFFFFF 0, rRW 0x158 2 0 0, rRO 0x180 8, rRO 0x200 18]
def pmbRows : List RegRow :=
  [rRW 0x100 1 0x80000000 0, rRW 0x104 1 0x0FFF0000 0, rRW 0x108 1 0xFFFF 0, rRO 0x10C 2, rRW 0x114 1 0x7FF 0, rRW 0x118 1 0 0,
   rRO 0x120 8, rRW 0x140 6 0xFFFFFFFF 0, rRO 0x160 2, rWO 0x168 1, rRO 0x16C 1, rRO 0x200 4]

/-- Twin and Oldun pages (R336). -/
def twnRows : List RegRow :=
  [rRW 0x100 1 0xFFFF 0, rROv 0x104 0xF0000000, rRO 0x108 1, rRW 0x10C 1 0xFFFF 0x320 [(15, 0, 256, 65535)],
   rRW 0x110 1 0xFFFFFFFF 0x2101000, rRO 0x114 4, rRW 0x124 1 0xFFFF 0, rRO 0x128 1, rRO 0x140 16, rRO 0x200 24]
def oldRows : List RegRow := [rRW 0x100 1 0x80000000 0, rRO 0x104 1, rRW 0x108 1 3 0, rRO 0x10C 2, rRO 0x200 16]

/-- Meridian and Trig pages (chapter 14). -/
def merRows : List RegRow :=
  [rRW 0x100 1 0xFF0113 0 [(23, 16, 0, 127), (1, 0, 0, 2)], rRO 0x104 1, rRW 0x108 1 0xFFFFFFFF 0, rRO 0x10C 6,
   rRW 0x124 1 0xFFFF 0x3E8 [(15, 0, 20, 1000)], rRW 0x128 1 0xFFFF 0x3C [(15, 0, 1, 65535)], rRO 0x12C 1,
   rRW 0x130 1 0xFFFF 0x40, rRW 0x134 1 0xFFFF 0x3E8 [(15, 0, 20, 65535)], rRO 0x140 3, rRW 0x14C 1 1 0, rRO 0x150 1,
   rRW 0x180 32 0xFFFFFFFF 0, rRW 0x200 32 0xFFFFFFFF 0, rRO 0x300 12]
def trgRows : List RegRow :=
  [rRWs 0x100 4 0x20 0xE0000000 0, rRWs 0x104 4 0x20 0xFFFFFFFF 0, rRWs 0x108 4 0x20 0xFFFF 0,
   rRWs 0x10C 4 0x20 0x3FFFFFFF 0 [(29, 0, 0, 999999999)], rRWs 0x110 4 0x20 0xFFFFFFFF 0xF4240, rRWs 0x114 4 0x20 0xFFFFFFFF 0x3E8,
   ⟨0x118, 4, 0x20, .ro, 0, 0, []⟩, rRO 0x200 8]

/-- Memory, Boundary and Lunar pages (chapters 15 and 16). -/
def memRows : List RegRow := [rRO 0x100 5, rRO 0x200 12]
def sealRows : List RegRow :=
  [rRO 0x100 3, rRW 0x120 2 0xFFFFFFFF 0x44444444, rRO 0x128 1, rRW 0x12C 1 0xFFF 0, rRO 0x130 2, rRO 0x140 8, rRO 0x200 18]
def bdyRows : List RegRow :=
  [rRO 0x100 1, rRW 0x104 1 0 0, rRO 0x108 6, rWO 0x120 1, rRO 0x124 1, rRO 0x200 14, rRWs 0x400 64 16 0xFFFFFFFF 0,
   rRWs 0x404 64 16 0xFFFFFFFF 0, rRWs 0x408 64 16 0xF000003F 0, rRWs 0x40C 64 16 0xFFFF 0, rRO 0x800 256]
def lunRows : List RegRow :=
  [rRO 0x100 1, rRWL 0x104 1 0x7F 0x7F, rRO 0x108 1, ⟨0x10C, 1, 4, .w1c, 0x1FFF, 0, []⟩, rRWL 0x110 9 0xFF 3 [(7, 0, 1, 255)],
   rRWL 0x150 1 0xFFFF 0x7DD3, rRO 0x154 2, rRWL 0x160 13 0x1E 1, rRO 0x1C0 1, rRW 0x1C4 1 7 0, rRO 0x1C8 3, rRO 0x200 6]

/-- Order, Errata and engine pages (chapters 17 to 19). -/
def ordRows : List RegRow :=
  [rRW 0x100 1 0x80000000 0, rRW 0x104 1 0x0FFFF000 0, rRW 0x108 1 0xF 6 [(3, 0, 6, 12)], rRW 0x10C 1 0xFFFFFFFF 0, rRO 0x110 1,
   rRW 0x114 1 0x0FFFF000 0, rRW 0x118 1 0x1F 6 [(4, 0, 6, 16)], rRW 0x11C 1 0xFFFFFFFF 0, rRO 0x120 3, rRO 0x200 16]
def eraRows : List RegRow :=
  [rRW 0x100 1 0x80000000 0, rRW 0x104 1 0x0FFFF000 0, rRO 0x108 1, rRW 0x10C 1 0xFFFFFFFF 0,
   rRW 0x110 1 0x1FFFF 0xF000 [(16, 0, 1, 65536)], rRO 0x120 8, rRW 0x140 1 0xFF 0, rRO 0x144 1, rRO 0x160 16, rRO 0x200 16]
def ucuRows : List RegRow :=
  [rRW 0x100 1 0 0, rRW 0x104 1 0xFFFF 0x40 [(15, 0, 1, 65535)], rRW 0x108 1 0xFF01F17F 0 [(31, 24, 1, 13), (6, 0, 0, 64)],
   rRW 0x10C 1 0xFFFFFFFF 0, rRW 0x110 1 0xFFFF 0, rRW 0x114 1 0xFFFFFFFF 0, rRW 0x118 1 0xFFFF 0,
   rRW 0x11C 2 0x1FFFFFF 0 [(24, 0, 0, 16777216)], rWO 0x124 1, rRO 0x128 1, rWO 0x140 16,
   rRW 0x180 8 0xFFFFFFFF 0, rRO 0x1A0 16, rRO 0x200 8]
def pkeRows : List RegRow := [rRO 0x100 1, rWO 0x104 1, rRO 0x108 2, rRO 0x200 10]
def rngRows : List RegRow := [rRO 0x100 1, rWO 0x104 1, rRO 0x108 1, rWO 0x10C 1, rRO 0x140 16, rRO 0x200 12]
def fwuRows : List RegRow := [rRO 0x100 12, rRO 0x200 6]
def hltRows : List RegRow :=
  [rRO 0x100 3, rRO 0x110 8, rRO 0x130 10, rRO 0x160 6, rRW 0x180 1 0xFFFF 0x6964, rRO 0x184 3, rRWL 0x190 1 0x7F 0x5D [(6, 0, 8, 0x77)],
   rRO 0x1A0 8, rRO 0x200 12]
def smpRows : List RegRow :=
  [rRW 0x100 1 0x80000000 0, rRW 0x104 1 0x0FFFF000 0, rRO 0x108 1, rRW 0x10C 1 0xFFFFFFFF 0, rRO 0x110 1, rRO 0x200 6]
def crtRows : List RegRow := [rRO 0x100 4, rRO 0x200 24, rRO 0x300 12, rRO 0x400 256]

/-- The block-specific registers of a page kind. -/
def blockRows : PageKind → List RegRow
  | .sys => sysRows | .grt => grtRows | .int => intRows | .plain => portRows | .line => portRows | .gaz => gazRows
  | .con => conRows | .lrn => lrnRows | .swp => swpRows | .orb => orbRows | .ecl => eclRows | .alm => almRows
  | .seq => seqRows | .pipe => pipeRows | .sch => schRows | .trn => trnRows | .hwy => hwyRows | .trb => trbRows
  | .tsi => tsiRows | .bun => bunRows | .pmb => pmbRows | .aps => apsRows | .twn => twnRows | .old => oldRows
  | .mer => merRows | .trg => trgRows | .mem => memRows | .seal => sealRows | .bdy => bdyRows | .lun => lunRows
  | .ord => ordRows | .era => eraRows | .ucu => ucuRows | .pke => pkeRows | .rng => rngRows | .fwu => fwuRows
  | .hlt => hltRows | .smp => smpRows | .crt => crtRows

/-- The row of a page's list that holds page offset `off`. -/
def findRow (rows : List RegRow) (off : Nat) : Option RegRow :=
  rows.find? (fun r => r.off ≤ off && (off - r.off) % r.stride == 0 && (off - r.off) / r.stride < r.n)

/-- Whether a page of a kind lacks a register of the shared layout: PORT_GRP stands on P0, P8, L0 and L8 only, the
PFC registers on plain pages only (R116). -/
def absentReg (k : PageKind) (inst off : Nat) : Bool :=
  (k == .plain || k == .line) && ((off == 0x100 && inst % 8 != 0) || (k == .line && (off == 0x114 || off == 0x118)))

/-- The register at a BAR0 offset: its page's Legend header below 0x100, else the block's own map (R64, R70). -/
def regRow (a : Nat) : Option RegRow :=
  match pageAt (a / 0x1000) with
  | some (k, i) =>
    let off := a % 0x1000
    if absentReg k i off then none else findRow (if off < 0x100 then legendRows else blockRows k) off
  | none => none

/-- INT_VEC_MAP register `m` at reset: each source's vector of R62, DIS = 1 where R62 maps none. -/
def vecMapReset (m : Nat) : Nat :=
  let one := fun i => match srcVecAtReset (4 * m + i) with
    | some v => v * 2 ^ (8 * i)
    | none => 0x80 * 2 ^ (8 * i)
  one 0 + one 1 + one 2 + one 3

/-- LUN_RESP register `n` at reset (R403): bit 3 ERASE_KEK, bit 2 FAULT_N, bit 1 INT, bit 0 LOG. -/
def lunRespReset (n : Nat) : Nat :=
  if n ≤ 5 then 0xF else if n = 6 then 0x7 else if n ≤ 8 then 0x17 else 0x7

/-- The words BASE, LIMIT, ATTR and KMASK of region `n` of Boundary unit `u` at reset (R389). ATTR holds EN in bit 31,
LOCK in bit 30, CLS in bits 29:28 and the permissions PX PW PR UX UW UR in bits 5:0.
DEDUCED, unsafe (log entry 31). -/
def bdyRegionReset (u n : Nat) : List Nat :=
  match u, n with
  | 0, 62 => [0xF0000000, 0xF0000FFF, 0xD0000018, 0x0001]
  | 0, 63 => [0xF00000F0, 0xF00000F8, 0xD0000008, 0x0001]
  | 0, 61 => [0x00038000, 0x00047FFF, 0xD0000018, 0xFFF0]
  | 1, 0 => [0x00000000, 0xFFFFFFFF, 0x90000038, 0xFFFF]
  | 2, 0 => [0xF0000000, 0xF0000FFF, 0x90000018, 0x0001]
  | 2, 1 => [0x00048000, 0x00FFFFFF, 0x90000038, 0x0001]
  | 4, 0 => [0x00010000, 0x000307FF, 0xF0000018, 0x0002]
  | 4, 1 => [0x00030800, 0x00037FFF, 0xF0000018, 0x0004]
  | 5, 0 => [0x00038000, 0x00047FFF, 0x90000018, 0xFFF0]
  | 5, 1 => [0x00000000, 0x0000FFFF, 0xA0000010, 0x0008]
  | 6, 0 => [0x00048000, 0x00FFFFFF, 0xB0000018, 0x0001]
  | _, _ => [0, 0, 0, 0]

/-- A word of a Boundary page at reset: the staged regions at 0x400 and the active regions at 0x800 (R389). -/
def bdyReset (u off : Nat) : Nat :=
  if off < 0x400 then 0 else (bdyRegionReset u (off % 0x400 / 16)).getD (off % 16 / 4) 0

/-- The value a register holds at reset (R70 and the register tables). Rows whose instances differ are computed.
DESIGN CHOICE, unsafe (log entry 8). PRESUMED, unsafe (log entry 9). -/
def regReset (a : Nat) : Word :=
  let off := a % 0x1000
  match pageAt (a / 0x1000), regRow a with
  | some (.int, _), some r =>
    if r.off = 0x200 then wd (vecMapReset ((off - 0x200) / 4))
    else if r.off = 0x800 && off % 16 == 12 then 1 else wd r.rst
  | some (.bdy, u), some _ => wd (bdyReset u off)
  | some (.lun, _), some r => if r.off = 0x160 then wd (lunRespReset ((off - 0x160) / 4)) else wd r.rst
  | _, some r => wd r.rst
  | _, none => 0

end Sys2Proof.Machine
end

