-- ==== Sys2Proof/Machine/Sparse.lean ====
section
/-! DEFINITION. Sparse tables kept as plain data: a list of (key, value) pairs with keys strictly rising and no
entry equal to what an unlisted key reads as, so that equal tables are equal lists. -/

namespace Sys2Proof.Machine

/-- A sparse table from Nat keys; every unlisted key holds the table's default value. -/
abbrev Sparse (α : Type) := List (Nat × α)

/-- The value at key `k`; `d` is what an unlisted key holds. -/
def spGet {α : Type} (d : α) : Sparse α → Nat → α
  | [], _ => d
  | (a, v) :: r, k => if a = k then v else if k < a then d else spGet d r k

/-- Replace whatever stands at key `k` by the pair `(k, v)`, keeping the keys rising. -/
def spInsert {α : Type} (k : Nat) (v : α) : Sparse α → Sparse α
  | [] => [(k, v)]
  | (a, w) :: r => if a = k then (k, v) :: r else if k < a then (k, v) :: (a, w) :: r else (a, w) :: spInsert k v r

/-- Remove the entry at key `k`, if there is one. -/
def spErase {α : Type} (k : Nat) : Sparse α → Sparse α
  | [] => []
  | (a, w) :: r => if a = k then r else if k < a then (a, w) :: r else (a, w) :: spErase k r

/-- Write `v` at key `k`; writing the default removes the entry. -/
def spSet {α : Type} [DecidableEq α] (d : α) (m : Sparse α) (k : Nat) (v : α) : Sparse α :=
  if v = d then spErase k m else spInsert k v m

/-- Keys strictly rise from a lower bound. -/
def spSorted {α : Type} : Option Nat → Sparse α → Bool
  | _, [] => true
  | lo, (a, _) :: r => (match lo with | none => true | some l => decide (l < a)) && spSorted (some a) r

/-- The canonical form of a sparse table (keys strictly rising, no default entry). -/
def spWf {α : Type} [DecidableEq α] (d : α) (m : Sparse α) : Bool :=
  spSorted none m && m.all (fun e => decide (e.2 ≠ d))

/-- Keep the entries whose key satisfies `p`. -/
def spKeep {α : Type} (p : Nat → Bool) (m : Sparse α) : Sparse α := m.filter (fun e => p e.1)

end Sys2Proof.Machine
end

