-- ==== Sys2Proof/Machine/State.lean ====
section
/-! DEFINITION. The state of the DX32 as plain data: every register, table, queue, counter, mode and pin the spec gives
it, the reasons a command can stop, and the state right after reset. -/

namespace Sys2Proof.Machine

/-- Why the block stops with a fault. The spec gives the DX32 no way to stop: every failure it describes is an effect on
this state (an error captured, a record, a reset), so no meaning raises this one; it is safe. -/
inductive Fault
  /-- Raised by no command. Safe. -/
  | stuck
deriving DecidableEq, Repr

/-- Why a command is refused. -/
inductive Refusal
  /-- Raised by a dispatch arm whose command has no meaning yet. Safe. -/
  | notModelled (mnemonic : String)
deriving DecidableEq, Repr

/-- The twelve modes (R33). -/
inductive Mode
  | lunar | reset | boot | provision | configure | solo | twinJoin | twinEmit | twinHold | drain | diagnostic | zeroized
deriving DecidableEq, Repr

/-- The code SYS_MODE shows for a mode (R33). -/
def Mode.code : Mode → Nat
  | .lunar => 0x0 | .reset => 0x1 | .boot => 0x2 | .provision => 0x3 | .configure => 0x4 | .solo => 0x5
  | .twinJoin => 0x6 | .twinEmit => 0x7 | .twinHold => 0x8 | .drain => 0x9 | .diagnostic => 0xA | .zeroized => 0xB

/-- The mode a MODE_SET operand names (R413). -/
def Mode.ofCode : Nat → Option Mode
  | 0x0 => some .lunar | 0x1 => some .reset | 0x2 => some .boot | 0x3 => some .provision | 0x4 => some .configure
  | 0x5 => some .solo | 0x6 => some .twinJoin | 0x7 => some .twinEmit | 0x8 => some .twinHold | 0x9 => some .drain
  | 0xA => some .diagnostic | 0xB => some .zeroized | _ => none

/-- A trigger waiting for the next boundary: the mode it asks for, the CAUSE code of the SYS page, its rank in R38
and the MODE_SET order that waits for it, if one does. -/
structure ModeTrig where
  target : Mode
  cause : Nat
  rank : Nat
  ord : Option Nat
deriving DecidableEq, Repr

/-- What the device as a whole holds: mode, straps, pins and supplies (R33, R45, R472, R473, R491). -/
structure Dev where
  mode : Mode
  prev : Mode
  cause : Nat
  /-- SYS_STRAP: bits 3:2 BOOT_SRC, bit 1 TWIN_ID, bit 0 LEGACY_SEL. -/
  strap : Nat
  /-- SYS_FAULT.NO_IMAGE and SYS_FAULT.HEALTH. -/
  noImage : Bool
  health : Bool
  trig : List ModeTrig
  supply : Bool
  /-- VBAT holds the Lunar domain (at least 2.2 V), and LUN_STAT.VBAT_OK (at least 2.5 V). -/
  vbat : Bool
  vbatOk : Bool
  porst : Bool
  sysrst : Bool
  perst : Bool
  pcieUp : Bool
  /-- RESET held by a thermal trip until THERMAL_RELEASE, or by R491 until SUPPLY_RELEASE. -/
  holdThermal : Bool
  holdSupply : Bool
  /-- Ticks since entry into DRAIN. -/
  drainTicks : Nat
  alive : Bool
  /-- BOOT waits for FW_STAGE because neither image verified (R50). -/
  bootWait : Bool
  /-- BOOT has read the board chart (R50 step 3). -/
  chartRead : Bool
deriving DecidableEq, Repr

/-- Meridian and the tick (R4, R17, R81, R338): time in units of 2^-47 ns. -/
structure Time where
  run : Bool
  tick : Tick
  clk : Nat
  lastLen : Nat
  mer : Nat
  cyc : Nat
  rate : Word
  /-- MER_STAT.STEPPED: a step has completed since boot (R340). -/
  stepped : Bool
deriving DecidableEq, Repr

/-- The live contents of one page's Legend header (R70-R84). -/
structure Legend where
  lock : Bool
  qreq : Bool
  quiesced : Bool
  en : Bool
  fault : Bool
  ready : Bool
  intStat : Word
  intEn : Word
  errInfo : Word
  errLo : Word
  errHi : Word
  errCount : Word
  pmc : List Word
  pmcSel : List Word
  pmcCtrl : Word
  /-- Pending carries of chained pairs, bit k for PMC(2k) (R84). -/
  carry : Nat
deriving DecidableEq, Repr

/-- A Legend header at reset (R70): LEGEND_CTRL 0x0000_0001, everything else 0. -/
def Legend.init : Legend :=
  { lock := false, qreq := false, quiesced := false, en := true, fault := false, ready := false, intStat := 0, intEn := 0,
    errInfo := 0, errLo := 0, errHi := 0, errCount := 0, pmc := List.replicate 8 0, pmcSel := List.replicate 8 0,
    pmcCtrl := 0, carry := 0 }

/-- One captured snapshot set of a page (R78): tick, clock, CYC, PMCs and the page's snapshot registers by offset. -/
structure Snap where
  tick : Tick
  clk : Nat
  cyc : Nat
  pmc : List Word
  ctrs : List (Nat × Nat)
deriving DecidableEq, Repr

/-- A snapshot set nothing has captured yet. -/
def Snap.init : Snap := { tick := 0, clk := 0, cyc := 0, pmc := List.replicate 8 0, ctrs := [] }

/-- Interrupt delivery (R85-R88): the vectors asserted at the last evaluation, the PBA, the MSI-X function mask, and the
level FAULT_N last had. -/
structure Intr where
  asserted : Nat
  pba : Nat
  fmask : Bool
  faultN : Bool
deriving DecidableEq, Repr

/-- The status of a completion (R416). -/
inductive Status | ok | state | arg | busy | auth | fault | aborted | spent
deriving DecidableEq, Repr

/-- The code of a status (R416). -/
def Status.code : Status → Nat
  | .ok => 0 | .state => 1 | .arg => 2 | .busy => 3 | .auth => 4 | .fault => 5 | .aborted => 6 | .spent => 7

/-- An outstanding order that has not ended: a serial number of the model's own, and what its completion returns. -/
structure OrdRec where
  id : Nat
  tag : Word
  op : Nat
  int : Bool
deriving DecidableEq, Repr

/-- An order that has ended and waits for its completion record to be posted (R415). -/
structure EndRec where
  id : Nat
  tag : Word
  op : Nat
  int : Bool
  status : Status
  detail : Word
  tick : Tick
deriving DecidableEq, Repr

/-- The order rings (R409-R411): indices, outstanding orders in take order, and those ended but not yet posted.
`commit` holds orders whose chore item committed in the present tick (R25). -/
structure Ords where
  outs : List OrdRec
  ended : List EndRec
  commit : List (Nat × Status × Word)
  sqHead : Word
  sqTail : Word
  cqHead : Word
  cqTail : Word
  lastTag : Word
  nextId : Nat
deriving DecidableEq, Repr

/-- A failure record before it is written: the fields of R421 that the failure fixes. -/
structure ErrRec where
  tick : Tick
  kind : Nat
  dir : Nat
  consumed : Bool
  reason : Nat
  port : Nat
  cls : Nat
  aux : Nat
  sa : Nat
  len : Nat
  ident : Nat
deriving DecidableEq, Repr

/-- An overflow summary (R424): its count and the first and last failure that entered it. -/
structure Summary where
  count : Nat
  first : Option ErrRec
  last : Option ErrRec
deriving DecidableEq, Repr

/-- The Errata ring (R420-R426): `wait` holds failures in order that no ERRATA_RECORD has written yet. -/
structure Era where
  prod : Word
  cons : Word
  wait : List ErrRec
  sums : Sparse Summary
deriving DecidableEq, Repr

/-- One entry of the NV event log (R461). -/
structure LogEntry where
  num : Nat
  tick : Tick
  sec : Word
  type : Nat
  data : List Word
deriving DecidableEq, Repr

/-- The NV event log (R461): entries oldest first, how many were written in the present tick, and how many were
dropped since the last LOG_SUPPRESSED. -/
structure NvLog where
  next : Nat
  entries : List LogEntry
  inTick : Nat
  dropped : Nat
  copied : Nat
deriving DecidableEq, Repr

/-- What leaves the device, in order: frames, messages, pin levels and answers.
DESIGN CHOICE, safe (log entry 13). -/
inductive Emit
  | frame (side : Side) (port : Nat) (bytes : Bytes)
  | pfc (side : Side) (port : Nat) (bytes : Bytes)
  | transmitter (side : Side) (port kind : Nat)
  | verify (side : Side) (port : Nat) (response : Bool)
  | returned (side : Side) (port : Nat) (bytes : Bytes)
  /-- A frame delivered to an agent, for the PTP agent with its ingress timestamp in units of 2^-16 ns (R343). -/
  | agent (agent : Nat) (side : Side) (port : Nat) (bytes : Bytes) (stamp : Option Nat)
  /-- The egress timestamp of an event message, in the same units, returned to the PTP agent (R343). -/
  | stamp (side : Side) (port stamp : Nat)
  | msix (vec : Nat)
  | msi
  | pin (pin : Nat) (level : Bool)
  /-- The first four symbols of each Oldun lane in a tick (R318). -/
  | oldunHead (lanes : List (List Nat))
  /-- The blocks of a message and the slot of the tick at which they begin; none for what takes the slots left over or is returned
  by a loopback (R319, R321). -/
  | oldun (slot : Option Nat) (kind : Nat) (bytes : Bytes)
  | highway (h : Nat) (bytes : Bytes)
  | hwyReturned (h : Nat) (syms : List Nat)
  | smbus (bytes : Bytes)
  | nack
  | tap (reg : Nat)
  | data (bytes : Bytes)
  | busError
  | completerAbort
deriving DecidableEq, Repr

/-- One port's committed configuration and link state (R91, R96, R97, R105, R108, R115, R243). -/
structure Port where
  /-- Committed group mode and interface type (R91, R93), and partition size in 16 KiB units (R101). -/
  mode : Nat
  iftype : Nat
  part : Nat
  ingUp : Bool
  egUp : Bool
  /-- PORT_STAT.ALIGNED and TRAINING. -/
  aligned : Bool
  training : Bool
  /-- The order and start tick of a PORT_EQ in progress; PORT_EQ_SRC bit 16. -/
  eq : Option (Nat × Tick)
  eqTrained : Bool
  /-- PORT_STAT.VERIFY and attempts made (R108). -/
  verify : Nat
  verTries : Nat
  /-- PORT_STAT.PFC_XOFF and the Meridian time of the last PFC frame (R105). -/
  xoff : Bool
  pfcAt : Nat
  /-- Tropic credit in 1/8 B, deficits of the round robin, and the Meridian time they were last brought up (R243). -/
  credit : Int
  defTropic : Int
  defComet : Int
  credAt : Nat
  /-- The Polar load meter of R258: bytes above the token rate, in 1/8 B, and its time. -/
  meter : Nat
  meterAt : Nat
  /-- What the transmitter sends beside frames (R97, R114): 0 idle of a working link, 1 remote-fault ordered sets, 2 electrical
  idle. -/
  tx : Nat
  /-- Pause times of PFC frames not yet begun, oldest first, and the Meridian time at which the last one begun leaves the wire
  free (R105, R243). -/
  pfcWait : List Nat
  pfcEnd : Nat
deriving DecidableEq, Repr

/-- A port at reset: disabled and down, its transmitter in electrical idle. DESIGN CHOICE, unsafe (log entry 91). -/
def Port.init : Port :=
  { mode := 0, iftype := 0, part := 0, ingUp := false, egUp := false, aligned := false, training := false, eq := none,
    eqTrained := false, verify := 0, verTries := 0, xoff := false, pfcAt := 0, credit := 0, defTropic := 0, defComet := 0,
    credAt := 0, meter := 0, meterAt := 0, tx := 2, pfcWait := [], pfcEnd := 0 }

/-- A PORT_MAP accepted and waiting for its boundary (R92). -/
structure MapPend where
  ord : Nat
  side : Side
  group : Nat
  mode : Nat
  iftype : Nat
  parts : List Nat
deriving DecidableEq, Repr

/-- What a frame is (R240). -/
inductive FrameKind | sa | clear | bundle | control
deriving DecidableEq, Repr

/-- How far a frame has come (R7): waiting for admission, waiting for its record, ready for dispatch, in a gang,
finished and queued, or in emission. -/
inductive FrameStage | waiting | context | ready | gang | queued | emitting
deriving DecidableEq, Repr

/-- A frame the device holds between its reception and its end (R16). -/
structure Frame where
  id : Nat
  dir : Dir
  kind : FrameKind
  /-- Ingress port, egress port and class (0 Polar, 1 Tropic, 2 Comet). -/
  port : Nat
  dest : Nat
  cls : Nat
  /-- The frame as received, without its FCS, and what reception still owes: `bad` is the reason it will prove bad. -/
  bytes : Bytes
  bad : Option Nat
  receiving : Bool
  /-- The frame arrives as an express frame (R102, R109); a frame that is good is still arriving, and the Meridian time of its
  last bit. -/
  rxExpress : Bool
  rxOpen : Bool
  rxEnd : Nat
  sa : Nat
  gen : Nat
  field : Option Nat
  stage : FrameStage
  /-- Cells held, whether they lie in the Polar reserve, and whether a reservation was refused (R102, R103, R247). -/
  cells : Nat
  inReserve : Bool
  /-- The record and extras taken when the context became ready. -/
  ctx : List Word
  /-- The gang's pipelines and the clock at which it finishes (R192, R193). -/
  gang : List Nat
  doneAt : Nat
  /-- What egress will send, without the FCS. -/
  result : Bytes
  /-- In emission: the Meridian times at which its first bit left and at which its last bit leaves the wire free, the start of
  the fragment on the wire (none while it is preempted), and the bytes of the fragments before it (R250). -/
  txAt : Nat
  endAt : Nat
  fragAt : Option Nat
  sent : Nat
  /-- The launch entry and instant in Meridian units of a timed frame or bundle (R252). -/
  launch : Option (Nat × Nat)
  /-- Meridian time of the first bit received, boundaries since it was queued, and the tick of reception. -/
  rxAt : Nat
  age : Nat
  rxTick : Tick
  /-- The bundle a bundle frame carries, and its tick (R291). -/
  bundle : Nat
  btick : Tick
  /-- Frame tag (R465): the selecting point of a tagged frame, and CYC at the eight points reached so far. -/
  tag : Option Nat
  points : List Word
deriving DecidableEq, Repr

/-- Frames held, in the order of their entry points (R241), and the model's serial number for the next one.
DESIGN CHOICE, safe (log entry 89). -/
structure Frames where
  list : List Frame
  nextId : Nat
  /-- Launch instants that frames of each entry have taken and that are still to come (R252). -/
  taken : List (Nat × Nat)
  /-- SCH_POLAR_MAX of encrypt and decrypt (R258). -/
  polarMax : List Nat
deriving DecidableEq, Repr

/-- A Gazetteer entry (R117, R130, R136): its match string, result and flags. -/
structure GazEntry where
  kind : Nat
  port : Nat
  key : Nat
  dyn : Bool
  age : Bool
  hit : Bool
  stale : Bool
  action : Nat
  cls : Nat
  sa : Nat
deriving DecidableEq, Repr

/-- The Gazetteer (R121, R122): the working image and the table and seeds of the last tick boundary, by slot number, the
read-back registers, and edits committed since the present compare pass began. -/
structure Gaz where
  work : Sparse (Option GazEntry)
  path : Sparse (Option GazEntry)
  pathSeed0 : Word
  pathSeed1 : Word
  rdPos : Word
  rdData : List Word
  edits : Nat
deriving DecidableEq, Repr

/-- A Contour entry (R127). -/
structure ConEntry where
  value : Nat
  mask : Nat
  prio : Nat
  action : Nat
  cls : Nat
  sa : Nat
deriving DecidableEq, Repr

/-- The Contour (R121, R129): entries by position in the working image and at the last boundary, and the read-back
registers CON_RD_KEY, MASK, RES and PRIO. -/
structure Con where
  work : List ConEntry
  path : List ConEntry
  rd : List Word
deriving DecidableEq, Repr

/-- A pending learning or ageing event (R134, R138). `aged` removes, otherwise it installs. `due` is the tick of its
commit and `mine` says that this twin observed it. -/
structure LearnEvent where
  aged : Bool
  port : Nat
  key : Nat
  kind : Nat
  sa : Nat
  tick : Tick
  due : Tick
  twin : Nat
deriving DecidableEq, Repr

/-- Learning (R131-R134): the notice ring's indices, pending events, the last notice of each match string and type, and
the trunk ports whose count stood at LIMIT at the last refusal. -/
structure Lrn where
  prod : Nat
  cons : Nat
  pend : List LearnEvent
  recent : List (Nat × Nat × Tick)
  atLimit : List Nat
deriving DecidableEq, Repr

/-- A running Survey compare (R140): the order until its first pass ends, the shadow, the next record, the pass's
counts, and the tick of its last reading. -/
structure Survey where
  ord : Option Nat
  base : Nat
  count : Nat
  rep : Bool
  active : Bool
  next : Nat
  seen : Nat
  stop : Bool
  doneTick : Option Tick
deriving DecidableEq, Repr

/-- The Survey sweeper (R135-R142): the compare, records awaiting their recheck (index, BASE, tick), and the mismatch FIFO (type, index,
tick). -/
structure Swp where
  survey : Option Survey
  recheck : List (Nat × Nat × Tick)
  mis : List (Nat × Nat × Tick)
  passSeen : Nat
  passStatic : Nat
  passEdits : Nat
  visited : Nat
deriving DecidableEq, Repr

/-- The state of one SA index (R143): the directory entry (STATE, DIR, PINNED, RESIDENT, GEN, slot, FAULT_SEQ), the
ledger entry, the record as held (64 words), the extended window and what marks the SA in the other chapters: the
second-chance bit (R151), CLOSED (R234), a diagnostic SA (R58) and whether notice EXHAUSTED was written (R214). -/
structure SaEntry where
  st : Nat
  dir : Nat
  gen : Nat
  pinned : Bool
  resident : Bool
  slot : Nat
  faultSeq : Bool
  ref : Bool
  record : List Word
  /-- Window bits 256 and up, bit 0 standing for position 256. -/
  ext : Nat
  extSlot : Option Nat
  ledger : Nat
  closed : Bool
  diag : Bool
  exhNoted : Bool
deriving DecidableEq, Repr

/-- An index that has never been installed. -/
def SaEntry.free : SaEntry :=
  { st := 0, dir := 0, gen := 0, pinned := false, resident := false, slot := 0, faultSeq := false, ref := false, record := [],
    ext := 0, extSlot := none, ledger := 0, closed := false, diag := false, exhNoted := false }

/-- A change committed to the working image that reaches the data path at the next boundary (R154). A rewrite carries
the new configuration words, generation, window extension and, when it changes ALM, the restarted ledger. -/
inductive SaChange
  | install (e : SaEntry)
  | rewrite (words : List Word) (ledger : Option Nat)
  | erase
  | pin (slot : Nat)
  | unpin
  | fault
deriving DecidableEq, Repr

/-- The SA store (R143-R171): every index as the data path sees it, the changes of the present tick in commit order,
the retirement pool (index, generation, record), fills outstanding and waiting, the victim scan's hand, and the
read-back registers of the ORB and SEQ pages. -/
structure Orb where
  sas : Sparse SaEntry
  pend : List (Nat × SaChange)
  pool : List (Nat × Nat × List Word)
  fills : List Nat
  waiting : List Nat
  hand : Nat
  rdDir : Word
  rdData : List Word
  seqRd : List Word
deriving DecidableEq, Repr

/-- What a chore item does (R18, R413). The items of a host order outside the twin modes read their image when they commit
(R147); those of a tick list (R311) and of the MKA agent carry the image and the key, if it unwrapped. -/
inductive ChoreBody
  | install (sa off slot : Nat) (imp : Bool)
  | rewrite (sa off slot : Nat)
  | erase (sa : Nat)
  | pin (sa : Nat)
  | unpin (sa : Nat)
  | gaz (a : GazEditArgs)
  | con (a : ConEditArgs)
  | installImg (sa : Nat) (image : List Word) (key : Option Bytes) (imp : Bool)
  | rewriteImg (sa : Nat) (image : List Word) (key : Option Bytes)
deriving DecidableEq, Repr

/-- An item of the chore queue (R22): its part (0 host A, 1 host B, 2 agent A, 3 agent B), its order on this twin if it
has one, and the tick in which it was accepted. -/
structure Chore where
  part : Nat
  ord : Option Nat
  tick : Tick
  body : ChoreBody
  stalled : Bool
deriving DecidableEq, Repr

/-- The Graticule's chore queue and budgets (R18-R23): budgets used in the present tick, whether R21 stopped the queue,
the totals of the last tick (GRT_USED_A to C). -/
structure Grt where
  queue : List Chore
  sa : Nat
  gaz : Nat
  con : Nat
  learn : Nat
  ecl : Nat
  tsi : List Bool
  stop : Bool
  usedA : Word
  usedB : Word
  usedC : Word
deriving DecidableEq, Repr

/-- One cipher pipeline (R195-R206): PIPE_STAT.ROLE (0 LIVE, 1 OCCULTED, 2 RETURNING, 3 RETIRED, 4 QUIESCED), its test
state, the cause and tick of its last retirement, its key and GHASH registers, and the CYC at which it last became free. -/
structure Pipe where
  role : Nat
  running : Bool
  lastPass : Bool
  failCode : Nat
  cycles : Nat
  testTick : Tick
  faultInfo : Word
  faultTick : Tick
  /-- What the round-key registers were expanded from and the GHASH state; nothing once zeroed (R196). -/
  keyReg : Bytes
  ghash : Bytes
  freedAt : Option Nat
  /-- The tick in which the test cycle under way began (R202). -/
  cycAt : Tick
  /-- A rota step has chosen the pipeline, which finishes its frames before it is occulted (R201). -/
  occPend : Bool
  /-- The tick of a short set's start (R203), and the tick at whose boundary a passed set makes the pipeline live. -/
  short : Option Tick
  liveAt : Option Tick
  /-- A parity disagreement has failed the cycle or set under way (R202). -/
  bad : Bool
deriving DecidableEq, Repr

/-- A pipeline at reset. -/
def Pipe.init : Pipe :=
  { role := 0, running := false, lastPass := false, failCode := 0, cycles := 0, testTick := 0, faultInfo := 0, faultTick := 0,
    keyReg := [], ghash := [], freedAt := none, cycAt := 0, occPend := false, short := none, liveAt := none, bad := false }

/-- The occultation rota of one direction (R201): the rota mark and the boundaries left to the next step; 0 while the
rota has not started. -/
structure Rota where
  mark : Nat
  left : Nat
  due : Bool
deriving DecidableEq, Repr

/-- What ALMANAC_WRITE stored for a counter in the present tick: the generation and epoch that take effect at the
boundary, or that no spare was left (R212, R217). -/
inductive AlmWrite
  | stored (gen epoch : Nat)
  | spent (renewal : Bool)
deriving DecidableEq, Repr

/-- One Almanac counter (R209-R218): E_c, GEN_c, SPENT and STALE; a request not yet written (the value asked, and whether
it is a renewal); what was written; the partner's E_c; and its 64 eMRAM words with the ring, the position last written
and the retirement map. -/
structure AlmCtr where
  epoch : Nat
  gen : Nat
  spent : Bool
  noSpare : Bool
  stale : Bool
  req : Option Nat
  renew : Bool
  wrote : Option AlmWrite
  peer : Nat
  words : Sparse Nat
  ring : List Nat
  pos : Nat
  retired : List Nat
  /-- The second copy of the retirement map. -/
  retiredCopy : List Nat
deriving DecidableEq, Repr

/-- A counter as manufactured: epoch 0, generation 0, ring of words 0 to 55 (R217).
DESIGN CHOICE, unsafe (log entry 7). -/
def AlmCtr.init : AlmCtr :=
  { epoch := 0, gen := 0, spent := false, noSpare := false, stale := false, req := none, renew := false, wrote := none, peer := 0,
    words := [], ring := List.range 56, pos := 55, retired := [], retiredCopy := [] }

/-- An ALM_ADVANCE or ALM_RENEW in progress (R220, R221): its counters, whether ALMANAC_WRITE has written its requests,
and whether a counter became spent through R217 meanwhile. -/
structure AlmOrd where
  id : Nat
  ctrs : List Nat
  target : Nat
  written : Bool
  failed : Bool
deriving DecidableEq, Repr

/-- The Almanac (R209-R226): sixteen counters, the notice FIFO (type, counter, SA, tick) and orders in progress. -/
structure Alm where
  ctrs : List AlmCtr
  notes : List (Nat × Nat × Nat × Tick)
  ords : List AlmOrd
deriving DecidableEq, Repr

/-- An entry of the Eclipse table (R227): KIND 0 TX_SWITCH, 1 RX_FLOOR, 2 RX_CLOSE; pending, or active once a TX_SWITCH
has taken effect; its ECL_SCHEDULE if a host order of this twin made it. Entries stand in the order of acceptance. -/
structure EclEntry where
  kind : Nat
  sa : Nat
  new : Nat
  target : Tick
  floor : Nat
  ord : Option Nat
  active : Bool
  /-- This twin made the item for itself (an MKA agent's item, or a receive checkpoint of R323). -/
  agent : Bool
  /-- An operand has been erased since the item was accepted (R235). -/
  doomed : Bool
  /-- Its SA itself has been erased, so a record installed there since shows nothing of the item (R229). -/
  gone : Bool
deriving DecidableEq, Repr

/-- A peer of a running MKA key change (R238): its old and new receive SA, whether the floor is scheduled, the tick of
the first frame accepted under the new one, whether the close is scheduled, and whether the old SA's deletion is under way. -/
structure MkaPeer where
  old : Nat
  new : Nat
  floorDone : Bool
  firstAt : Option Tick
  closing : Bool
  cleaned : Bool
deriving DecidableEq, Repr

/-- A key change the MKA agent carries out (R238): old and new transmit SA, the SAK, its peers, whether the new key is
announced, the target tick of the switch, and whether RETIRE_READY has been written: the change stays until its peers' old SAs are
gone. -/
structure MkaChange where
  old : Nat
  new : Nat
  sak : Bytes
  peers : List MkaPeer
  announced : Bool
  switchAt : Option Tick
  retired : Bool
deriving DecidableEq, Repr

/-- The Eclipse machinery (R227-R239): the table, the notice FIFO (type, kind, SA, tick), the read-back registers
ECL_RD_INFO, TICK, FLOOR_LO and FLOOR_HI with how many entries NEXT has passed, the MKA agent's key changes, and the old transmit SAs
whose change has failed, with the tick. -/
structure Ecl where
  entries : List EclEntry
  notes : List (Nat × Nat × Nat × Tick)
  rd : List Word
  rdPos : Nat
  mka : List MkaChange
  mkaHold : List (Nat × Tick)
deriving DecidableEq, Repr

/-- A highway (R259-R267): its defects, the locked position, runs of bad and good frames, and what the present tick has
seen of it. -/
structure Hwy where
  los : Bool
  losync : Bool
  lof : Bool
  locked : Option Nat
  bad : Nat
  good : Nat
  rxSeen : Bool
  losSeen : Bool
  /-- LOF held for one tick by a write of HWY_LOOP. -/
  loopLof : Bool
deriving DecidableEq, Repr

/-- A highway at reset. -/
def Hwy.init : Hwy :=
  { los := false, losync := false, lof := false, locked := none, bad := 0, good := 0, rxSeen := false, losSeen := false,
    loopLof := false }

/-- One second of a tributary before its classification (R303): errored blocks and whether signal fail was reported. -/
structure PmSec where
  sec : Nat
  blocks : Nat
  sf : Bool
deriving DecidableEq, Repr

/-- What a framer remembers of its received bits for the criteria of R273: the run of zero bits; whether the LIU reported a
fault in the last slot, and ticks without a LOS condition; bits and zeros of the two-frame period under way, and runs of
periods with fewer than 3 zeros and with 3 or more; runs of errored FAS and NFAS words; errors of the last four FPS bits,
newest first; sub-multiframes and errors of the thousand under way, and whether one reached 915; ticks since LOMF was
declared; runs of errored and of valid MFAS with the bits of the one under way; the F or data-link bits of the period under
way; and runs of frames or periods with and without RAI. -/
structure TribHist where
  zeroRun : Nat
  liu : Bool
  losClean : Nat
  perBits : Nat
  perZeros : Nat
  aisLow : Nat
  aisHigh : Nat
  fasBad : Nat
  nfasBad : Nat
  fps : List Bool
  smfs : Nat
  smfErr : Nat
  smf915 : Bool
  lomfTicks : Nat
  mfasBad : Nat
  mfasGood : Nat
  mfas : List Bool
  dl : List Bool
  rai : Nat
  noRai : Nat
  losEver : Bool
deriving DecidableEq, Repr

/-- A framer that has received nothing. -/
def TribHist.init : TribHist :=
  { zeroRun := 0, liu := false, losClean := 0, perBits := 0, perZeros := 0, aisLow := 0, aisHigh := 0, fasBad := 0, nfasBad := 0,
    fps := [], smfs := 0, smfErr := 0, smf915 := false, lomfTicks := 0, mfasBad := 0, mfasGood := 0, mfas := [], dl := [],
    rai := 0, noRai := 0, losEver := false }

/-- A tributary framer (R268-R276). -/
structure Trib where
  /-- TRB_DEF bits 4:0 (LOS, AIS, LOF, LOMF, RAI), TRB_DEF_REP as last shown, and TRB_DEF_LATCH. -/
  defs : Nat
  rep : Nat
  latch : Word
  aligned : Bool
  mfAligned : Bool
  pos : Nat
  /-- Received bits not yet framed, and the position in the stream of the first of them. -/
  buf : List Bool
  abs : Nat
  /-- This hunt has counted AMBIGUOUS. -/
  amb : Bool
  /-- Complete frames held, the frame last taken, whether one has been held since alignment, and this tick's slip. -/
  slip : List Bytes
  taken : Bytes
  fed : Bool
  slipNow : Bool
  /-- Position in the multiframe of the next received frame, the bits of the block in progress and the CRC of the block
  before it. -/
  rxNo : Nat
  rxBlock : List Bool
  rxCrc : Option Nat
  /-- Received check bits of the block in progress. -/
  rxChk : List Bool
  hist : TribHist
  /-- The same for the egress framer, and received blocks whose E bit is still to be sent. -/
  txNo : Nat
  txBlock : List Bool
  txCrc : Nat
  ebits : List Bool
  /-- Errored CRC blocks by tick, newest first (R279), and seconds awaiting classification, oldest first. -/
  errs : List (Tick × Nat)
  /-- Errored blocks and FEBE of the present tick, and its TRB_CFG at the last boundary. -/
  tickErr : Nat
  tickFebe : Nat
  tickDrop : Nat
  tickRep : Nat
  cfgWas : Word
  /-- The position in the stream of the first bit of the present tick. -/
  absAt : Nat
  secs : List PmSec
  unavail : Bool
deriving DecidableEq, Repr

/-- A framer at reset. -/
def Trib.init : Trib :=
  { defs := 0, rep := 0, latch := 0, aligned := false, mfAligned := false, pos := 0, buf := [], abs := 0, amb := false, slip := [],
    taken := [], fed := false, slipNow := false, rxNo := 0, rxBlock := [], rxCrc := none, rxChk := [],
    hist := TribHist.init, txNo := 0, txBlock := [], txCrc := 0,
    ebits := [], errs := [], tickErr := 0, tickFebe := 0, tickDrop := 0, tickRep := 0,
    cfgWas := 0, absAt := 0, secs := [], unavail := false }

/-- An APS group (R277-R281): selector, deciding request, CFG_ERR, the requests as they stood at the end of the tick
before last (bit n for request code n), and whether the group was enabled at the last boundary. -/
structure Aps where
  sel : Bool
  req : Nat
  cfgErr : Bool
  next : Nat
  on : Bool
deriving DecidableEq, Repr

/-- A group at reset. -/
def Aps.init : Aps := ⟨false, 0, false, 0, false⟩

/-- The TSI (R282-R287): pages ENC0, ENC1, DEC0 and DEC1, the active page of each direction, the pending swap and copy of
each direction, and TSI_RDATA. -/
structure Tsi where
  pages : List (Sparse Word)
  active : List Nat
  swap : List (List (Tick × Option Nat))
  copy : List Bool
  rdata : Word
deriving DecidableEq, Repr

/-- One tick's take for a transmit bundle under assembly: its bytes and the status of each tributary (R291, R293). -/
structure BunTake where
  bytes : Bytes
  status : List (Nat × Nat)
deriving DecidableEq, Repr

/-- A held bundle (R296): its TICK, the bytes of each tick of its period, and what an Errata record says of it. -/
structure HeldBun where
  tick : Tick
  bytes : List Bytes
  port : Nat
  field : Nat
deriving DecidableEq, Repr

/-- A bundle entry (R288-R301): BUN_CFG, whether it is active, the enable or disable waiting for its period start, the
status words, the takes of the period under way and its start, and for a receive bundle the playout store. -/
structure Bun where
  cfg : List Word
  active : Bool
  change : Option (Bool × Tick)
  synced : Bool
  substing : Bool
  repeats : Nat
  lastTick : Tick
  ageLast : Nat
  ageMax : Nat
  marginMin : Nat
  statusOr : Nat
  takes : List BunTake
  held : List HeldBun
  /-- TICKs of lost bundles still to be substituted, and the bytes last played. -/
  lost : List Tick
  played : Bytes
  /-- TICKs of the bundles played since the entry was enabled, newest first. -/
  done : List Tick
deriving DecidableEq, Repr

/-- An entry at reset. -/
def Bun.init : Bun :=
  { cfg := List.replicate 8 0, active := false, change := none, synced := false, substing := false, repeats := 0, lastTick := 0,
    ageLast := 0, ageMax := 0, marginMin := 0x7FFFFF, statusOr := 0, takes := [], held := [], lost := [], played := [],
    done := [] }

/-- A PM bin (R304): words 2 to 5 of its record in order, with word 6, word 7 of a tributary and the marks. -/
structure PmBin where
  vals : List Nat
  /-- Slip drops and repeats of a tributary; of a bundle, the smallest margin in us plus 1 (0 while there is none) and the
  largest age in us. -/
  lo : Nat
  hi : Nat
  febe : Nat
  suspect : Bool
  partialBin : Bool
deriving DecidableEq, Repr

/-- A bin nothing has accrued in. -/
def PmBin.init : PmBin := ⟨[0, 0, 0, 0], 0, 0, 0, false, false⟩

/-- A quarter-hour that awaits its close (R304): its number, the ticks of its start and of its close, whether every bin of it is
suspect, and its bins. -/
structure PmClose where
  q : Nat
  start : Tick
  at_ : Tick
  suspect : Bool
  bins : Sparse PmBin
deriving DecidableEq, Repr

/-- A day before the present one, of which a quarter-hour awaits its close: its number, the tick of its start, whether every bin of it is
suspect, and its bins. -/
structure PmDay where
  day : Nat
  start : Tick
  suspect : Bool
  bins : Sparse PmBin
deriving DecidableEq, Repr

/-- The performance monitor (R302-R305): the bins of the current quarter-hour and day by entity, and whether all of them are suspect;
the quarter-hour in progress; quarter-hours awaiting their close, oldest first, with their days; the tick of the last close, the
offset in effect, the read-back registers and the TCA FIFO. -/
structure Pmb where
  cur : Sparse PmBin
  day : Sparse PmBin
  susQ : Bool
  susD : Bool
  qh : Nat
  closing : List PmClose
  oldDays : List PmDay
  lastClose : Tick
  utcOff : Int
  rd : List Word
  tca : List (Word × Tick)
  /-- Thresholds already crossed: entity, parameter, DAY, and the number of the quarter-hour or day. -/
  crossed : List (Nat × Nat × Bool × Nat)
deriving DecidableEq, Repr

/-- A frame that awaits its digest (R325, R326): port, SA, field, entry, its h once its bytes are known, and the Meridian
time of its first bit. -/
structure DigItem where
  port : Nat
  sa : Nat
  field : Nat
  entry : Nat
  h : Nat
  rxAt : Nat
deriving DecidableEq, Repr

/-- An emission digest (R326): COUNT and SUM of the 24 entries 8c + k, contention and fault losses of each class, and
the journal of its frames (R328). -/
structure Digest where
  tick : Tick
  entries : List (Nat × Nat)
  cont : List Nat
  fault : List Nat
  journal : List DigItem
deriving DecidableEq, Repr

/-- An empty digest of a tick. -/
def Digest.empty (t : Tick) : Digest :=
  { tick := t, entries := List.replicate 24 (0, 0), cont := [0, 0, 0], fault := [0, 0, 0], journal := [] }

/-- A cut (R325): for a plain port and tick, the SA and field of its last sequenced frame, if there was one. -/
structure Cut where
  tick : Tick
  port : Nat
  last : Option (Nat × Nat)
  rxAt : Nat
deriving DecidableEq, Repr

/-- What a tick list holds (R311, R312, R134). -/
inductive ListItem
  | chore (agent : Bool) (ord : Option Nat) (body : ChoreBody)
  | ecl (ord : Option Nat) (kind sa new : Nat) (target : Tick) (floor : Nat)
  | eclCancel (ord : Option Nat) (kind sa : Nat) (target : Tick)
  | tsi (ord : Option Nat) (dir : Nat) (target : Tick)
  | advance (ord : Option Nat) (mask target : Nat)
  | renew (ord : Option Nat) (ctr : Nat)
  | arbitrate (ord : Option Nat) (retire : Nat)
  | learn (e : LearnEvent)
deriving DecidableEq, Repr

/-- The tick lists of one tick (R311, R313): this twin's, whether the partner acknowledged it, the partner's once held
whole, and whether either was excluded. -/
structure TickList where
  tick : Tick
  own : List ListItem
  acked : Bool
  peer : Option (List ListItem)
  exclOwn : Bool
  exclPeer : Bool
deriving DecidableEq, Repr

/-- A cross-check sent and not yet answered (R331): its tick, ciphertext and tag as this twin computes them. -/
structure Cross where
  tick : Tick
  want : Bytes
deriving DecidableEq, Repr

/-- The twin logic and the Oldun link (R306-R336). -/
structure Twin where
  peerMode : Nat
  /-- The TWIN_ID the last good heartbeat reported (R39, R320). -/
  peerTwin : Nat
  present : Bool
  peerPhase : Nat
  peerServo : Nat
  joinPhase : Nat
  disState : Nat
  selfPass : Bool
  peerSelf : Option Bool
  /-- T and whether it is fixed and not yet reached (R334), its order, and e_c. -/
  alignTick : Tick
  alignFixed : Bool
  alignOrd : Option Nat
  alignReq : Bool
  epochs : List Nat
  /-- Transmit ledgers are set at the next boundary (R226). -/
  resetLedgers : Bool
  missed : Nat
  hbSeen : Bool
  /-- A good heartbeat of the next tick has arrived ahead of its boundary. -/
  hbNext : Bool
  hbRun : Nat
  notEmit : Nat
  retireSeen : Bool
  clkOk : Bool
  lanes : Nat
  deskewed : Bool
  skewSym : Nat
  latency : Nat
  seqNo : List Nat
  /-- The next free block slot of the tick (R318). -/
  slot : Nat
  /-- The digest in progress, frames awaiting theirs, cuts held, and own and partner digests, newest first. -/
  digest : Digest
  items : List DigItem
  cuts : List Cut
  own : List Digest
  peer : List Digest
  digestStat : Word
  digestTick : Tick
  disInfo : Word
  disTick : Tick
  skewLast : Nat
  skewMax : Nat
  /-- Disagreements found in the present tick, by cause and the word they load (R327). -/
  found : List (Nat × Word × Tick)
  lists : List TickList
  /-- This twin's fingerprint of the last boundary, its part over the registers, and whether a joiner has received the whole
  snapshot. -/
  ownFp : Nat
  ownRegs : Nat
  bulkDone : Bool
  peerFp : Option Nat
  fpDiff : Nat
  /-- Count and CRC of the chore items committed in the present and in the last tick. -/
  chores : Nat × Nat
  lastChores : Nat × Nat
  /-- Eclipse acknowledgements of the present boundary (R239): SA, KIND, target, outcome; the partner's with their tick. -/
  acks : List (Nat × Nat × Tick × Nat)
  peerAcks : List (Tick × Nat × Nat × Tick × Nat)
  /-- Last receive checkpoint of each SA: SA, H, tick (R323); and those received for the next boundary: SA, GEN, H. -/
  checks : List (Nat × Nat × Tick)
  toApply : List (Nat × Nat × Nat)
  /-- A partner's whole state copy waiting for the boundary (R324): APS requests by group. -/
  peerAps : List Nat
  peerEpochs : Option (List Nat)
  selfStart : Option Tick
  /-- This twin's self-check has ended; paired orders are held (R334); available epochs of the tick T of a realignment; the
  snapshot has been sent. -/
  selfDone : Bool
  held : Bool
  availWas : List Nat
  /-- Counters whose maximum was already the last epoch at T, or that were spent (R226). -/
  alignExh : List Bool
  snapSent : Bool
  /-- Messages of the bulk copy that wait for their share of the budget (R18, R333). -/
  bulk : List Bytes
  /-- The tick of the disagreement that started the self-check. -/
  selfTick : Tick
  waitFrom : Option Tick
  cross : Option Cross
  crossFails : Nat
  /-- R-TAG histories (R310): port, VID, highest number, numbers seen below it. -/
  rtag : List (Nat × Nat × Nat × Nat)
deriving DecidableEq, Repr

/-- A Trig output (R349-R351): PULSING, MISSED, the Meridian instant of the next pulse and the end of the present one. -/
structure Trig where
  pulsing : Bool
  missed : Bool
  next : Option Nat
  endAt : Nat
deriving DecidableEq, Repr

/-- The Meridian page's state beside time itself (R338-R354): the servo, MER_OFFSET, ADRIFT and PAIR_ADRIFT, ticks in
the present state, MER_PAIR_OFS, the last PPS capture and its error, a PPS-mode step waiting for its edge (order,
seconds, start), the Trig outputs, egress timestamps awaiting the agent (side, port, time), ingress times of Pdelay_Req messages whose
response is still to come (port, source and sequenceId, time), the agent's count of unsupported messages, measurements in a row within
the threshold, the rates of the last 64 s of LOCKED operation with their ticks, newest first, and ticks since the last PPS_IN edge. -/
structure Mer where
  servo : Nat
  offset : Int
  adrift : Bool
  pairAdrift : Bool
  since : Nat
  /-- Ticks since the last step (R347). -/
  stepAge : Nat
  pairOfs : Int
  ppsAt : Option Nat
  ppsErr : Int
  step : List (Nat × Nat × Nat)
  trig : List Trig
  stamps : List (Side × Nat × Nat)
  reqs : List (Nat × Bytes × Nat)
  unsupported : Nat
  good : Nat
  rates : List (Int × Nat)
  ppsAge : Nat
  /-- The instant of the last captured edge on the present timescale (R348). -/
  ppsLast : Option Nat
deriving DecidableEq, Repr

/-- A Trig output at reset. -/
def Trig.init : Trig := { pulsing := false, missed := false, next := none, endAt := 0 }

/-- One memory channel (R355, R371-R376): MEM_STAT.STATE, MEM_TRAIN and MEM_PROG. -/
structure Chan where
  st : Nat
  pass : Bool
  attempts : Nat
  failStep : Nat
  trainTick : Tick
  prog : Nat
  gib : Nat
  mts : Nat
  /-- Training values are kept over a warm reset (R371). -/
  kept : Bool
deriving DecidableEq, Repr

/-- A channel at reset: UNTRAINED. -/
def Chan.init : Chan := ⟨0, false, 0, 0, 0, 0, 0, 0, false⟩

/-- An access of the host that waits for its BAR2 segment to be rewritten: a write's bytes, or none of a read (R380). -/
structure HeldAccess where
  m : Master
  addr : Nat
  fails : Nat
  integ : Bool
  bytes : Option Bytes
deriving DecidableEq, Repr

/-- The sealed memory path (R357-R380): capacity, sealing root, boot nonce, generations, poison table (internal line
addresses with KEYID in bits 47:44) and the sweeps and rewrites in progress. -/
structure Seal where
  gib : Nat
  initDone : Bool
  provisional : Bool
  root : Bytes
  nonce : Bytes
  gen : List Nat
  changing : Bool
  /-- The identifier under re-key, and the order that waits for it (R377). -/
  rekey : Option (Nat × Option Nat)
  rekeySwept : Nat
  /-- The order of a running PROVISION_COMMIT (R364). -/
  commitOrd : Option Nat
  /-- The order of a ZEROIZE whose sweeps run (R365, R419). -/
  zeroOrd : Option Nat
  poison : List Nat
  /-- The channel under MEM_RETRAIN and its order (R373). -/
  retrain : Option (Nat × Nat)
  /-- The identifier each BAR2 segment is sealed under, segments being rewritten, and host accesses that wait for them (R379,
  R380). -/
  b2map : List Nat
  rewriting : List Nat
  held : List HeldAccess
deriving DecidableEq, Repr

/-- An imprecise notice of a Boundary unit (R387). -/
structure BdyNotice where
  user : Bool
  cls : Nat
  region : Nat
  addr : Nat
  tick : Tick
deriving DecidableEq, Repr

/-- What a Boundary unit holds beside its staged and active regions, which are registers (R387, R392). -/
structure BdyUnit where
  pending : Bool
  notices : List BdyNotice
deriving DecidableEq, Repr

/-- An entry of the Lunar event store (R404). -/
structure LunEvent where
  src : Nat
  onCell : Bool
  sec : Word
  frac : Nat
deriving DecidableEq, Repr

/-- The Lunar domain (R396-R405): the KEK, the RTC, the alarm counters and the event store. -/
structure Lunar where
  kek : Option Bytes
  /-- The check value kept beside the KEK (R429). -/
  kekCheck : Bytes
  vbatLost : Bool
  rtcSec : Word
  rtcFrac : Nat
  rtcSet : Bool
  xtalOk : Bool
  alarm : Nat
  latch : Nat
  /-- Consecutive tamper and clean samples of sources 0-8 (R400). -/
  tamper : List Nat
  clean : List Nat
  /-- Declared sources whose responses have not been executed (R402). -/
  declared : List Nat
  store : List LunEvent
  overflow : Nat
  /-- The copies BOOT step 6 took, and their overflow count (R404). -/
  copied : List LunEvent
  copiedOvf : Nat
deriving DecidableEq, Repr

/-- The utility cipher unit (R438-R442). `key`, `key2` are write-only; `busy` is a running job. -/
structure Ucu where
  held : Bool
  ownCls : Nat
  ownCore : Nat
  relPending : Bool
  lastUse : Tick
  key : List Word
  key2 : List Word
  result : Bytes
  busy : Bool
  doneFlag : Bool
  res : Nat
deriving DecidableEq, Repr

/-- A queued or running PKE job (R443): its order if a host order, area, header fields and output offset. -/
structure PkeJob where
  ord : Option Nat
  area : Nat
  op : Nat
  curve : Nat
  len : Nat
  out : Nat
  mlen : Nat
  ops : Bytes
  /-- For ATTEST: the report's BAR2 offset and its first 0x0C0 bytes. -/
  attest : Option (Nat × Bytes)
deriving DecidableEq, Repr

/-- A short-Weierstrass curve (R444). -/
structure Curve where
  p : Nat
  a : Nat
  b : Nat
  gx : Nat
  gy : Nat
  n : Nat
  h : Nat
deriving DecidableEq, Repr

/-- The public-key engine (R443-R450): job queue (head runs), loaded curves and PKE_LAST_CLK. -/
structure Pke where
  jobs : List PkeJob
  curves : Sparse (Option Curve)
  lastClk : Nat
deriving DecidableEq, Repr

/-- The TRNG and DRBG (R451-R453): STATE, requests and ticks since the last reseed, consecutive failed windows, each
master set's RNG_OUT and READY, and the position in the free stream of DRBG output (the model's own field). -/
structure Rng where
  st : Nat
  reqs : Nat
  seedTick : Tick
  failed : Nat
  startFails : Nat
  out : List (List Word)
  ready : List Bool
  pos : Nat
deriving DecidableEq, Repr

/-- Keys on die and identity in eMRAM (R429, R433, R434, R436, R437): transport slots, held CAKs (CKN, CAK, line port),
TKW, the pair key, the owner key, KEK_GENERATED, and authenticated debug (R391). -/
structure Keys where
  slots : List (Option Bytes)
  caks : List (Bytes × Bytes × Nat)
  tkw : Option Bytes
  pairKey : Option Bytes
  owner : Option Bytes
  kekGenerated : Bool
  debugOn : Bool
deriving DecidableEq, Repr

/-- An agent's supervision state (R455): its cores, whether it runs, and the ticks of its last restarts. -/
structure Agent where
  first : Nat
  last : Nat
  running : Bool
  restarts : List Tick
deriving DecidableEq, Repr

/-- The eight agents at reset (R455); they run from BOOT. -/
def Agent.initial : List Agent :=
  [(4, 11), (12, 12), (13, 14), (15, 15), (16, 16), (17, 17), (18, 18), (19, 20)].map
    (fun c => { first := c.1, last := c.2, running := false, restarts := [] })

/-- An image slot of the boot store (R456): whether it verifies, its VERSION, its ARB and its body.
DESIGN CHOICE, safe (log entry 80). -/
structure ImgSlot where
  ok : Bool
  version : Nat
  arb : Nat
  body : Bytes
deriving DecidableEq, Repr

/-- A slot without an image. -/
def ImgSlot.none : ImgSlot := ⟨false, 0, 0, []⟩

/-- Firmware update (R456-R460): running slot, FWU_STAT phase and agent, both slots, the anti-rollback counter, and the
order, slot and image of a running FW_STAGE or FW_ACTIVATE. -/
structure Fwu where
  running : Nat
  phase : Nat
  agent : Nat
  slots : List ImgSlot
  arbCtr : Nat
  stage : Option (Nat × Nat × ImgSlot)
  act : Option (Nat × Nat)
deriving DecidableEq, Repr

/-- A health monitor (R463): its last sample, whether its WARN and CRIT limits stand crossed, and consecutive clear
samples of each. -/
structure Monitor where
  value : Int
  warn : Bool
  crit : Bool
  warnClear : Nat
  critClear : Nat
deriving DecidableEq, Repr

/-- A monitor that has taken no sample. -/
def Monitor.init : Monitor := ⟨0, false, false, 0, 0⟩

/-- Health (R455, R463): 8 temperatures, 10 supplies and 6 clocks, and HLT_STAT.AGENT_MOVED. -/
structure Hlt where
  mons : List Monitor
  agentMoved : Bool
  agents : List Agent
deriving DecidableEq, Repr

/-- A sample record before it is written (R466): words 0 to 13. -/
structure SampleRec where
  words : List Word
deriving DecidableEq, Repr

/-- The sample ring (R465, R466): `wait` holds records of tagged frames that ended; `sel` counts frames since each
page's last selection. -/
structure Smp where
  prod : Word
  cons : Word
  wait : List SampleRec
  sel : Sparse Nat
deriving DecidableEq, Repr

/-- The test access port (R487, R488): the instruction in effect, and the boundary register. -/
structure Tap where
  ir : Nat
  preload : Bool
deriving DecidableEq, Repr

/-- The state of the block. -/
structure State where
  /-- The commands waiting, first in, first out (the model's queue). -/
  pending : List Instr
  /-- What has left the device, in order (the model's record of the outside). -/
  out : List Emit
  /-- Mode, straps, pins and supplies. -/
  dev : Dev
  /-- Meridian, the tick and CYC. -/
  time : Time
  /-- Every read-write register by BAR0 offset, held as its difference (exclusive or) from its reset value. -/
  regs : Sparse Word
  /-- The Legend headers by page number; an unlisted page stands at Legend.init. -/
  legends : Sparse Legend
  /-- The 64-bit counters by BAR0 offset; an unlisted counter is 0. -/
  ctrs : Sparse Nat
  /-- Snapshot sets by 2 × page number + set. -/
  snaps : Sparse Snap
  /-- Interrupt delivery. -/
  intr : Intr
  /-- The order rings. -/
  ords : Ords
  /-- The Errata ring. -/
  era : Era
  /-- The NV event log. -/
  log : NvLog
  /-- DRAM contents by logical address, as a master reads them through the sealed path. -/
  mem : Sparse Byte
  /-- Memory channels M0 to M7. -/
  chans : List Chan
  /-- The sealed path. -/
  sealPath : Seal
  /-- Boundary units 0 to 7. -/
  bdy : List BdyUnit
  /-- The Lunar domain. -/
  lun : Lunar
  /-- The utility cipher unit. -/
  ucu : Ucu
  /-- The public-key engine. -/
  pke : Pke
  /-- TRNG and DRBG. -/
  rng : Rng
  /-- Keys on die and identity in eMRAM. -/
  keys : Keys
  /-- Firmware update. -/
  fwu : Fwu
  /-- Health and agents. -/
  hlt : Hlt
  /-- The sample ring. -/
  smp : Smp
  /-- The test access port. -/
  tap : Tap
  /-- The registers as committed at the last tick boundary (R9, R110, R255), in the form of `regs`. -/
  cfg : Sparse Word
  /-- Plain ports P0 to P15. -/
  plainPorts : List Port
  /-- Line ports L0 to L15. -/
  linePorts : List Port
  /-- PORT_MAP orders waiting for the next boundary. -/
  maps : List MapPend
  /-- Every frame the device holds. -/
  frames : Frames
  /-- The Gazetteer. -/
  gaz : Gaz
  /-- The Contour. -/
  con : Con
  /-- Learning. -/
  lrn : Lrn
  /-- The Survey sweeper. -/
  swp : Swp
  /-- The SA store. -/
  orb : Orb
  /-- The chore queue. -/
  grt : Grt
  /-- Cipher pipelines C0 to C41. -/
  pipes : List Pipe
  /-- The occultation rotas of encrypt and decrypt. -/
  rota : List Rota
  /-- The Almanac. -/
  alm : Alm
  /-- The Eclipse table and the MKA agent. -/
  ecl : Ecl
  /-- Highways H0 to H7. -/
  hwys : List Hwy
  /-- Tributary framers T0 to T255. -/
  tribs : Sparse Trib
  /-- APS groups. -/
  aps : List Aps
  /-- The TSI. -/
  tsi : Tsi
  /-- Bundle entries B0 to B1023. -/
  buns : Sparse Bun
  /-- BUN_ST0 to BUN_ST7. -/
  bunSt : List Word
  /-- Performance monitoring. -/
  pmb : Pmb
  /-- The twin logic and the Oldun link. -/
  twin : Twin
  /-- PTP, PPS and Trig outputs. -/
  mer : Mer
deriving DecidableEq, Repr

/-- Every field right after reset: the main supplies have just become valid, PORST_N is low and the device is in RESET
(R37, R491); nothing has been provisioned, the memory lists nothing and the command queue is empty.
DESIGN CHOICE, unsafe (log entry 6). DESIGN CHOICE, unsafe (log entry 7). DESIGN CHOICE, unsafe (log entry 8). -/
def State.reset : State where
  pending := []
  out := []
  dev := { mode := .reset, prev := .lunar, cause := 0x00, strap := 0, noImage := false, health := false, trig := [],
             supply := true, vbat := true, vbatOk := true, porst := false, sysrst := true, perst := true, pcieUp := false,
             holdThermal := false, holdSupply := false, drainTicks := 0, alive := false, bootWait := false, chartRead := false }
  time := { run := false, tick := 0, clk := 0, lastLen := 0, mer := 0, cyc := 0, rate := 0, stepped := false }
  regs := []
  legends := []
  ctrs := []
  snaps := []
  intr := { asserted := 0, pba := 0, fmask := false, faultN := false }
  ords := { outs := [], ended := [], commit := [], sqHead := 0, sqTail := 0, cqHead := 0, cqTail := 0, lastTag := 0,
              nextId := 0 }
  era := { prod := 0, cons := 0, wait := [], sums := [] }
  log := { next := 0, entries := [], inTick := 0, dropped := 0, copied := 0 }
  mem := []
  chans := List.replicate 8 Chan.init
  sealPath := { gib := 0, initDone := false, provisional := false, root := [], nonce := [], gen := List.replicate 16
                  0, changing := false, rekey := none, rekeySwept := 0, commitOrd := none, zeroOrd := none, poison
                  := [], retrain := none, b2map := List.replicate 16 4, rewriting := [], held := [] }
  bdy := List.replicate 8 { pending := false, notices := [] }
  lun := { kek := none, kekCheck := [], vbatLost := false, rtcSec := 0, rtcFrac := 0, rtcSet := false, xtalOk := true, alarm := 0,
             latch := 0, tamper := List.replicate 9 0, clean := List.replicate 9 0, declared := [], store := [],
             overflow := 0, copied := [], copiedOvf := 0 }
  ucu := { held := false, ownCls := 0, ownCore := 0, relPending := false, lastUse := 0, key := List.replicate 8 0,
             key2 := List.replicate 8 0, result := [], busy := false, doneFlag := false, res := 0 }
  pke := { jobs := [], curves := [], lastClk := 0 }
  rng := { st := 0, reqs := 0, seedTick := 0, failed := 0, startFails := 0, out := [List.replicate 16 0,
             List.replicate 16 0], ready := [false, false], pos := 0 }
  keys := { slots := List.replicate 16 none, caks := [], tkw := none, pairKey := none, owner := none, kekGenerated
              := false, debugOn := false }
  fwu := { running := 0, phase := 0, agent := 0, slots := [ImgSlot.none, ImgSlot.none], arbCtr := 0, stage :=
             none, act := none }
  hlt := { mons := List.replicate 24 Monitor.init, agentMoved := false, agents := Agent.initial }
  smp := { prod := 0, cons := 0, wait := [], sel := [] }
  tap := { ir := 0x01, preload := false }
  cfg := []
  plainPorts := List.replicate 16 Port.init
  linePorts := List.replicate 16 Port.init
  maps := []
  frames := { list := [], nextId := 0, taken := [], polarMax := [0, 0] }
  gaz := { work := [], path := [], pathSeed0 := 0, pathSeed1 := 0, rdPos := 0, rdData := List.replicate 6 0, edits
             := 0 }
  con := { work := [], path := [], rd := List.replicate 12 0 }
  lrn := { prod := 0, cons := 0, pend := [], recent := [], atLimit := [] }
  swp := { survey := none, recheck := [], mis := [], passSeen := 0, passStatic := 0, passEdits := 0, visited := 0 }
  orb := { sas := [], pend := [], pool := [], fills := [], waiting := [], hand := 0, rdDir := 0, rdData :=
             List.replicate 64 0, seqRd := [0, 0, 0] }
  grt := { queue := [], sa := 0, gaz := 0, con := 0, learn := 0, ecl := 0, tsi := [false, false], stop := false,
             usedA := 0, usedB := 0, usedC := 0 }
  pipes := List.replicate 42 Pipe.init
  rota := [{ mark := 20, left := 0, due := false }, { mark := 41, left := 0, due := false }]
  alm := { ctrs := List.replicate 16 AlmCtr.init, notes := [], ords := [] }
  ecl := { entries := [], notes := [], rd := [0, 0, 0, 0], rdPos := 0, mka := [], mkaHold := [] }
  hwys := List.replicate 8 Hwy.init
  tribs := []
  aps := List.replicate 128 Aps.init
  tsi := { pages := [[], [], [], []], active := [0, 0], swap := [[], []], copy := [false, false], rdata := 0 }
  buns := []
  bunSt := List.replicate 8 0
  pmb := { cur := [], day := [], susQ := true, susD := true, qh := 0, closing := [], oldDays := [], lastClose := 0,
             utcOff := 0, rd := List.replicate 8 0, tca := [], crossed := [] }
  twin := { peerMode := 0xF, peerTwin := 0, present := false, peerPhase := 0, peerServo := 0, joinPhase := 0,
              disState := 0, selfPass := false, peerSelf := none, alignTick := 0, alignFixed := false, alignOrd :=
              none, alignReq := false, epochs := List.replicate 16 0, resetLedgers := false, missed := 0, hbSeen :=
              false, hbNext := false, hbRun := 0, notEmit := 0, retireSeen := false, clkOk := false, lanes := 0,
              deskewed := false, skewSym := 0, latency := 0, seqNo := List.replicate 16 0, slot := 0, digest := Digest.empty 0,
              items := [], cuts := [], own := [], peer := [], digestStat := 0, digestTick := 0, disInfo := 0,
              disTick := 0, skewLast := 0, skewMax := 0, found := [], lists := [], ownFp := 0, ownRegs := 0, bulkDone := false,
              peerFp := none, fpDiff := 0, chores := (0, 0), lastChores := (0, 0), acks := [], peerAcks := [],
              checks := [], toApply := [], peerAps := [], peerEpochs := none, selfStart := none, selfDone := false,
              held := false, availWas := [], alignExh := [], snapSent := false, bulk := [], selfTick := 0, waitFrom := none, cross := none, crossFails := 0,
              rtag := [] }
  mer := { servo := 0, offset := 0, adrift := false, pairAdrift := false, since := 0, stepAge := 0, pairOfs := 0, ppsAt := none,
             ppsErr := 0, step := [], trig := List.replicate 4 Trig.init, stamps := [], reqs := [], unsupported := 0, good := 0,
             rates := [], ppsAge := 0, ppsLast := none }

end Sys2Proof.Machine
end

