-- ==== Sys2Proof/Machine/Ops.lean ====
section
/-! DEFINITION. The named operations over the state that every chapter uses: registers, counters, interrupts and errors
of the Legend header, time, orders, failure records, the event log, the sealed path and the Boundary check. -/

namespace Sys2Proof.Machine

/-! ### Registers and counters -/

/-- The value of the register at BAR0 offset `a`. -/
def getReg (s : State) (a : Nat) : Word := spGet 0 s.regs a ^^^ regReset a

/-- Write the register at BAR0 offset `a`. -/
def setReg (s : State) (a : Nat) (v : Word) : State := { s with regs := spSet 0 s.regs a (v ^^^ regReset a) }

/-- Field [hi:lo] of a register. -/
def regFld (s : State) (a hi lo : Nat) : Nat := fld (getReg s a) hi lo

/-- The counter at BAR0 offset `a`. -/
def getCtr (s : State) (a : Nat) : Nat := spGet 0 s.ctrs a

/-- Add `n` to the 64-bit counter at page offset `off` (R78). -/
def bump (page off n : Nat) (s : State) : State :=
  { s with ctrs := spSet 0 s.ctrs (ra page off) (add64 (getCtr s (ra page off)) n) }

/-- A page's Legend header. -/
def legend (s : State) (page : Nat) : Legend := spGet Legend.init s.legends page

/-- Write a page's Legend header. -/
def setLegend (s : State) (page : Nat) (l : Legend) : State := { s with legends := spSet Legend.init s.legends page l }

/-- Change a page's Legend header. -/
def modLegend (page : Nat) (f : Legend → Legend) (s : State) : State := setLegend s page (f (legend s page))

/-- Append to what has left the device. DESIGN CHOICE, safe (log entry 13). -/
def emit (e : Emit) (s : State) : State := { s with out := s.out ++ [e] }

/-! ### Programmable counters (R82-R84) -/

/-- Set OVF bit `i`, and FREEZE with it where FREEZE_ON_OVF is 1. FREEZE is set as an OVF bit is set: a FREEZE_ON_OVF written to
1 while one already stands freezes nothing by itself. DESIGN CHOICE, unsafe (log entry 92). -/
def pmcOvf (i : Nat) (l : Legend) : Legend :=
  let c := setBit l.pmcCtrl (24 + i) true
  { l with pmcCtrl := if bit c 9 then setBit c 8 true else c }

/-- Apply one pending carry of pair `k` (R84). -/
def pmcCarryOne (l : Legend) (k : Nat) : Legend :=
  if l.carry / 2 ^ k % 2 = 1 then
    let v := (l.pmc.getD (2 * k + 1) 0).toNat + 1
    let l1 := { l with carry := l.carry - 2 ^ k, pmc := l.pmc.set (2 * k + 1) (wd v) }
    if v = 2 ^ 32 then pmcOvf (2 * k + 1) l1 else l1
  else l

/-- Apply every pending carry under the settings in effect (R84). -/
def pmcCarry (l : Legend) : Legend := (List.range 4).foldl pmcCarryOne l

/-- Whether counter `i` counts an event of its own under `hit` (R82, R83). -/
def pmcCounts (hit : Nat → Bool) (l : Legend) (i : Nat) : Bool :=
  let sel := l.pmcSel.getD i 0
  !(bit l.pmcCtrl (i / 2) && i % 2 == 1) && bit sel 31 && hit (fld sel 15 0)

/-- Count `n` occurrences of an event under `hit` in counter `i` (R82, R83). -/
def pmcCountOne (hit : Nat → Bool) (n : Nat) (l : Legend) (i : Nat) : Legend :=
  let chain := bit l.pmcCtrl (i / 2)
  if !pmcCounts hit l i then l
  else
    let v := (l.pmc.getD i 0).toNat + n
    let l1 := { l with pmc := l.pmc.set i (wd v) }
    if v < 2 ^ 32 then l1
    else if chain then
      let h := (l1.pmc.getD (i + 1) 0).toNat + (v / 2 ^ 32 - 1)
      let l2 := { l1 with pmc := l1.pmc.set (i + 1) (wd h), carry := l1.carry + 2 ^ (i / 2) }
      if h < 2 ^ 32 then l2 else pmcOvf (i + 1) l2
    else pmcOvf i l1

/-- Count `n` occurrences of events under `hit` on one Legend header in one clock; `frozen` is SYS_GFREEZE. A counter that wraps and
sets FREEZE stops the page from the next clock on (R82). -/
def pmcCount (frozen : Bool) (hit : Nat → Bool) (n : Nat) (l : Legend) : Legend :=
  if frozen || bit l.pmcCtrl 8 || n == 0 then pmcCarry l else (List.range 8).foldl (pmcCountOne hit n) (pmcCarry l)

/-- Clocks to the next wrap of a counter that counts once in each. -/
def pmcToWrap (hit : Nat → Bool) (l : Legend) : Nat :=
  (List.range 8).foldl (fun n i => if pmcCounts hit l i then min n (2 ^ 32 - (l.pmc.getD i 0).toNat) else n) (2 ^ 32)

/-- `n` clocks on one Legend header, with one occurrence of each event under `hit` in every clock: they run from wrap to wrap, so
that a carry reaches its counter, and FREEZE stops the page, in the clock after (R82, R84). The fuel exceeds the wraps of any
stretch shorter than a tick. -/
def pmcRun (frozen : Bool) (hit : Nat → Bool) : Nat → Nat → Legend → Legend
  | 0, n, l => pmcCount frozen hit n l
  | k + 1, n, l =>
    let j := min n (if l.carry = 0 then pmcToWrap hit l else 1)
    if n = 0 then l
    else if frozen || bit l.pmcCtrl 8 then pmcCarry l
    else pmcRun frozen hit k (n - j) (pmcCount frozen hit j l)

/-- Whether SYS_GFREEZE.FREEZE is 1. -/
def gfreeze (s : State) : Bool := bit (getReg s (ra (pg .sys) 0x118)) 0

/-- Count `n` occurrences of event `ev` on one page. -/
def pmcEvent (page ev n : Nat) (s : State) : State := modLegend page (pmcCount (gfreeze s) (· == ev) n) s

/-- Change every listed Legend header; an unlisted one has no counter enabled. -/
def mapLegends (f : Nat → Legend → Legend) (s : State) : State :=
  { s with legends := (s.legends.map (fun e => (e.1, f e.1 e.2))).filter (fun e => decide (e.2 ≠ Legend.init)) }

/-- Count `n` occurrences of event `ev` on every page (tick boundaries). -/
def pmcAll (ev n : Nat) (s : State) : State := mapLegends (fun _ => pmcCount (gfreeze s) (· == ev) n) s

/-- Whether a pipeline holds a frame (PIPE_STAT.BUSY). -/
def pipeBusy (s : State) (p : Nat) : Bool := s.frames.list.any (fun f => f.gang.contains p)

/-- The events that occur in every clock on a page: pipeline clocks are event 1 of every page (R82), and the clocks of a free
pipeline, while EN leaves its clock running, event 7 of its page (R205, R206). -/
def clockHit (s : State) (page : Nat) (l : Legend) (ev : Nat) : Bool :=
  ev == 1 || (ev == 7 && (match pageAt page with | some (.pipe, p) => l.en && !pipeBusy s p | _ => false))

/-- `n` clocks on every page. -/
def pmcClocks (n : Nat) (s : State) : State := mapLegends (fun page l => pmcRun (gfreeze s) (clockHit s page l) 40 n l) s

/-- A pipeline free for 16 clocks has its key and GHASH registers zeroed (R196). -/
def zeroIdle (s : State) : State :=
  { s with pipes := s.pipes.map (fun x => match x.freedAt with
      | some c => if 16 ≤ (s.time.cyc + 2 ^ 64 - c) % 2 ^ 64 then { x with keyReg := [], ghash := [], freedAt := none } else x
      | none => x) }

/-! ### Interrupt sources and error capture -/

/-- Set INT_STAT bits by hardware (R73); newly set bits count as event 3 (R82). -/
def statLegend (frozen : Bool) (v : Word) (l : Legend) : Legend :=
  let new := (List.range 32).countP (fun i => bit v i && !bit l.intStat i)
  pmcCount frozen (· == 3) new { l with intStat := l.intStat ||| v }

/-- An event source: INT_STAT bit `b` of a page is set (R73). -/
def event (page b : Nat) (s : State) : State := modLegend page (statLegend (gfreeze s) (oneBit b)) s

/-- An event source that sets when `c` holds. -/
def eventIf (c : Bool) (page b : Nat) (s : State) : State := if c then event page b s else s

/-- The Legend header after an error (R75, R76). -/
def errLegend (reason cls detail : Nat) (lo hi : Word) (l : Legend) : Legend :=
  let l1 := { l with errCount := if l.errCount = 0xFFFFFFFF then l.errCount else l.errCount + 1 }
  if bit l.errInfo 31 then { l1 with errInfo := setBit l.errInfo 30 true }
  else { l1 with errInfo := wd (2 ^ 31 + reason * 65536 + cls * 4096 + detail), errLo := lo, errHi := hi }

/-- Capture an error on a page (R75). -/
def captureErr (page reason cls detail : Nat) (lo hi : Word) (s : State) : State :=
  modLegend page (errLegend reason cls detail lo hi) s

/-- Capture an error of a register access: the address is its BAR0 offset, and on a Boundary page the internal address (R75).
DEDUCED, unsafe (log entry 31). -/
def regErr (m : Master) (a reason : Nat) (s : State) : State :=
  let hi := match pageAt (a / 0x1000) with
    | some (.bdy, _) => 0x0F00
    | _ => 0
  captureErr (a / 0x1000) reason (mCls m) 0 (wd a) hi s

/-- Set LEGEND_STAT.FAULT of a page (R72). -/
def setFault (page : Nat) (s : State) : State := modLegend page (fun l => { l with fault := true }) s

/-- Set LEGEND_STAT.READY of a page (R489). -/
def setReady (page : Nat) (s : State) : State := modLegend page (fun l => { l with ready := true }) s

/-! ### Time (R4, R17, R81, R338) -/

/-- Meridian units (2^-47 ns) in one nanosecond. -/
def nsUnit : Nat := 2 ^ 47

/-- Meridian units in a tick of 125 us. -/
def tickUnit : Nat := 125000 * 2 ^ 47

/-- Meridian units per pipeline clock at the rate in effect: 0.625 ns × (1 + rate × 2^-44) (R338). -/
def perClock (rate : Word) : Nat := (5 * ((2 ^ 44 : Int) + rate.toInt)).toNat

/-- Meridian time in whole nanoseconds. -/
def merNs (s : State) : Nat := s.time.mer / nsUnit

/-- Let `n` pipeline clocks pass within the tick. DESIGN CHOICE, unsafe (log entry 15). -/
def passClocks (n : Nat) (s : State) : State :=
  let t := s.time
  if t.run then
    zeroIdle (pmcClocks n { s with time := { t with clk := t.clk + n, cyc := add64 t.cyc n, mer := t.mer + n * perClock t.rate } })
  else s

/-- The Meridian time of the next boundary: the next multiple of 125 us, or the present time when a step has put Meridian on
one within a tick (R29). DESIGN CHOICE, unsafe (log entry 15). -/
def nextBoundary (s : State) : Nat :=
  if s.time.mer % tickUnit = 0 && s.time.clk != 0 then s.time.mer else (s.time.mer / tickUnit + 1) * tickUnit

/-- Clocks from now to clock 0 of the next tick: the first clock at or after its boundary (R17). -/
def clocksToBoundary (s : State) : Nat := cdiv (nextBoundary s - s.time.mer) (perClock s.time.rate)

/-- Let time pass to clock `c` of the present tick; a clock already past, or beyond the tick, leaves time as it is.
DESIGN CHOICE, unsafe (log entry 4). DESIGN CHOICE, unsafe (log entry 15). -/
def advanceTo (c : Nat) (s : State) : State :=
  if c ≤ s.time.clk || clocksToBoundary s ≤ c - s.time.clk then s else passClocks (c - s.time.clk) s

/-- The present tick. -/
def now (s : State) : Tick := s.time.tick

/-! ### Mode -/

/-- Whether the present mode is one of a list. -/
def modeIn (l : List Mode) (s : State) : Bool := l.contains s.dev.mode

/-- Whether registers can be reached: not in LUNAR or RESET, and for the host only over a live PCIe link (R42, R408). -/
def reachable (m : Master) (s : State) : Bool :=
  !(s.dev.mode == .lunar) && !(s.dev.mode == .reset) && (m != .host || s.dev.pcieUp)

/-- The twin modes. -/
def twinMode (s : State) : Bool := modeIn [.twinJoin, .twinEmit, .twinHold] s

/-- The modes in which ports take frames in in both directions (R33). -/
def traffic (s : State) : Bool := modeIn [.solo, .twinEmit, .twinHold, .diagnostic] s

/-- The modes in which only control frames are delivered (R34). -/
def controlOnly (s : State) : Bool := modeIn [.configure, .twinJoin] s

/-! ### The NV event log (R461) -/

/-- Seconds an entry carries: Meridian seconds bits 31:0, or the RTC's when Meridian is not stepped. -/
def logSec (s : State) : Word := if s.time.stepped then wd (merNs s / 1000000000) else s.lun.rtcSec

/-- Append an entry whatever the tick's limit. -/
def logForce (type : Nat) (data : List Word) (s : State) : State :=
  let e : LogEntry := { num := s.log.next, tick := now s, sec := logSec s, type := type, data := data.take 20 }
  let es := s.log.entries ++ [e]
  bump (pg .hlt) 0x200 1
    { s with log := { s.log with next := (s.log.next + 1) % 2 ^ 32, entries := es.drop (es.length - 16384) } }

/-- Enter an event in the log: at most 64 entries in a tick, the others counted in LOG_DROPPED.
DESIGN CHOICE, unsafe (log entry 83). -/
def logEvent (type : Nat) (data : List Word) (s : State) : State :=
  if s.log.inTick < 64 then
    logForce type data { s with log := { s.log with inTick := s.log.inTick + 1 } }
  else bump (pg .hlt) 0x208 1 { s with log := { s.log with dropped := s.log.dropped + 1 } }

/-! ### Failure records and orders -/

/-- A failure receives its record (R16, R421): it waits for ERRATA_RECORD. -/
def fail (r : ErrRec) (s : State) : State := { s with era := { s.era with wait := s.era.wait ++ [r] } }

/-- The IDENT of an order's or job's record: TAG, OPCODE and STATUS (R421). -/
def ordIdent (tag : Word) (op status : Nat) : Nat := tag.toNat + 2 ^ 32 * (op * 65536 + status * 256)

/-- The record of an order or job that fails. -/
def ordErr (s : State) (kind reason : Nat) (tag : Word) (op status : Nat) : ErrRec :=
  { tick := now s, kind := kind, dir := 0, consumed := false, reason := reason, port := 0, cls := 3, aux := 0, sa := 0, len := 0,
    ident := ordIdent tag op status }

/-- The number of outstanding orders: taken and not yet posted (R411). -/
def outstanding (s : State) : Nat := s.ords.outs.length + s.ords.ended.length

/-- An outstanding order ends with a status (R417): it waits for its completion to be posted. -/
def endOrder (id : Nat) (st : Status) (detail : Word) (s : State) : State :=
  match s.ords.outs.find? (fun o => o.id == id) with
  | some o =>
    let e : EndRec := { id := id, tag := o.tag, op := o.op, int := o.int, status := st, detail := detail, tick := now s }
    { s with ords := { s.ords with outs := s.ords.outs.filter (fun o => o.id != id), ended := s.ords.ended ++ [e] } }
  | none => s

/-- An order that waits, if there is one, ends. -/
def endOpt (id : Option Nat) (st : Status) (detail : Word) (s : State) : State :=
  match id with
  | some i => endOrder i st detail s
  | none => s

/-- An order ends with ABORTED and an Errata record of kind ORDER (R416, R417). -/
def abortOrder (id reason : Nat) (s : State) : State :=
  match s.ords.outs.find? (fun o => o.id == id) with
  | some o => endOrder id .aborted 0 (fail (ordErr s 1 reason o.tag o.op Status.aborted.code) s)
  | none => s

/-- An order that waits, if there is one, is aborted. -/
def abortOpt (id : Option Nat) (reason : Nat) (s : State) : State :=
  match id with
  | some i => abortOrder i reason s
  | none => s

/-- An order whose chore item has committed: it ends after the tick (R25). -/
def commitOrder (id : Option Nat) (st : Status) (detail : Word) (s : State) : State :=
  match id with
  | some i => { s with ords := { s.ords with commit := s.ords.commit ++ [(i, st, detail)] } }
  | none => s

/-! ### Random values (R451, R453) -/

/-- Draw `n` bytes of DRBG output: one generate request, taken from the free stream.
DESIGN CHOICE, safe (log entry 10). -/
def draw (n : Nat) (s : State) : Bytes × State :=
  ((List.range n).map (fun i => Config.rnd (s.rng.pos + i)),
   bump (pg .rng) 0x218 1 { s with rng := { s.rng with pos := s.rng.pos + n, reqs := s.rng.reqs + 1 } })

/-- Reseed the DRBG (R451). -/
def reseed (s : State) : State :=
  bump (pg .rng) 0x210 1 { s with rng := { s.rng with reqs := 0, seedTick := now s } }

/-! ### Alarms (R401, R402) -/

/-- Declare alarm source `n`: its responses wait for ALARM. -/
def declareAlarm (n : Nat) (s : State) : State :=
  bump (pg .lun) 0x200 1
    { s with lun := { s.lun with declared := s.lun.declared ++ [n], latch := s.lun.latch ||| 2 ^ n } }

end Sys2Proof.Machine
end

