-- ==== Sys2Proof/Machine/Access.lean ====
section
/-! DEFINITION. Accesses on the interconnect: the check of a master's Boundary unit (R383-R388, R391), the way a register
command reaches its register, and reads and writes of DRAM through the sealed path (R356-R359, R367-R370). -/

namespace Sys2Proof.Machine

/-! ### The Boundary check -/

/-- The unit that checks a master, and whether it is the unit's second class (R383). -/
def unitOf : Master → Nat × Bool
  | .host => (0, false) | .tircy _ => (1, false) | .agentUser _ => (2, false) | .agentKernel _ => (2, false)
  | .debug => (3, false) | .orbit => (4, false) | .twin => (4, true) | .record => (5, false) | .loader => (5, true)
  | .pke => (6, false) | .ucu => (6, true)

/-- Word `w` (0 BASE, 1 LIMIT, 2 ATTR, 3 KMASK) of active region `n` of unit `u`. -/
def regionWord (s : State) (u n w : Nat) : Word := getReg s (ra (pg .bdy u) (0x800 + 16 * n + 4 * w))

/-- Whether an address lies in a region's range under a key identifier it accepts (R384). -/
def inRegion (s : State) (u n addr : Nat) : Bool :=
  let x := addr / 4096 % 2 ^ 32
  (regionWord s u n 0).toNat ≤ x && x ≤ (regionWord s u n 1).toNat && bit (regionWord s u n 3) (addr / 2 ^ 44 % 16)

/-- The region that decides an access: the highest-numbered match (R384). -/
def deciding (s : State) (m : Master) (addr : Nat) : Option Nat :=
  let u := unitOf m
  (List.range 64).reverse.find? (fun n =>
    let a := regionWord s u.1 n 2
    bit a 31 && bit a (if u.2 then 29 else 28) && inRegion s u.1 n addr)

/-- The ATTR bit that permits an access (R384): UR UW UX in bits 2:0, PR PW PX in bits 5:3. -/
def permBit (m : Master) (k : Access) : Nat :=
  (if mPriv m then 3 else 0) + (match k with | .read => 0 | .write => 1 | .fetch => 2)

/-- Whether some locked region of any unit holds the address; such an address is closed to DEBUG (R391).
DEDUCED, unsafe (log entry 74). -/
def lockedAnywhere (s : State) (addr : Nat) : Bool :=
  (List.range 8).any (fun u => (List.range 64).any (fun n => bit (regionWord s u n 2) 30 && inRegion s u n addr))

/-- Whether the access is permitted (R384, R391). -/
def permitted (s : State) (m : Master) (k : Access) (addr : Nat) : Bool :=
  match deciding s m addr with
  | some n => bit (regionWord s (unitOf m).1 n 2) (permBit m k) && !(m == .debug && lockedAnywhere s addr)
  | none => false

/-! ### The sealed path -/

/-- The first logical address no master may use: 3D/4, with D = 7C/8 (R355, R358). -/
def dataTop (s : State) : Nat := s.sealPath.gib * 2 ^ 30 * 21 / 32

/-- The identifier a logical address is sealed under (R358, R380). -/
def keyOf (s : State) (l : Nat) : Option Nat :=
  if l < 0x10000000 then some 3
  else if l < 0x30800000 then some 1
  else if l < 0x38000000 then some 2
  else if l < 0x48000000 then some (s.sealPath.b2map.getD ((l - 0x38000000) / 2 ^ 24) 4)
  else if l < dataTop s then some 0
  else none

/-- The channel a logical address lies on (R356). -/
def chanOf (l : Nat) : Nat := (l / 2 ^ 8 % 8) ^^^ (l / 2 ^ 11 % 8) ^^^ (l / 2 ^ 14 % 8)

/-- The logical address of BAR2 byte `o` (R358). -/
def bar2 (o : Nat) : Nat := 0x38000000 + o

/-- The canonical form of memory: addresses rise, and no listed byte is 0, what an unlisted one reads as.
DEDUCED, unsafe (log entry 3). -/
def Memory.wf (m : Sparse Byte) : Bool := spWf 0 m

/-- `n` bytes of DRAM at a logical address; unlisted bytes read 0 (R366). DEDUCED, unsafe (log entry 3). -/
def readMem (s : State) (l n : Nat) : Bytes := (List.range n).map (fun i => spGet 0 s.mem (l + i))

/-- Write bytes to a list of cells. DEDUCED, unsafe (log entry 3). -/
def writeCells (m : Sparse Byte) : Nat → Bytes → Sparse Byte
  | _, [] => m
  | l, b :: r => writeCells (spSet 0 m l b) (l + 1) r

/-- Write bytes to DRAM at a logical address. -/
def writeMem (l : Nat) (bs : Bytes) (s : State) : State := { s with mem := writeCells s.mem l bs }

/-- Zero the cells of a range. -/
def clearMem (l n : Nat) (s : State) : State := { s with mem := spKeep (fun k => decide (k < l) || decide (l + n ≤ k)) s.mem }

/-- The internal address of the line that holds a logical address: its KEYID and the line (R357, R368). -/
def lineAddr (s : State) (l : Nat) : Nat := (keyOf s l).getD 0 * 2 ^ 44 + l / 64 * 64

/-- Whether the line at a logical address is in the poison table (R368). -/
def poisoned (s : State) (l : Nat) : Bool := s.sealPath.poison.contains (lineAddr s l)

/-- The first addresses of the lines that `n` bytes at `l` touch. -/
def linesOf (l n : Nat) : List Nat :=
  if n = 0 then [] else (List.range ((l + n - 1) / 64 - l / 64 + 1)).map (fun i => (l / 64 + i) * 64)

/-- Enter a line in the poison table while it has room (R367, R368). -/
def poison (a : Nat) (s : State) : State :=
  if s.sealPath.poison.contains a || s.sealPath.poison.length ≥ 4096 then s
  else { s with sealPath := { s.sealPath with poison := s.sealPath.poison ++ [a] } }

/-- Count lines read or written, on the SEAL page and on each line's channel.
DESIGN CHOICE, unsafe (log entry 66). -/
def countLines (sealOff memOff : Nat) (ls : List Nat) (s : State) : State :=
  bump (pg .seal) sealOff ls.length (ls.foldl (fun s l => bump (pg .mem (chanOf l)) memOff 1 s) s)

/-- A read of `n` bytes at a logical address that a Boundary unit has let through: `none` when a line of it is poisoned, which is
counted in POISON_READS and captured (R368). The lines before it are read, and the access ends with it.
DESIGN CHOICE, safe (log entry 65). -/
def linesRead (m : Master) (l n : Nat) (s : State) : Option Bytes × State :=
  let ls := linesOf l n
  let s1 := countLines 0x200 0x200 (ls.takeWhile (fun p => !poisoned s p)) s
  match ls.find? (poisoned s) with
  | some p => (none, captureErr (pg .seal) 0x41 (mCls m) 0 (wd (lineAddr s p)) (wd (lineAddr s p / 2 ^ 32)) (bump (pg .seal) 0x228 1 s1))
  | none => (some (readMem s l n), s1)

/-- Whether a write of `n` bytes at `l` covers all 64 bytes of the line at `p`. -/
def covers (l n p : Nat) : Bool := decide (l ≤ p) && decide (p + 64 ≤ l + n)

/-- A partial write to a poisoned line is abandoned (R369). -/
def partialPoison (m : Master) (p : Nat) (s : State) : State :=
  declareAlarm 9 (captureErr (pg .seal) 0x42 (mCls m) 0 (wd (lineAddr s p)) (wd (lineAddr s p / 2 ^ 32)) (bump (pg .seal) 0x230 1 s))

/-- The bytes of a write of `bs` at `l` that fall in the line at `p`, stored; a full write removes the line from the poison table
(R369). -/
def lineStore (l : Nat) (bs : Bytes) (s : State) (p : Nat) : State :=
  let lo := max l p
  let s1 := { s with sealPath := { s.sealPath with poison := s.sealPath.poison.filter (fun a => a != lineAddr s p) } }
  writeMem lo (slice bs (lo - l) (min (l + bs.length) (p + 64) - lo)) s1

/-- A write of bytes at a logical address that a Boundary unit has let through, line by line: a line in the poison table that it
covers only in part is left as it is, which fails the write (R369); every other line is stored and counted.
DESIGN CHOICE, safe (log entry 65). -/
def linesWrite (m : Master) (l : Nat) (bs : Bytes) (s : State) : Bool × State :=
  let ls := linesOf l bs.length
  let bad := ls.filter (fun p => poisoned s p && !covers l bs.length p)
  let good := ls.filter (fun p => !(poisoned s p && !covers l bs.length p))
  let part := good.filter (fun p => !covers l bs.length p)
  let s1 := countLines 0x210 0x210 part (countLines 0x208 0x208 good (good.foldl (lineStore l bs) s))
  (bad.isEmpty, bad.foldl (fun s p => partialPoison m p s) s1)

/-! ### Forced release of the utility cipher unit (R441, R442) -/

/-- Every key, IV, tag and result register of the UCU is zeroed and the lock is freed (R441). -/
def ucuFree (s : State) : State :=
  let s1 := (List.range 8).foldl (fun s i => setReg s (ra (pg .ucu) (0x180 + 4 * i)) 0) s
  { s1 with ucu := { s1.ucu with held := false, ownCls := 0, ownCore := 0, relPending := false, key := List.replicate 8 0,
                                 key2 := List.replicate 8 0, result := [] } }

/-- The internal address in UCU_SRC (`off` 0x10C) or UCU_DST (0x114). -/
def ucuAddr (s : State) (off : Nat) : Nat :=
  (getReg s (ra (pg .ucu) off)).toNat + 2 ^ 32 * regFld s (ra (pg .ucu) (off + 4)) 15 0

/-- Zero `n` bytes of the UCU's destination (R439, R442). -/
def ucuZero (n : Nat) (s : State) : State := (linesWrite .ucu (ucuAddr s 0x114 % 2 ^ 36) (zeros n) s).2

/-- Whether a MODE writes to the destination. -/
def ucuWrites (mode : Nat) : Bool := decide (1 ≤ mode) && decide (mode ≤ 6)

/-- A forced release (R442): a running job ends with RESULT FORCED, what it has written so far is zeroed, and the lock is
freed; the release of a lock held by the host or an agent enters the log.
DESIGN CHOICE, safe (log entry 12). -/
def ucuForced (s : State) : State :=
  if !s.ucu.held then s
  else
    let who := s.ucu.ownCls
    let s1 := if who = 0 || who = 2 then logEvent 0x08 [wd who, wd s.ucu.ownCore] s else s
    let s2 :=
      if s.ucu.busy then
        let wrote := min (regFld s (ra (pg .ucu) 0x11C) 24 0) (Config.ucuWritten s.time.cyc)
        let z := if ucuWrites (regFld s (ra (pg .ucu) 0x108) 31 24) then ucuZero wrote s1 else s1
        { z with ucu := { z.ucu with busy := false, doneFlag := true, res := 2 } }
      else s1
    ucuFree (event (pg .ucu) 1 (bump (pg .ucu) 0x218 1 s2))

/-- The agent that owns a core. -/
def agentOf (s : State) (core : Nat) : Option Nat := s.hlt.agents.findIdx? (fun a => a.first ≤ core && core ≤ a.last)

/-- A lock held by an agent that is stopped or restarted is released by force (R442). -/
def ucuAgent (core : Nat) (s : State) : State :=
  if s.ucu.held && s.ucu.ownCls == 2 && (s.ucu.ownCore == core || (agentOf s core).isSome && agentOf s core == agentOf s s.ucu.ownCore)
  then ucuForced s else s

/-! ### Denial (R386-R388) -/

/-- An imprecise notice enters the unit's FIFO (R387). -/
def bdyNotice (m : Master) (addr region : Nat) (s : State) : State :=
  let u := (unitOf m).1
  let b := s.bdy.getD u { pending := false, notices := [] }
  if b.notices.length < 64 then
    let n : BdyNotice := { user := !mPriv m, cls := mCls m, region := region, addr := addr, tick := now s }
    { s with bdy := s.bdy.set u { b with notices := b.notices ++ [n] } }
  else event (pg .bdy u) 2 (bump (pg .bdy u) 0x228 1 s)

/-- Whether cores `f` to `f + n - 1` are spare: past core 20 and held by no agent (R455).
DEDUCED, unsafe (log entry 82). -/
def coresSpare (s : State) (f n : Nat) : Bool :=
  decide (21 ≤ f) && decide (f + n ≤ 64) && s.hlt.agents.all (fun a => decide (a.last < f) || decide (f + n ≤ a.first))

/-- An agent is restarted (R455): the third restart within 8,000 ticks moves it to spare cores, as many as it had.
DEDUCED, unsafe (log entry 82). -/
def restartAgent (a : Nat) (s : State) : State :=
  match s.hlt.agents[a]? with
  | none => s
  | some x =>
    let ts := now s :: x.restarts.filter (fun t => tdiff (now s) t < 8000)
    let n := x.last + 1 - x.first
    let spot := if 3 ≤ ts.length then (List.range 64).find? (fun f => coresSpare s f n) else none
    let y := match spot with
      | some f => { x with first := f, last := f + n - 1, restarts := [] }
      | none => { x with restarts := ts }
    let h := { s.hlt with agents := s.hlt.agents.set a y, agentMoved := s.hlt.agentMoved || spot.isSome }
    event (pg .hlt) 2 (bump (pg .hlt) 0x210 1 { s with hlt := h })

/-- The agent on a core is stopped and restarted: USER_FAULT or AGENT_RESTART enters the log (R388, R455), and a UCU lock it
holds is released. -/
def stopAgent (core : Nat) (data : List Word) (s : State) : State :=
  let s1 := logEvent 0x07 data (ucuAgent core s)
  match agentOf s1 core with
  | some a => restartAgent a s1
  | none => s1

/-- A user fault (R388). -/
def userFault (core : Nat) (addr : Nat) (s : State) : State := stopAgent core [wd core, wd addr, wd (addr / 2 ^ 32)] s

/-- The counter of a master's denials. -/
def deniedCtr : Master → Nat
  | .host => 0x208
  | .debug => 0x220
  | .agentUser _ => 0x218
  | _ => 0x210

/-- How a denial shows to its master, and what follows from it (R386-R388); `r` is the region that decided.
DESIGN CHOICE, safe (log entry 72). -/
def deniedShown (m : Master) (k : Access) (addr r : Nat) (s : State) : State :=
  let note := if k == .write then bdyNotice m addr r s else s
  match m with
  | .host => if k == .write then note else emit .completerAbort s
  | .debug => emit .busError (logEvent 0x06 [wd addr, wd (addr / 2 ^ 32), now s] s)
  | .agentUser c => userFault c addr (emit .busError note)
  | .agentKernel _ | .tircy _ => declareAlarm 11 (emit .busError note)
  | .orbit | .record | .pke | .ucu | .twin | .loader => declareAlarm 11 (emit .busError s)

/-- A denied access: counted, captured, and handled as its master requires (R386). -/
def denied (m : Master) (k : Access) (addr : Nat) (s : State) : State :=
  let u := pg .bdy (unitOf m).1
  let r := (deciding s m addr).getD 0x3F
  deniedShown m k addr r (event u 0 (captureErr u 0x09 (mCls m) 0 (wd addr) (wd (addr / 2 ^ 32 % 65536)) (bump u (deniedCtr m) 1 s)))

/-- The check of one access (R383): CHECKED counts it; a permitted one goes on as `f` says. -/
def checked (m : Master) (k : Access) (addr : Nat) (f : State → State) (s : State) : State :=
  let s1 := bump (pg .bdy (unitOf m).1) 0x200 1 s
  if permitted s1 m k addr then f s1 else denied m k addr s1

/-! ### Accesses of the device's own units (R383, R385, R386) -/

/-- The pieces of `n` bytes at an address, split at 256-byte boundaries: offset and length (R356, R385). -/
def pieces (a n : Nat) : List (Nat × Nat) :=
  if n = 0 then []
  else (List.range ((a + n - 1) / 256 - a / 256 + 1)).map (fun i =>
    let lo := max a ((a / 256 + i) * 256)
    (lo - a, min (a + n) ((a / 256 + i + 1) * 256) - lo))

/-- The check of one piece: whether it may go on (R383, R386). -/
def pieceOk (m : Master) (k : Access) (a : Nat) (s : State) : Bool × State :=
  let s1 := bump (pg .bdy (unitOf m).1) 0x200 1 s
  if permitted s1 m k a then (true, s1) else (false, denied m k a s1)

/-- The internal address of a logical address: the identifier of its region in bits 47:44 (R357, R382). -/
def internalAddr (s : State) (l : Nat) : Nat := (keyOf s l).getD 0 * 2 ^ 44 + l

/-- Two parts of what a burst reads: nothing once a piece has failed. -/
def joinRead : Option Bytes → Option Bytes → Option Bytes
  | some a, some b => some (a ++ b)
  | _, _ => none

/-- One piece of a read at a logical address: checked, then read. -/
def pieceRead (m : Master) (l n : Nat) (s : State) : Option Bytes × State :=
  let c := pieceOk m .read (internalAddr s l) s
  if c.1 then linesRead m l n c.2 else (none, c.2)

/-- One piece of a write at a logical address: checked, then written. -/
def pieceWrite (m : Master) (l : Nat) (bs : Bytes) (s : State) : Bool × State :=
  let c := pieceOk m .write (internalAddr s l) s
  if c.1 then linesWrite m l bs c.2 else (false, c.2)

/-- A read of `n` bytes at a logical address by a unit of the device: `none` when a piece of it is denied or poisoned.
DESIGN CHOICE, unsafe (log entry 73). -/
def sealRead (m : Master) (l n : Nat) (s : State) : Option Bytes × State :=
  (pieces l n).foldl (fun r p =>
    let x := pieceRead m (l + p.1) p.2 r.2
    (joinRead r.1 x.1, x.2)) (some [], s)

/-- A write of bytes at a logical address by a unit of the device: every permitted piece is carried out (R385); whether all were.
DESIGN CHOICE, unsafe (log entry 73). -/
def sealWrite (m : Master) (l : Nat) (bs : Bytes) (s : State) : Bool × State :=
  (pieces l bs.length).foldl (fun r p =>
    let x := pieceWrite m (l + p.1) (slice bs p.1 p.2) r.2
    (r.1 && x.1, x.2)) (true, s)

/-- Whether `n` bytes at BAR2 offset `o` lie wholly within BAR2 (R490). -/
def inBar2 (o n : Nat) : Bool := decide (o + n ≤ 2 ^ 28)

/-- Read and write BAR2. -/
def readBar2 (m : Master) (o n : Nat) (s : State) : Option Bytes × State := sealRead m (bar2 o) n s
def writeBar2 (m : Master) (o : Nat) (bs : Bytes) (s : State) : Bool × State := sealWrite m (bar2 o) bs s

/-! ### Register commands -/

/-- The internal address of BAR0 offset `a` (R382). DEDUCED, unsafe (log entry 31). -/
def regAddr (a : Nat) : Nat := 0x0F0000000000 + a

/-- A register write of one 32-bit word: it reaches the register only where registers can be reached and the master's
Boundary unit permits it. -/
def regCmd (m : Master) (a : Nat) (f : State → State) (s : State) : State :=
  if reachable m s then checked m .write (regAddr a) f s else s

end Sys2Proof.Machine
end

