-- ==== Sys2Proof/Machine/Aes.lean ====
section
/-! DEFINITION. AES (FIPS 197), the block cipher of every suite of R146, and the modes the spec names: GCM
(R177, R186, R438), XTS (R360, R438), key wrap (R432), CMAC and CBC-MAC (R438, R451), CTR_DRBG block use (R451). -/

namespace Sys2Proof.Machine

/-- The AES substitution table, entry x in bits [8x+7:8x]. -/
def aesSboxTable : Nat :=
  0x16BB54B00F2D99416842E6BF0D89A18CDF2855CEE9871E9B948ED9691198F8E19E1DC186B95735610EF6034866B53E708A8BBD4B1F74DDE8C6B4A61C2E2578BA08AE7A65EAF4566CA94ED58D6D37C8E779E4959162ACD3C25C2406490A3A32E0DB0B5EDE14B8EE4688902A22DC4F816073195D643D7EA7C41744975FEC130CCDD2F3FF1021DAB6BCF5389D928F40A351A89F3C507F02F94585334D43FBAAEFD0CF584C4A39BECB6A5BB1FC20ED00D153842FE329B3D63B52A05A6E1B1A2C830975B227EBE28012079A059618C323C7041531D871F1E5A534CCF73F362693FDB7C072A49CAFA2D4ADF04759FA7DC982CA76ABD7FE2B670130C56F6BF27B777C63

/-- The inverse substitution table, laid out likewise. -/
def aesInvSboxTable : Nat :=
  0x7D0C2155631469E126D677BA7E042B17619953833CBBEBC8B0F52AAE4D3BE0A0EF9CC9939F7AE52D0D4AB519A97F51605FEC8027591012B131C7078833A8DD1FF45ACD78FEC0DB9A2079D2C64B3E56FC1BBE18AA0E62B76F89C5291D711AF1476EDF751CE837F9E28535ADE72274AC9673E6B4F0CECFF297EADC674F4111913A6B8A130103BDAFC1020F3FCA8F1E2CD00645B3B80558E4F70AD3BC8C00ABD890849D8DA75746155EDAB9EDFD5048706C92B6655DCC5CA4D41698688664F6F87225D18B6D49A25B76B224D92866A12E084EC3FA420B954CEE3D23C2A632947B54CBE9DEC444438E3487FF2F9B8239E37CFBD7F3819EA340BF38A53630D56A0952

def aesSbox (b : Byte) : Byte := by8 (aesSboxTable >>> (8 * b.toNat))
def aesInvSbox (b : Byte) : Byte := by8 (aesInvSboxTable >>> (8 * b.toNat))

/-- Multiplication by x in GF(2^8). -/
def xtime (b : Byte) : Byte := (b <<< 1) ^^^ (if b.getLsbD 7 then 0x1B else 0)

/-- Product in GF(2^8) with a small constant. -/
def gfMul (a : Byte) (k : Nat) : Byte :=
  (if k % 2 = 1 then a else 0) ^^^ (if k / 2 % 2 = 1 then xtime a else 0) ^^^
  (if k / 4 % 2 = 1 then xtime (xtime a) else 0) ^^^ (if k / 8 % 2 = 1 then xtime (xtime (xtime a)) else 0)

/-- One column of MixColumns with the row of coefficients a b c d. -/
def mixCol (a b c d : Nat) (x0 x1 x2 x3 : Byte) : Bytes :=
  [gfMul x0 a ^^^ gfMul x1 b ^^^ gfMul x2 c ^^^ gfMul x3 d, gfMul x0 d ^^^ gfMul x1 a ^^^ gfMul x2 b ^^^ gfMul x3 c,
   gfMul x0 c ^^^ gfMul x1 d ^^^ gfMul x2 a ^^^ gfMul x3 b, gfMul x0 b ^^^ gfMul x1 c ^^^ gfMul x2 d ^^^ gfMul x3 a]

def mixColumns (a b c d : Nat) (s : Bytes) : Bytes :=
  [0, 4, 8, 12].flatMap (fun o => mixCol a b c d (byteAt s o) (byteAt s (o + 1)) (byteAt s (o + 2)) (byteAt s (o + 3)))

/-- ShiftRows: byte i comes from the listed position. -/
def shiftRows (s : Bytes) : Bytes := [0, 5, 10, 15, 4, 9, 14, 3, 8, 13, 2, 7, 12, 1, 6, 11].map (byteAt s)
def invShiftRows (s : Bytes) : Bytes := [0, 13, 10, 7, 4, 1, 14, 11, 8, 5, 2, 15, 12, 9, 6, 3].map (byteAt s)

/-- The key schedule as a growing list of 4-byte words, newest last; `nk` is 4 or 8. -/
def aesExpand (nk : Nat) : Nat → Nat → Byte → List Bytes → List Bytes
  | 0, _, _, ws => ws
  | fuel + 1, i, rcon, ws =>
    let prev := ws.getD (i - 1) []
    let base := ws.getD (i - nk) []
    if i % nk = 0 then
      let r := [aesSbox (byteAt prev 1) ^^^ rcon, aesSbox (byteAt prev 2), aesSbox (byteAt prev 3), aesSbox (byteAt prev 0)]
      aesExpand nk fuel (i + 1) (xtime rcon) (ws ++ [xorBytes base r])
    else if nk = 8 ∧ i % 8 = 4 then
      aesExpand nk fuel (i + 1) rcon (ws ++ [xorBytes base (prev.map aesSbox)])
    else aesExpand nk fuel (i + 1) rcon (ws ++ [xorBytes base prev])

/-- Round keys of a 16- or 32-byte key: 11 or 15 of 16 bytes (R195). -/
def aesRoundKeys (key : Bytes) : List Bytes :=
  let nk := key.length / 4
  let first := (List.range nk).map (fun i => slice key (4 * i) 4)
  let total := 4 * (nk + 7)
  let ws := aesExpand nk (total - nk) nk 1 first
  (List.range (nk + 7)).map (fun r => ((ws.drop (4 * r)).take 4).flatten)

def aesRounds : List Bytes → Bytes → Bytes
  | [], s => s
  | [k], s => xorBytes (shiftRows (s.map aesSbox)) k
  | k :: ks, s => aesRounds ks (xorBytes (mixColumns 2 3 1 1 (shiftRows (s.map aesSbox))) k)

/-- Encrypt one 16-byte block under expanded keys. -/
def aesEncKeys (ks : List Bytes) (b : Bytes) : Bytes :=
  match ks with
  | [] => b
  | k :: r => aesRounds r (xorBytes b k)

/-- AES encryption of one block under a 128- or 256-bit key. -/
def aesEnc (key b : Bytes) : Bytes := aesEncKeys (aesRoundKeys key) b

def aesInvRounds : List Bytes → Bytes → Bytes
  | [], s => s
  | [k], s => xorBytes ((invShiftRows s).map aesInvSbox) k
  | k :: ks, s => aesInvRounds ks (mixColumns 14 11 13 9 (xorBytes ((invShiftRows s).map aesInvSbox) k))

/-- AES decryption of one block. -/
def aesDec (key b : Bytes) : Bytes :=
  match (aesRoundKeys key).reverse with
  | [] => b
  | k :: r => aesInvRounds r (xorBytes b k)

/-- Cut a byte string into 16-byte blocks; the last may be short. -/
def blocks16 : Nat → Bytes → List Bytes
  | 0, _ => []
  | n + 1, bs => if bs.isEmpty then [] else bs.take 16 :: blocks16 n (bs.drop 16)

def blocksOf (bs : Bytes) : List Bytes := blocks16 (bs.length / 16 + 1) bs

/-- Product in the GHASH field of SP 800-38D, operands as 128-bit numbers with bit 0 of the standard on top. -/
def ghashMul (x y : Nat) : Nat :=
  let rec go : Nat → Nat → Nat → Nat
    | 0, _, z => z
    | k + 1, v, z =>
      let z := if x / 2 ^ k % 2 = 1 then z ^^^ v else z
      go k (if v % 2 = 1 then (v / 2) ^^^ (0xE1 * 2 ^ 120) else v / 2) z
  go 128 y 0

/-- GHASH over whole blocks, from an accumulator. -/
def ghashBlocks (h : Nat) (acc : Nat) (bs : List Bytes) : Nat :=
  bs.foldl (fun a b => ghashMul (a ^^^ beNat (slice b 0 16)) h) acc

/-- GHASH of additional data and ciphertext with the length block. -/
def ghash (h : Bytes) (aad c : Bytes) : Bytes :=
  let hn := beNat h
  let a := ghashBlocks hn 0 (blocksOf aad)
  let a := ghashBlocks hn a (blocksOf c)
  beBytes 16 (ghashMul (a ^^^ (aad.length * 8 * 2 ^ 64 + c.length * 8)) hn)

/-- The GHASH subkey of a key, the HKEY of the SA record (R145, R156). -/
def hkeyOf (key : Bytes) : Bytes := aesEnc key (zeros 16)

/-- Counter mode from counter value `ctr` (the low 32 bits of the counter block) over 96-bit `iv`. -/
def gctr (ks : List Bytes) (iv : Bytes) : Nat → List Bytes → Bytes
  | _, [] => []
  | ctr, b :: r => xorBytes b (aesEncKeys ks (iv ++ beBytes 4 ctr)) ++ gctr ks iv (ctr + 1) r

/-- The GHASH subkey of a key: E(K, 0). -/
def gcmH (key : Bytes) : Bytes := aesEnc key (zeros 16)

/-- AES-GCM encryption with a 96-bit IV under GHASH subkey `h`: ciphertext and 16-byte tag. Counter blocks start at inc32(J0)
(R177). -/
def gcmSealH (h key iv aad pt : Bytes) : Bytes × Bytes :=
  let ks := aesRoundKeys key
  let c := gctr ks iv 2 (blocksOf pt)
  (c, xorBytes (ghash h aad c) (aesEncKeys ks (iv ++ beBytes 4 1)))

/-- The tag of received ciphertext. -/
def gcmTag (h key iv aad c : Bytes) : Bytes := xorBytes (ghash h aad c) (aesEncKeys (aesRoundKeys key) (iv ++ beBytes 4 1))

/-- AES-GCM decryption under GHASH subkey `h`: the plaintext when the tag matches. -/
def gcmOpenH (h key iv aad c tag : Bytes) : Option Bytes :=
  if gcmTag h key iv aad c = tag then some (gctr (aesRoundKeys key) iv 2 (blocksOf c)) else none

/-- AES-GCM with the subkey computed from the key. -/
def gcmSeal (key iv aad pt : Bytes) : Bytes × Bytes := gcmSealH (gcmH key) key iv aad pt
def gcmOpen (key iv aad c tag : Bytes) : Option Bytes := gcmOpenH (gcmH key) key iv aad c tag

/-- Multiplication of an XTS tweak by the primitive element, little-endian form of IEEE 1619. -/
def xtsDouble (t : Bytes) : Bytes :=
  let n := leNat t * 2
  leBytes 16 (if n < 2 ^ 128 then n else (n % 2 ^ 128) ^^^ 0x87)

def xtsRun (f : Bytes → Bytes) : Bytes → List Bytes → Bytes
  | _, [] => []
  | t, b :: r => xorBytes (f (xorBytes b t)) t ++ xtsRun f (xtsDouble t) r

/-- XTS-AES-256 over whole blocks; the tweak is a number in little-endian form (R360). -/
def xtsEnc (k1 k2 : Bytes) (tweak : Bytes) (data : Bytes) : Bytes :=
  xtsRun (aesEnc k1) (aesEnc k2 tweak) (blocksOf data)

def xtsDec (k1 k2 : Bytes) (tweak : Bytes) (data : Bytes) : Bytes :=
  xtsRun (aesDec k1) (aesEnc k2 tweak) (blocksOf data)

/-- Eight-byte groups. -/
def groups8 : Nat → Bytes → List Bytes
  | 0, _ => []
  | n + 1, bs => if bs.isEmpty then [] else bs.take 8 :: groups8 n (bs.drop 8)

def kwWrapPass (key : Bytes) : Nat → Bytes → List Bytes → List Bytes → Bytes × List Bytes
  | _, a, done, [] => (a, done)
  | t, a, done, r :: rs =>
    let b := aesEnc key (a ++ r)
    kwWrapPass key (t + 1) (xorBytes (slice b 0 8) (beBytes 8 t)) (done ++ [slice b 8 8]) rs

def kwWrapLoop (key : Bytes) : Nat → Nat → Bytes → List Bytes → Bytes
  | 0, _, a, rs => a ++ rs.flatten
  | j + 1, t, a, rs =>
    let p := kwWrapPass key t a [] rs
    kwWrapLoop key j (t + rs.length) p.1 p.2

/-- AES key wrap of RFC 3394 with the default initial value (R432). -/
def kwWrap (key pt : Bytes) : Bytes :=
  let rs := groups8 (pt.length / 8) pt
  kwWrapLoop key 6 1 (List.replicate 8 0xA6) rs

def kwUnwrapPass (key : Bytes) : Nat → Bytes → List Bytes → List Bytes → Bytes × List Bytes
  | _, a, done, [] => (a, done)
  | t, a, done, r :: rs =>
    let b := aesDec key (xorBytes a (beBytes 8 t) ++ r)
    kwUnwrapPass key (t - 1) (slice b 0 8) (slice b 8 8 :: done) rs

def kwUnwrapLoop (key : Bytes) : Nat → Nat → Bytes → List Bytes → Bytes × Bytes
  | 0, _, a, rs => (a, rs.flatten)
  | j + 1, t, a, rs =>
    let p := kwUnwrapPass key t a [] rs.reverse
    kwUnwrapLoop key j (t - rs.length) p.1 p.2

/-- AES key unwrap: the key when the integrity check holds (R432). -/
def kwUnwrap (key c : Bytes) : Option Bytes :=
  let rs := groups8 (c.length / 8 - 1) (c.drop 8)
  let p := kwUnwrapLoop key 6 (6 * rs.length) (slice c 0 8) rs
  if p.1 = List.replicate 8 0xA6 then some p.2 else none

/-- Doubling in GF(2^128) for CMAC. -/
def cmacDouble (b : Bytes) : Bytes :=
  let n := beNat b * 2
  beBytes 16 (if n < 2 ^ 128 then n else (n % 2 ^ 128) ^^^ 0x87)

/-- CBC-MAC over whole blocks. -/
def cbcMac (key : Bytes) (acc : Bytes) (bs : List Bytes) : Bytes := bs.foldl (fun a b => aesEnc key (xorBytes a b)) acc

/-- AES-CMAC (SP 800-38B, R438). -/
def aesCmac (key msg : Bytes) : Bytes :=
  let k1 := cmacDouble (aesEnc key (zeros 16))
  let bl := blocksOf msg
  let last := bl.getLastD []
  let m := if last.length = 16 then xorBytes last k1
    else xorBytes (slice (last ++ [0x80]) 0 16) (cmacDouble k1)
  aesEnc key (xorBytes (cbcMac key (zeros 16) bl.dropLast) m)

end Sys2Proof.Machine
end

