-- ==== Sys2Proof/Machine/Sa.lean ====
section
/-! DEFINITION. Security associations (R143-R171): the fields of the 256-byte record, the working image and the data
path's view of the SA store, the checks of an install, a rewrite and an import, the replay window and the SA counters. -/

namespace Sys2Proof.Machine

/-! ### Fields of the record (R145, R146) -/

/-- Word `n` of a record. -/
def recW (r : List Word) (n : Nat) : Word := r.getD n 0

/-- Bytes of a record. -/
def recBytes (r : List Word) (o n : Nat) : Bytes := slice (wordsToBytes r) o n

def recDir (r : List Word) : Nat := b2n (bit (recW r 0) 30)
def recSuite (r : List Word) : Nat := fld (recW r 0) 27 24
def recGen (r : List Word) : Nat := fld (recW r 0) 23 16
def recMerged (r : List Word) : Bool := bit (recW r 0) 14
def recAlm (r : List Word) : Nat := fld (recW r 1) 31 28
/-- SRC_PORT of a transmit SA, DEST_PORT of a receive SA. -/
def recPlain (r : List Word) : Nat := fld (recW r 1) 27 24
def recLine (r : List Word) : Nat := fld (recW r 1) 23 20
def recCls (r : List Word) : Nat := fld (recW r 1) 23 22
def recLearn (r : List Word) : Bool := bit (recW r 1) 21
def recRtag (r : List Word) : Bool := bit (recW r 1) 20
def recOffset (r : List Word) : Nat := fld (recW r 1) 19 18
/-- SCI_INCL of a transmit SA, REPLAY_EN of a receive SA. -/
def recBit17 (r : List Word) : Bool := bit (recW r 1) 17
def recUdp (r : List Word) : Bool := bit (recW r 1) 16
def recAn (r : List Word) : Nat := fld (recW r 1) 15 14
def recV6 (r : List Word) : Bool := bit (recW r 1) 13
def recWin (r : List Word) : Nat := fld (recW r 1) 12 0
def recPairEn (r : List Word) : Bool := bit (recW r 2) 31
def recPair (r : List Word) : Nat := fld (recW r 2) 20 0
def recSciA (r : List Word) : Bytes := recBytes r 0x10 8
def recSciB (r : List Word) : Bytes := recBytes r 0x18 8

/-- MACsec suites, legacy suites and the length of a suite's key (R146). -/
def isMacsec (suite : Nat) : Bool := decide (suite < 4)
def isLegacy (suite : Nat) : Bool := suite == 2 || suite == 3 || suite == 6 || suite == 7
def keyLen (suite : Nat) : Nat := if suite % 2 = 1 then 32 else 16

/-- The AES key and the GHASH subkey of a record. -/
def recKey (r : List Word) : Bytes := recBytes r 0x40 (keyLen (recSuite r))
def recHkey (r : List Word) : Bytes := recBytes r 0x60 16

/-- Offset confidentiality in bytes (R145). -/
def offsetBytes (o : Nat) : Nat := if o = 1 then 30 else if o = 2 then 50 else 0

/-- A number held in `n` words from word `k`, and a record with one written there. -/
def recNat (r : List Word) (k n : Nat) : Nat := leNat (recBytes r (4 * k) (4 * n))
def recPut (r : List Word) (k n v : Nat) : List Word :=
  (List.range n).foldl (fun r i => r.set (k + i) (wd (v / 2 ^ (32 * i)))) r

/-- Counter `i` of R167 (0x90 + 8i). -/
def recCtr (r : List Word) (i : Nat) : Nat := recNat r (36 + 2 * i) 2
def recAdd (i n : Nat) (r : List Word) : List Word := recPut r (36 + 2 * i) 2 (add64 (recCtr r i) n)

/-- A record of 64 words, missing words 0. -/
def rec64 (r : List Word) : List Word := (List.range 64).map (recW r)

/-! ### The SA store -/

/-- The entry of an SA as the data path sees it. -/
def saOf (s : State) (i : Nat) : SaEntry := spGet SaEntry.free s.orb.sas i

/-- Whether frames may use an SA: in DIAGNOSTIC only a diagnostic one (R58).
DEDUCED, unsafe (log entry 47). -/
def saUsable (s : State) (e : SaEntry) : Bool := e.diag || s.dev.mode != .diagnostic

/-- Write an entry. -/
def setSa (i : Nat) (e : SaEntry) (s : State) : State := { s with orb := { s.orb with sas := spSet SaEntry.free s.orb.sas i e } }

/-- Change an entry. -/
def modSa (i : Nat) (f : SaEntry → SaEntry) (s : State) : State := setSa i (f (saOf s i)) s

/-- An erased index: FREE, keeping GEN (R144). -/
def erasedSa (e : SaEntry) : SaEntry := { SaEntry.free with gen := e.gen }

/-- The window a rewrite leaves: raising W adds positions as seen, lowering W drops positions (R157). -/
def rewindow (w v : Nat) (win : Nat) : Nat := if w < v then win + (2 ^ v - 2 ^ w) else win % 2 ^ v

/-- The bitmap of Twin A, or of any SA that is not twin-merged, with its extension; and the bitmap of Twin B. -/
def winA (e : SaEntry) : Nat := recNat e.record 28 8 + e.ext * 2 ^ 256
def winB (e : SaEntry) : Nat := recNat e.record 52 8

/-- An entry with its windows written. -/
def putWin (e : SaEntry) (a b : Nat) : SaEntry :=
  let r := recPut e.record 28 8 (a % 2 ^ 256)
  { e with record := if recMerged r then recPut r 52 8 (b % 2 ^ 256) else r, ext := a / 2 ^ 256 }

/-- A record with new configuration words: counters, bitmaps, ticks and extension are kept (R157).
DEDUCED, unsafe (log entry 44). DESIGN CHOICE, unsafe (log entry 46). -/
def rewritten (old new : List Word) : List Word :=
  (List.range 64).map (fun n =>
    if (36 ≤ n && n < 60) || 60 ≤ n then recW old n
    else if 28 ≤ n && n < 36 && recDir new == 1 then recW old n
    else recW new n)

/-- What a committed change makes of an entry (R154-R158). A rewrite clears FAULT (R157), but a FAULT from the ledger stays until
the SA is erased (R149). -/
def applyChange (e : SaEntry) : SaChange → SaEntry
  | .install n => n
  | .erase => erasedSa e
  | .pin slot => { e with pinned := true, resident := true, slot := slot, ref := true }
  | .unpin => { e with pinned := false }
  | .fault => if e.st = 0 then e else { e with st := 2, faultSeq := true }
  | .rewrite words ledger =>
    let r := rewritten e.record words
    let e1 := { e with record := r, st := if e.faultSeq then e.st else 1, gen := recGen words }
    let e2 := match ledger with
      | some l => { e1 with ledger := l, exhNoted := false }
      | none => e1
    if recDir r = 1 then
      putWin e2 (rewindow (recWin e.record) (recWin words) (winA e)) (rewindow (recWin e.record) (recWin words) (winB e))
    else e2

/-- The entry of an SA in the working image: the data path's, with the changes of the present tick (R154). -/
def workSa (s : State) (i : Nat) : SaEntry :=
  (s.orb.pend.filter (fun p => p.1 == i)).foldl (fun e p => applyChange e p.2) (saOf s i)

/-- Every index that the data path or the working image holds something of. -/
def saIndices (s : State) : List Nat := ((s.orb.sas.map (·.1)) ++ (s.orb.pend.map (·.1))).eraseDups

/-- Indices installed or in FAULT in the working image. -/
def installedSas (s : State) : List Nat := (saIndices s).filter (fun i => (workSa s i).st != 0)

/-- Add a committed change. -/
def pendSa (i : Nat) (c : SaChange) (s : State) : State := { s with orb := { s.orb with pend := s.orb.pend ++ [(i, c)] } }

/-- Transmit SAs bound to a counter, installed or in FAULT, diagnostic SAs apart (R209, ALM_BOUND). -/
def almBound (s : State) (c : Nat) : Nat :=
  (installedSas s).countP (fun i => let e := workSa s i; e.dir == 0 && !e.diag && recAlm e.record == c)

/-- SAs pinned in the working image (R153). -/
def pinnedCount (s : State) : Nat := (installedSas s).countP (fun i => (workSa s i).pinned)

/-- Extended slots in use, and the lowest free one (R161). -/
def extUsed (s : State) : List Nat := (installedSas s).filterMap (fun i => (workSa s i).extSlot)
def extFree (s : State) : Option Nat :=
  let u := extUsed s
  if 16384 ≤ u.length then none else (List.range (u.length + 1)).find? (fun n => !u.contains n)

/-! ### Eclipse entries an SA's record shows (R229) -/

/-- Word 0x0C of an SA's record, given whether the SA is closed. -/
def eclWord (s : State) (i : Nat) (closed : Bool) : Word :=
  let mine := s.ecl.entries.filter (fun e => e.sa == i && !e.gone)
  let tx := mine.find? (fun e => e.kind == 0)
  let w := match tx with
    | some e => if e.active then 2 ^ 30 + e.new else 2 ^ 31 + e.new
    | none => if mine.isEmpty then 0 else 2 ^ 31
  wd (w + b2n closed * 2 ^ 29)

/-! ### Frames that hold an SA (R150) -/

/-- Whether a frame still needs its SA: a transmit frame to its end, a receive frame until its replay check is done. -/
def frameHolds (f : Frame) : Bool :=
  (f.kind == .sa || f.kind == .bundle) && (f.dir == .enc || (f.stage != .queued && f.stage != .emitting))

/-- Whether a frame holds the SA. -/
def heldSa (s : State) (i : Nat) : Bool := s.frames.list.any (fun f => frameHolds f && f.sa == i)

/-- Whether a frame holds the SA in a generation. -/
def heldGen (s : State) (i g : Nat) : Bool := s.frames.list.any (fun f => frameHolds f && f.sa == i && f.gen == g)

/-- A record with LAST_USE_TICK set to the present tick (R145). -/
def usedNow (s : State) (r : List Word) : List Word := recPut r 61 1 (now s).toNat

/-- The record of an SA in a state of its entry, as software and the home copy see it: the bits the DX32 sets are set from the
directory, and while a frame holds the SA, LAST_USE_TICK is the present tick (R145). DESIGN CHOICE, unsafe (log entry 46). -/
def recViewOf (s : State) (i : Nat) (e : SaEntry) : List Word :=
  let r := if heldSa s i then usedNow s e.record else e.record
  let w0 := setFld (setFld (setBit (setBit (recW e.record 0) 15 e.pinned) 13 (e.st == 2)) 23 16 e.gen) 30 30 e.dir
  let ext := match e.extSlot with
    | some n => wd (2 ^ 31 + n)
    | none => 0
  (((rec64 r).set 0 (setBit w0 31 (e.st != 0))).set 3 (eclWord s i e.closed)).set 62 ext

/-- The record in the working image. -/
def recView (s : State) (i : Nat) : List Word := recViewOf s i (workSa s i)

/-! ### Home copies, pool and residency (R143, R150-R155) -/

/-- The logical addresses of an SA's home copy and of an extended slot (R358). -/
def homeAddr (i : Nat) : Nat := 0x10000000 + 256 * i
def extAddr (n : Nat) : Nat := 0x30000000 + 512 * n

/-- Write a record to its home copy, and the extended slot with it (R161). -/
def writeRec (i : Nat) (e : SaEntry) (s : State) : State :=
  let s1 := (sealWrite .orbit (homeAddr i) (wordsToBytes (recViewOf s i e)) s).2
  match e.extSlot with
  | some n => (sealWrite .orbit (extAddr n) (leBytes 512 e.ext) s1).2
  | none => s1

/-- Write the home copy of an SA as it is in effect: changes of the present tick are not yet (R154). -/
def writeHome (i : Nat) (s : State) : State := writeRec i (saOf s i) s

/-- Overwrite an SA's home copy and extended slot with zeros (R158). -/
def wipeHome (i : Nat) (ext : Option Nat) (s : State) : State :=
  let s1 := (sealWrite .orbit (homeAddr i) (zeros 256) s).2
  match ext with
  | some n => (sealWrite .orbit (extAddr n) (zeros 512) s1).2
  | none => s1

/-- Change the record of an SA; a record that is not resident changes in its home copy. -/
def modRec (i : Nat) (f : List Word → List Word) (s : State) : State :=
  let s1 := modSa i (fun e => { e with record := f e.record }) s
  if (saOf s1 i).resident then s1 else writeHome i s1

/-- Add to counter `k` of an SA's record while the index is not FREE (R167). -/
def saCount (i k n : Nat) (s : State) : State := if (saOf s i).st = 0 then s else modRec i (recAdd k n) s

/-- A frame that holds an SA lets it go: LAST_USE_TICK stands at the present tick (R145). -/
def touchSa (i : Nat) (s : State) : State := if (saOf s i).st = 0 then s else modRec i (usedNow s) s

/-- Retired generations that no frame holds leave the pool (R155). -/
def prunePool (s : State) : State :=
  { s with orb := { s.orb with pool := s.orb.pool.filter (fun p => heldGen s p.1 p.2.1) } }

/-- Copies in use, those of rewrites committed in the present tick included (ORB_RETIRED). -/
def retiredUsed (s : State) : Nat :=
  s.orb.pool.length + (s.orb.pend.filter (fun p => match p.2 with | .rewrite _ _ => true | _ => false)).length

/-- The record a frame works under: that of its generation (R155). -/
def recFor (s : State) (i g : Nat) : List Word :=
  if (saOf s i).gen = g then (saOf s i).record
  else match s.orb.pool.find? (fun p => p.1 == i && p.2.1 == g) with
    | some p => p.2.2
    | none => []

/-- Resident records of the data path. -/
def residents (s : State) : List Nat := (s.orb.sas.filter (fun p => p.2.resident)).map (·.1)

/-- The scan of R151 from the hand over slots in ascending order: passes over marked records and clears their mark;
answers the victim, if there is one, and the state with marks cleared.
DESIGN CHOICE, unsafe (log entry 41). -/
def victimScan : Nat → State → Option Nat × State
  | 0, s => (none, s)
  | n + 1, s =>
    let slot := s.orb.hand
    let s1 := { s with orb := { s.orb with hand := (slot + 1) % 262144 } }
    match s.orb.sas.find? (fun p => p.2.resident && p.2.slot == slot) with
    | some (i, e) =>
      if (workSa s i).pinned || heldSa s i then victimScan n s1
      else if e.ref then victimScan n (modSa i (fun e => { e with ref := false }) s1)
      else (some i, s1)
    | none => victimScan n s1

/-- The victim, if any resident record is neither pinned nor held; with all such marked, a second round finds one. -/
def pickVictim (s : State) : Option Nat × State :=
  if (residents s).any (fun i => !(workSa s i).pinned && !heldSa s i) then victimScan 524288 s else (none, s)

/-- Evict a record: it is written back, then its slot is free (R151). -/
def evict (i : Nat) (s : State) : State :=
  bump (pg .orb) 0x208 1 (bump (pg .orb) 0x210 1 (modSa i (fun e => { e with resident := false }) (writeHome i s)))

/-- A slot for a record: the lowest free one, else the victim's (R151); `none` while every record is pinned or held.
DESIGN CHOICE, unsafe (log entry 41). -/
def takeSlot (s : State) : Option Nat × State :=
  let used := s.orb.sas.filterMap (fun p => if p.2.resident then some p.2.slot else none) ++
    s.orb.pend.filterMap (fun p => match p.2 with | .pin n => if (saOf s p.1).resident then none else some n | _ => none)
  if used.length < 262144 then ((List.range (used.length + 1)).find? (fun n => !used.contains n), s)
  else match pickVictim s with
    | (some i, s1) => (some (saOf s1 i).slot, evict i s1)
    | (none, s1) => (none, s1)

/-- Make an SA resident in a slot. -/
def makeResident (i slot : Nat) (s : State) : State := modSa i (fun e => { e with resident := true, slot := slot, ref := true }) s

/-! ### Checks of an image (R147, R156) -/

/-- The DX08 behaviour `n` is in effect (R46). -/
def behaviour (s : State) (n : Nat) : Bool :=
  let c := getReg s (ra (pg .sys) 0x104)
  bit c 0 && bit c n

/-- Whether 16 bytes are in IPv4-mapped form. -/
def ipv4Mapped (b : Bytes) : Bool := b.take 12 == zeros 10 ++ [0xFF, 0xFF]

/-- A field that contradicts the suite or the direction (R156). -/
def contradicts (r : List Word) : Bool :=
  let tx := recDir r == 0
  if isMacsec (recSuite r) then recUdp r || (tx && recV6 r) || (tx && recMerged r)
  else recOffset r != 0 || recAn r != 0 || (tx && recBit17 r) ||
    (tx && !recV6 r && !(ipv4Mapped (recBytes r 0x20 16) && ipv4Mapped (recBytes r 0x30 16))) || (tx && recMerged r)

/-- The conditions of R156 that give ARG, the state of the index apart.
DESIGN CHOICE, unsafe (log entry 46). -/
def imageBad (s : State) (r : List Word) : Bool :=
  decide (7 < recSuite r) || (isLegacy (recSuite r) && !behaviour s 1) || recOffset r == 3 ||
  (recDir r == 1 && recCls r == 3) || contradicts r || (recDir r == 1 && decide (4096 < recWin r)) ||
  (recDir r == 1 && recMerged r && (!recBit17 r || recWin r == 0 || decide (256 < recWin r)))

/-- The wrapped key of an image, and the key it holds under a transport slot (R147, R432). -/
def wrapLen (suite : Nat) : Nat := keyLen suite + 8
def unwrapUnder (kek : Option Bytes) (c : Bytes) : Option Bytes :=
  match kek with
  | some k => kwUnwrap k c
  | none => none
def imageKey (s : State) (slot : Nat) (r : List Word) : Option Bytes :=
  unwrapUnder (s.keys.slots.getD slot none) (recBytes r 0x40 (wrapLen (recSuite r)))

/-- A record with its key and HKEY in place (R156). -/
def putKey (r : List Word) (key : Bytes) : List Word :=
  let k := bytesToWords 8 (key ++ zeros (32 - key.length)) ++ bytesToWords 4 (hkeyOf key)
  (List.range 64).map (fun n => if 16 ≤ n && n < 28 then k.getD (n - 16) 0 else recW r n)

/-- The bits of word `n` of an image that R145 gives a field: the others are reserved, and read 0 (R6). Where a MACsec transmit SA has
no field at 0x70-0x8F, the words are taken as reserved. DESIGN CHOICE, unsafe (log entry 46). -/
def fieldMask (r : List Word) (n : Nat) : Word :=
  let rx := recDir r == 1
  let mac := isMacsec (recSuite r)
  if n = 0 then 0xCFFFE000
  else if n = 1 then (if rx then 0x0FFFDFFF else 0xFFFFE000)
  else if n = 2 then 0x801FFFFF
  else if n = 6 then (if mac then 0xFFFFFFFF else 0x000FFFFF)
  else if 13 ≤ n && n < 16 then (if mac then 0 else 0xFFFFFFFF)
  else if 28 ≤ n && n < 36 then (if rx || (!mac && decide (n < 32)) then 0xFFFFFFFF else 0)
  else if 36 ≤ n && n < 52 then (if n < (if rx then 48 else 44) then 0xFFFFFFFF else 0)
  else 0xFFFFFFFF

/-- The record an install makes of an image: reserved bits 0, GEN, the key and the install tick set, everything the DX32 ignores or
starts afresh 0; an import keeps the counters and, on receive, the bitmaps (R147, R156, R170). -/
def newRecord (img : List Word) (key : Bytes) (gen : Nat) (imp : Bool) (vis : Tick) : List Word :=
  let rx := recDir img == 1
  let w0 := setFld (setBit (setBit (setBit (recW img 0) 31 true) 15 false) 13 false) 23 16 gen
  let r := (List.range 64).map (fun n => fieldMask img n &&& (
    if n = 0 then w0 else if n = 3 then 0
    else if 28 ≤ n && n < 36 then (if rx && !imp then 0 else recW img n)
    else if 36 ≤ n && n < 52 then (if imp then recW img n else 0)
    else if 52 ≤ n && n < 60 then (if imp && rx && recMerged img then recW img n else 0)
    else if n = 60 then vis else if 60 < n then 0 else recW img n))
  putKey r key

/-- The bits of a window of `w` positions above 255, all set (R170). -/
def extOnes (w : Nat) : Nat := if w ≤ 256 then 0 else 2 ^ (w - 256) - 1

/-- The entry an install makes: a transmit SA starts at the epoch given, a receive SA at H (R156, R170).
DEDUCED, unsafe (log entry 44). -/
def newEntry (s : State) (old : SaEntry) (img : List Word) (key : Bytes) (imp : Bool) (epoch h : Nat) : SaEntry :=
  let rx := recDir img == 1
  let gen := (old.gen + 1) % 256
  { SaEntry.free with
    st := 1, dir := recDir img, gen := gen, record := newRecord img key gen imp (now s + 1),
    ext := if rx && imp then extOnes (recWin img) else 0,
    extSlot := if rx && decide (256 < recWin img) then extFree s else none,
    ledger := if rx then (if imp then h else 0) else epoch * 2 ^ 40 }

/-! ### The 128-byte layout (R171) -/

/-- Whether an SA uses a field that the 128-byte layout cannot carry. -/
def noFit128 (r : List Word) : Bool :=
  let rx := recDir r == 1
  let esp := !isMacsec (recSuite r)
  (rx && recMerged r) || (!esp && (recSciB r != zeros 8 || recBytes r 0x24 4 != zeros 4)) || (esp && !rx && recV6 r) ||
    (rx && decide (256 < recWin r))

/-- A 256-byte image with ledger entry from one of 128 bytes; the fields the layout lacks are 0. -/
def from128 (b : Bytes) : List Word :=
  let esp := !isMacsec (fld (wd (leNat (slice b 0 4))) 27 24)
  let rx := bit (wd (leNat (slice b 0 4))) 30
  let v4 := fun (o : Nat) => zeros 10 ++ [0xFF, 0xFF] ++ slice b o 4
  let mid := if esp then slice b 0x08 4 ++ slice b 0x18 4 ++ zeros 4 ++ slice b 0x0C 4 ++ v4 0x10 ++ v4 0x14
    else slice b 0x08 8 ++ zeros 8 ++ slice b 0x10 4 ++ zeros 4 ++ slice b 0x14 12 ++ zeros 12
  let bm := if rx then slice b 0x50 32 else slice b 0x50 16 ++ zeros 16
  bytesToWords 64 (leBytes 4 (leNat (slice b 0 4) / 2 ^ 13 * 2 ^ 13) ++ slice b 4 4 ++ zeros 8 ++ mid ++ slice b 0x20 40 ++
    zeros 8 ++ bm ++ slice b 0x70 16 ++ zeros 80 ++ slice b 0x48 8)

/-- The 128-byte image of a record whose key is wrapped already at 0x40. -/
def to128 (r : List Word) (ledger : Nat) : Bytes :=
  let esp := !isMacsec (recSuite r)
  let rx := recDir r == 1
  leBytes 4 ((recW r 0).toNat / 2 ^ 13 * 2 ^ 13) ++ recBytes r 4 4 ++
    (if esp then recBytes r 0x10 4 ++ recBytes r 0x1C 4 ++ recBytes r 0x2C 4 ++ recBytes r 0x3C 4 ++ recBytes r 0x14 4 ++ zeros 4
     else recBytes r 0x10 8 ++ recBytes r 0x20 4 ++ recBytes r 0x28 12) ++
    recBytes r 0x40 40 ++ leBytes 8 ledger ++ (if rx then recBytes r 0x70 32 else recBytes r 0x70 16 ++ zeros 16) ++ recBytes r 0x90 16

/-! ### The replay check (R160-R164) -/

/-- What a replay check says of a verified frame. -/
inductive Replay | accept | replay | late | elided
deriving DecidableEq, Repr

/-- A window of `w` positions moved on by `d` numbers. -/
def slideWin (w d win : Nat) : Nat := if w ≤ d then 0 else win * 2 ^ d % 2 ^ w

/-- Set position `i` of a window of `w` positions. -/
def markWin (w i win : Nat) : Nat := if i < w && !win.testBit i then win + 2 ^ i else win

/-- H and windows after number `p` is accepted from Twin B (`b`) or otherwise. -/
def acceptWin (e : SaEntry) (b : Bool) (p : Nat) : SaEntry :=
  let w := recWin e.record
  let d := p - e.ledger
  let i := e.ledger - p
  let both := if e.ledger < p then (slideWin w d (winA e), slideWin w d (winB e)) else (winA e, winB e)
  let e1 := if e.ledger < p then { e with ledger := p } else e
  if b then putWin e1 both.1 (markWin w i both.2) else putWin e1 (markWin w i both.1) both.2

/-- The window a frame is checked against: that of its own generation, record `c` (R155), less the positions that a rewrite since then
has dropped, which stay rejected (R157). DEDUCED, unsafe (log entry 44). -/
def checkWin (e : SaEntry) (c : List Word) : Nat := min (recWin e.record) (recWin c)

/-- Whether the replay check of number `p` reads the extended slot (R161). -/
def readsSlot (e : SaEntry) (c : List Word) (p : Nat) : Bool :=
  e.extSlot.isSome && decide (p + 255 < e.ledger) && decide (e.ledger < p + checkWin e c)

/-- The replay check of number `p` (R160, R164) for a frame that works under record `c`, that of its generation; `b` says that the
copy comes from Twin B. -/
def replayCheck (e : SaEntry) (c : List Word) (b : Bool) (p : Nat) : Replay × SaEntry :=
  let w := checkWin e c
  if !recBit17 c then (.accept, acceptWin e b p)
  else if e.ledger < p then (.accept, acceptWin e b p)
  else if p + w ≤ e.ledger then (.late, e)
  else
    let i := e.ledger - p
    if recMerged e.record then
      let mine := if b then winB e else winA e
      let other := if b then winA e else winB e
      if mine.testBit i then (.replay, e)
      else if other.testBit i then (.elided, acceptWin e b p)
      else (.accept, acceptWin e b p)
    else if (winA e).testBit i then (.replay, e)
    else (.accept, acceptWin e false p)

/-- An RX_FLOOR with value `f` (R233): whether H was raised, and the entry. -/
def raiseFloor (e : SaEntry) (f : Nat) : Bool × SaEntry :=
  if e.ledger < f - 1 then
    let ones := 2 ^ recWin e.record - 1
    (true, putWin { e with ledger := f - 1 } ones ones)
  else (false, e)

end Sys2Proof.Machine
end

