-- ==== Sys2Proof/Machine/Encap.lean ====
section
/-! DEFINITION. Frame encapsulation (R172-R190): the MACsec and ESP frames built from a record, a sequence field and a
plain frame; the checks, the number recovery and the opening of received ones. Frames stand without their FCS. -/

namespace Sys2Proof.Machine

/-- Bits 31:0 of a count or number that go on the wire, by suite (R176, R184). -/
def wirePn (suite field : Nat) : Nat := if isLegacy suite then (field % 2 ^ 32 + 1) % 2 ^ 32 else field % 2 ^ 32

/-- The SCI and SSCI of a twin (R175); `b` is Twin B. -/
def twinSci (r : List Word) (b : Bool) : Bytes := if b then recSciB r else recSciA r
def twinSsci (r : List Word) (b : Bool) : Bytes := if b then recBytes r 0x24 4 else recBytes r 0x20 4

/-- The SCI 802.1AE implies: the source MAC and port identifier 0x0001 (R119). -/
def impliedSci (frame : Bytes) : Bytes := slice frame 6 6 ++ [0x00, 0x01]

/-! ### MACsec -/

/-- The IV of R177: `sci` is the one in the SecTAG or the implied one, `n` the 64-bit PN, `pn` its 32-bit field. -/
def macsecIv (r : List Word) (sci ssci : Bytes) (n pn : Nat) : Bytes :=
  if isLegacy (recSuite r) then sci ++ beBytes 4 pn else xorBytes (recBytes r 0x28 12) (ssci ++ beBytes 8 n)

/-- MAC addresses and SecTAG of an emitted frame (R173, R174). -/
def secTag (r : List Word) (twinB force : Bool) (field : Nat) (plain : Bytes) : Bytes :=
  let sc := recBit17 r || force
  slice plain 0 12 ++ [0x88, 0xE5, by8 (b2n sc * 0x20 + 0x0C + recAn r), 0x00] ++ beBytes 4 (wirePn (recSuite r) field) ++
    (if sc then twinSci r twinB else [])

/-- The MACsec frame of a plain frame (R173-R177), under the record's HKEY (R191). -/
def macsecSeal (r : List Word) (twinB force : Bool) (field : Nat) (plain : Bytes) : Bytes :=
  let hdr := secTag r twinB force field plain
  let sec := plain.drop 12
  let off := min (offsetBytes (recOffset r)) sec.length
  let sci := if recBit17 r || force then twinSci r twinB else impliedSci plain
  let iv := macsecIv r sci (twinSsci r twinB) field (wirePn (recSuite r) field)
  let ct := gcmSealH (recHkey r) (recKey r) iv (hdr ++ sec.take off) (sec.drop off)
  hdr ++ sec.take off ++ ct.1 ++ ct.2

/-- A received SecTAG: its TCI/AN byte, SL, PN and SCI, and the length of addresses and tag. -/
structure SecTag where
  tci : Byte
  sl : Nat
  pn : Nat
  sci : Bytes
  hdr : Nat
deriving DecidableEq, Repr

/-- Read the SecTAG of a frame whose EtherType is 0x88E5. -/
def readSecTag (f : Bytes) : SecTag :=
  let t := byteAt f 14
  let sc := t.getLsbD 5
  { tci := t, sl := (byteAt f 15).toNat, pn := beAt f 16 4, sci := if sc then slice f 20 8 else impliedSci f,
    hdr := if sc then 28 else 20 }

/-- The AN of a SecTAG. -/
def SecTag.an (t : SecTag) : Nat := t.tci.toNat % 4

/-- The secure data and the ICV of a received MACsec frame (R178). -/
def secData (t : SecTag) (f : Bytes) : Bytes × Bytes :=
  let rest := f.drop t.hdr
  if t.sl = 0 then (rest.take (rest.length - 16), rest.drop (rest.length - 16)) else (rest.take t.sl, slice rest t.sl 16)

/-- Checks 1 to 4 of R178: the reason a frame fails, if it fails one. -/
def macsecCheck (r : List Word) (f : Bytes) : Option Nat :=
  let t := readSecTag f
  let rest := f.length - t.hdr
  let n := (secData t f).1.length
  if (t.tci.getLsbD 6 && t.tci.getLsbD 5) || 48 ≤ t.sl || (t.sl != 0 && decide (rest < t.sl + 16)) ||
      (t.sl == 0 && decide (rest < 64)) then some 0x01
  else if !t.tci.getLsbD 3 || !t.tci.getLsbD 2 then some 0x40
  else if !isMacsec (recSuite r) then some 0x40
  else if 16380 < n + 12 then some 0x04
  else none

/-- The lowest-acceptable-PN rule of R179: H, W and the 32-bit field. -/
def recoverPn (h w n : Nat) : Nat :=
  let f := max (h + 1 - w) 1
  let p := f / 2 ^ 32 * 2 ^ 32 + n
  if n < f % 2 ^ 32 then p + 2 ^ 32 else p

/-- Open a MACsec frame of number `p` from Twin B (`b`) or not; `none` when the ICV does not verify (R177, R178). -/
def macsecOpen (r : List Word) (b : Bool) (p : Nat) (f : Bytes) : Option Bytes :=
  let t := readSecTag f
  let d := secData t f
  let off := min (offsetBytes (recOffset r)) d.1.length
  let iv := macsecIv r t.sci (twinSsci r b) p t.pn
  (gcmOpenH (recHkey r) (recKey r) iv (f.take t.hdr ++ d.1.take off) (d.1.drop off) d.2).map (fun pt => f.take 12 ++ d.1.take off ++ pt)

/-! ### Finding an IP header -/

/-- Whether a TPID is one of R110. -/
def isTpid (n : Nat) : Bool := n == 0x8100 || n == 0x88A8

/-- The number of tags a frame carries from byte 12, at most `n`. -/
def tagsOf (f : Bytes) : Nat → Nat → Nat
  | 0, _ => 0
  | n + 1, o => if isTpid (beAt f o 2) && decide (o + 4 ≤ f.length) then 1 + tagsOf f n (o + 4) else 0

/-- The offset of the EtherType after up to two tags, and the EtherType (R110). -/
def etOff (f : Bytes) : Nat := 12 + 4 * tagsOf f 2 12
def etherType (f : Bytes) : Nat := beAt f (etOff f) 2

/-- VIDs of the outer and the inner tag, 0 where there is none. -/
def outerVid (f : Bytes) : Nat := if 1 ≤ tagsOf f 2 12 then beAt f 14 2 % 4096 else 0
def innerVid (f : Bytes) : Nat := if 2 ≤ tagsOf f 2 12 then beAt f 18 2 % 4096 else 0

/-! ### ESP -/

/-- The DF bit of an emitted IPv4 header (R181). -/
def dfBit (mode : Nat) (plain : Bytes) : Nat :=
  if mode = 1 then 1
  else if mode = 2 && etherType plain == 0x0800 then beAt plain (etOff plain + 8) 2 / 2 ^ 14 % 2
  else 0

/-- The padding that ends an inner frame of `n` bytes (R185), and its length. -/
def espPad (n : Nat) : Nat := (4 - (n + 2) % 4) % 4
def espTrailer (n : Nat) : Bytes := (List.range (espPad n)).map (fun i => by8 (i + 1)) ++ [by8 (espPad n), 143]

/-- The additional data of R186: `hi` are the ESN's high 32 bits. -/
def espAad (suite : Nat) (spi : Bytes) (hi sn : Nat) : Bytes :=
  spi ++ (if isLegacy suite then [] else beBytes 4 hi) ++ beBytes 4 sn

/-- The ESP packet of a plain frame: SPI to ICV (R184-R186), under the record's HKEY (R191). A legacy suite's ledger epoch stays out of
the IV (R224). DEDUCED, unsafe (log entry 96). -/
def espPacket (r : List Word) (twinB : Bool) (field : Nat) (plain : Bytes) : Bytes :=
  let sn := wirePn (recSuite r) field
  let iv := beBytes 8 (b2n twinB * 2 ^ 63 + (if isLegacy (recSuite r) then field % 2 ^ 40 else field % 2 ^ 63))
  let spi := recBytes r 0x10 4
  let ct := gcmSealH (recHkey r) (recKey r) (recBytes r 0x1C 4 ++ iv) (espAad (recSuite r) spi (field % 2 ^ 63 / 2 ^ 32) sn)
    (plain ++ espTrailer plain.length)
  spi ++ beBytes 4 sn ++ iv ++ ct.1 ++ ct.2

/-- An IPv4 header without and with its checksum (R181). -/
def ipv4Header (r : List Word) (field n proto : Nat) (plain : Bytes) : Bytes :=
  let w := recW r 5
  let part := fun (ck : Nat) => [0x45, by8 (fld w 23 18 * 4)] ++ beBytes 2 (20 + n) ++ beBytes 2 field ++
    beBytes 2 (dfBit (fld w 17 16) plain * 2 ^ 14) ++ [by8 (fld w 31 24), by8 proto] ++ beBytes 2 ck ++
    recBytes r 0x2C 4 ++ recBytes r 0x3C 4
  part (ipChecksum (part 0))

/-- An IPv6 header (R182). -/
def ipv6Header (r : List Word) (n proto : Nat) : Bytes :=
  let w := recW r 5
  beBytes 4 (6 * 2 ^ 28 + fld w 23 18 * 4 * 2 ^ 20 + fld (recW r 6) 19 0) ++ beBytes 2 n ++ [by8 proto, by8 (fld w 31 24)] ++
    recBytes r 0x20 16 ++ recBytes r 0x30 16

/-- The ESP frame of a plain frame (R180-R186). -/
def espSeal (r : List Word) (twinB : Bool) (field : Nat) (plain : Bytes) : Bytes :=
  let esp := espPacket r twinB field plain
  let body := if recUdp r then beBytes 2 (fld (recW r 5) 15 0) ++ beBytes 2 4500 ++ beBytes 2 (esp.length + 8) ++ [0, 0] ++ esp else esp
  let proto := if recUdp r then 17 else 50
  let tag := recBytes r 0x7C 4
  let ip := if recV6 r then ipv6Header r body.length proto else ipv4Header r field body.length proto plain
  recBytes r 0x70 12 ++ (if tag == zeros 4 then [] else tag) ++ (if recV6 r then [0x86, 0xDD] else [0x08, 0x00]) ++ ip ++ body

/-- The line frame of a plain frame under a record (R172). -/
def sealFrame (r : List Word) (twinB force : Bool) (field : Nat) (plain : Bytes) : Bytes :=
  if isMacsec (recSuite r) then macsecSeal r twinB force field plain else espSeal r twinB field plain

/-- Where a frame's IP and ESP headers lie (R119): offset of the IP header, IPv6, its length, UDP encapsulation, and the
IP destination in 16-byte form. `frag` marks an IPv4 fragment. -/
structure IpInfo where
  off : Nat
  v6 : Bool
  hdr : Nat
  proto : Nat
  frag : Bool
  fragOff : Nat
  src : Bytes
  dst : Bytes
deriving DecidableEq, Repr

/-- An IPv4 address in IPv4-mapped form. -/
def mapped (a : Bytes) : Bytes := zeros 10 ++ [0xFF, 0xFF] ++ a

/-- The IP header of a frame whose EtherType is IPv4 or IPv6. -/
def ipInfo (f : Bytes) : Option IpInfo :=
  let o := etOff f + 2
  if etherType f = 0x0800 then
    let ff := beAt f (o + 6) 2
    some { off := o, v6 := false, hdr := (byteAt f o).toNat % 16 * 4, proto := (byteAt f (o + 9)).toNat,
           frag := ff / 2 ^ 13 % 2 == 1 || ff % 2 ^ 13 != 0, fragOff := ff % 2 ^ 13, src := mapped (slice f (o + 12) 4),
           dst := mapped (slice f (o + 16) 4) }
  else if etherType f = 0x86DD then
    some { off := o, v6 := true, hdr := 40, proto := (byteAt f (o + 6)).toNat, frag := false, fragOff := 0,
           src := slice f (o + 8) 16, dst := slice f (o + 24) 16 }
  else none

/-- The destination port of a frame's UDP header, and the first word after it. -/
def udpDst (i : IpInfo) (f : Bytes) : Nat := beAt f (i.off + i.hdr + 2) 2
def udpWord (i : IpInfo) (f : Bytes) : Nat := beAt f (i.off + i.hdr + 8) 4

/-- Whether a frame is ESP, and whether it is encapsulated in UDP (R119). -/
def espKind (i : IpInfo) (f : Bytes) : Option Bool :=
  if i.frag then none
  else if i.proto = 50 then some false
  else if i.proto == 17 && udpDst i f == 4500 && udpWord i f != 0 then some true
  else none

/-- IPv6 extension headers that can stand before ESP. -/
def extHeader (n : Nat) : Bool := n == 0 || n == 43 || n == 44 || n == 60 || n == 51 || n == 135

/-- Whether an IPv6 extension header stands before ESP (R119), as far as the parser reads, 128 B of the frame (R117). -/
def extThenEsp (f : Bytes) : Nat → Nat → Nat → Bool
  | 0, _, _ => false
  | k + 1, nh, o =>
    if extHeader nh && decide (o < min 128 f.length) then
      let next := (byteAt f o).toNat
      if next = 50 then true
      else extThenEsp f k next (o + (if nh = 44 then 8 else if nh = 51 then ((byteAt f (o + 1)).toNat + 2) * 4 else ((byteAt f (o + 1)).toNat + 1) * 8))
    else false

/-- The IP payload's length by the IP header, and the offset at which the ESP packet starts. -/
def ipLen (i : IpInfo) (f : Bytes) : Nat := if i.v6 then beAt f (i.off + 4) 2 else beAt f (i.off + 2) 2 - i.hdr
def espStart (i : IpInfo) (udp : Bool) : Nat := i.off + i.hdr + (if udp then 8 else 0)

/-- The ESP packet of a received frame. -/
def espBytes (i : IpInfo) (udp : Bool) (f : Bytes) : Bytes := slice f (espStart i udp) (ipLen i f - (if udp then 8 else 0))

/-- Checks 1 to 3 of R188. -/
def espCheck (r : List Word) (i : IpInfo) (udp : Bool) (f : Bytes) : Option Nat :=
  let n := ipLen i f
  let e := espBytes i udp f
  let hdrBad := !i.v6 && (decide (i.hdr < 20) || ipChecksum (slice f i.off i.hdr) != 0)
  let lenBad := decide (f.length < i.off + i.hdr + n) || decide (n < (if udp then 8 else 0) + 34) ||
    (udp && beAt f (i.off + i.hdr + 4) 2 != n)
  if hdrBad || lenBad then some 0x01
  else if isMacsec (recSuite r) || udp != recUdp r then some 0x40
  else if recMerged r && beAt e 4 4 != beAt e 12 4 then some 0x44
  else none

/-- Open an ESP packet of number `p`; the plaintext with its trailer, or `none` when the ICV does not verify (R186). -/
def espOpen (r : List Word) (p : Nat) (e : Bytes) : Option Bytes :=
  let n := e.length
  gcmOpenH (recHkey r) (recKey r) (recBytes r 0x1C 4 ++ slice e 8 8) (espAad (recSuite r) (slice e 0 4) (p / 2 ^ 32) (beAt e 4 4))
    (slice e 16 (n - 32)) (slice e (n - 16) 16)

/-- Checks 5 and 6 of R188 on a plaintext: the reason, or the inner frame. -/
def espInner (pt : Bytes) : Nat × Bytes :=
  let n := pt.length
  let padLen := (byteAt pt (n - 2)).toNat
  let k := n - 2 - padLen
  if byteAt pt (n - 1) != 143 then (0x45, [])
  else if n < padLen + 2 || (List.range padLen).any (fun i => byteAt pt (k + i) != by8 (i + 1)) then (0x46, [])
  else if k < 14 || 16380 < k then (0x04, [])
  else (0, pt.take k)

/-- A released frame padded to 64 bytes with its FCS (R190). -/
def padMin (f : Bytes) : Bytes := f ++ zeros (60 - f.length)

/-! ### Work (R191) -/

/-- The bytes a frame encrypts (R191): `n` is the plain length with FCS. -/
def encBytes (r : List Word) (n : Nat) : Nat :=
  if isMacsec (recSuite r) then n - 16 - offsetBytes (recOffset r) else n - 2 + espPad (n - 4)

end Sys2Proof.Machine
end

