-- ==== Sys2Proof/Machine/Almanac.lean ====
section
/-! DEFINITION. The Almanac (R207-R226): counters in eMRAM, requests, the write of clock 180,000 and its effect at the
boundary, stale and spent counters, notices, and the sequence point's rule. -/

namespace Sys2Proof.Machine

/-- Counter `c`. -/
def almOf (s : State) (c : Nat) : AlmCtr := s.alm.ctrs.getD c AlmCtr.init

/-- Change counter `c`. -/
def modAlm (c : Nat) (f : AlmCtr → AlmCtr) (s : State) : State :=
  { s with alm := { s.alm with ctrs := s.alm.ctrs.set c (f (almOf s c)) } }

/-- The last epoch (R209). -/
def almMax : Nat := 0x7FFFFF

/-- A notice enters the FIFO, or is counted in NOTES_LOST when it is full. -/
def almNote (type c sa : Nat) (s : State) : State :=
  if s.alm.notes.length < 1024 then { s with alm := { s.alm with notes := s.alm.notes ++ [(type, c, sa, now s)] } }
  else event (pg .alm) 3 (bump (pg .alm) 0x228 1 s)

/-- A request for an advance of counter `c` to at least `v`; requests not yet written merge to the highest (R212). A
spent counter never advances (R213). -/
def almRequest (c v : Nat) (s : State) : State :=
  modAlm c (fun a => if a.spent then a else { a with req := some (max v (a.req.getD 0)) }) s

/-- The counter becomes spent: SPENT is raised, and a request not yet written is dropped, for a spent counter never
advances (R213). -/
def almSpend (c : Nat) (s : State) : State :=
  if (almOf s c).spent then s else event (pg .alm) 1 (modAlm c (fun a => { a with spent := true, req := none }) s)

/-! ### Storage (R217) -/

/-- A 64-bit eMRAM word: CHECK, GEN and EPOCH. -/
def almWord (c n gen epoch : Nat) : Nat :=
  let low := gen * 2 ^ 32 + epoch
  crc16 (beBytes 1 c ++ beBytes 1 n ++ beBytes 6 low) * 2 ^ 48 + low

/-- Whether the retirement map, in either copy, holds a word. -/
def isRetired (a : AlmCtr) (n : Nat) : Bool := a.retired.contains n || a.retiredCopy.contains n

/-- The lowest spare not yet in the ring, if one is left. -/
def almSpare (a : AlmCtr) : Option Nat :=
  (List.range 64).find? (fun n => 56 ≤ n && !a.ring.contains n && !isRetired a n)

/-- Write GEN and EPOCH to the ring, with `fails` read-backs failing first: each retires the word written and takes the
lowest spare in its place, and the next word is tried; with no spare left nothing is stored, and the counter has none from then
on. -/
def almStore (c gen epoch : Nat) : Nat → AlmCtr → AlmCtr × Bool
  | 0, a =>
    let p := (a.pos + 1) % a.ring.length
    let n := a.ring.getD p 0
    ({ a with pos := p, words := spSet 0 a.words n (almWord c n gen epoch) }, true)
  | k + 1, a =>
    let p := (a.pos + 1) % a.ring.length
    let n := a.ring.getD p 0
    let a1 := { a with retired := a.retired ++ [n], retiredCopy := a.retiredCopy ++ [n] }
    match almSpare a with
    | some sp => almStore c gen epoch k { a1 with pos := p, ring := a.ring.set p sp }
    | none => ({ a1 with noSpare := true }, false)

/-- Write and verify GEN and EPOCH of a counter: whether they are stored. Each read-back that fails counts (R212). -/
def almPut (c gen epoch fails : Nat) (s : State) : Bool × State :=
  let a := almOf s c
  let r := almStore c gen epoch fails a
  let n := r.1.retired.length - a.retired.length
  (r.2, eventIf (n != 0) (pg .alm) 2 (bump (pg .alm) 0x220 n (bump (pg .alm) 0x218 n (modAlm c (fun _ => r.1) s))))

/-- Whether a stored word's CHECK is good. -/
def almGood (c n w : Nat) : Bool := w != 0 && almWord c n (w / 2 ^ 32 % 2 ^ 16) (w % 2 ^ 23) == w

/-- The committed value boot finds: the highest (GEN, EPOCH) among good words outside the retirement map. -/
def almCommitted (c : Nat) (a : AlmCtr) : Nat × Nat :=
  let good := a.words.filter (fun p => !isRetired a p.1 && almGood c p.1 p.2)
  let best := good.foldl (fun m p => max m (p.2 % 2 ^ 48)) 0
  (best / 2 ^ 32, best % 2 ^ 23)

/-- Spares left (ALM_WEAR). -/
def almSpares (a : AlmCtr) : Nat := 8 - min 8 a.retired.length

/-- The write of one counter's request (R212): `fails` read-backs fail. DEDUCED, unsafe (log entry 50). -/
def almWriteOne (fails : List Nat) (s : State) (c : Nat) : State :=
  let a := almOf s c
  match a.req with
  | none => s
  | some v =>
    let target := if a.renew then 1 else min almMax (max v (a.epoch + 1))
    let gen := if a.renew then a.gen + 1 else a.gen
    let r := almPut c gen target (fails.getD c 0) s
    let w := if r.1 then AlmWrite.stored gen target else AlmWrite.spent a.renew
    modAlm c (fun x => { x with req := none, renew := false, wrote := some w }) r.2

/-- The write of one counter's aligned epoch (R226): a counter that is spent or cannot rise keeps its epoch, and a request it has
waits. -/
def alignWriteOne (fails : List Nat) (s : State) (c : Nat) : State :=
  let a := almOf s c
  let e := s.twin.epochs.getD c 0
  if a.spent || a.wrote.isSome || decide (e ≤ a.epoch) then s
  else
    let r := almPut c a.gen e (fails.getD c 0) s
    modAlm c (fun x => { x with wrote := some (if r.1 then AlmWrite.stored a.gen e else AlmWrite.spent false) }) r.2

/-- What was written takes effect at the boundary, or the counter is spent (R212, R213). -/
def almEffectOne (s : State) (c : Nat) : State :=
  let a := almOf s c
  match a.wrote with
  | none => s
  | some (.stored gen epoch) =>
    let s1 := modAlm c (fun a => { a with wrote := none, gen := gen, epoch := epoch, stale := false, spent := a.spent && decide (gen = a.gen) }) s
    let s2 := event (pg .alm) 4 (bump (pg .alm) 0x200 1 s1)
    if epoch = almMax then almSpend c s2 else s2
  | some (.spent _) => almSpend c (modAlm c (fun a => { a with wrote := none }) s)

/-- The committed GEN_c and E_c: what is written and verified, in effect or not (R217). -/
def almStored (a : AlmCtr) : Nat × Nat :=
  match a.wrote with
  | some (.stored g e) => (g, e)
  | _ => (a.gen, a.epoch)

/-- Whether every counter of an order has taken effect, or is spent and takes none. -/
def almOrdDone (s : State) (o : AlmOrd) : Bool := o.written || o.ctrs.all (fun c => (almOf s c).req.isNone)

/-- Orders whose counters have all taken effect end (R220, R221). -/
def almEndOrders (s : State) : State :=
  let fin := s.alm.ords.filter (almOrdDone s)
  let s1 := { s with alm := { s.alm with ords := s.alm.ords.filter (fun o => !almOrdDone s o) } }
  fin.foldl (fun s o => endOrder o.id (if o.failed then .fault else .ok) 0 s) s1

/-- Whether what was written for a counter could not be stored. -/
def almBad (s : State) (c : Nat) : Bool := match (almOf s c).wrote with | some (.spent _) => true | _ => false

/-- What was written takes effect on every counter; an order fails if one of its counters is spent for want of a spare. -/
def almEffect (s : State) : State :=
  let os := s.alm.ords.map (fun o => { o with failed := o.failed || o.ctrs.any (almBad s) })
  (List.range 16).foldl almEffectOne { s with alm := { s.alm with ords := os } }

/-- Action of the boundary on the Almanac (R212): effects, then the orders. The aligned epochs of the tick T take effect with
REALIGNMENT. DESIGN CHOICE, safe (log entry 51). -/
def almBoundary (s : State) : State :=
  if s.twin.alignFixed && s.twin.alignTick == now s then s else almEndOrders (almEffect s)

/-! ### Stale counters (R218) -/

/-- The test of R218 on a transmit entry: epoch E_c with a count other than 0, or EXH. -/
def ledgerStale (s : State) (e : SaEntry) : Bool :=
  let l := e.ledger
  e.st != 0 && e.dir == 0 && !e.diag &&
    (decide (2 ^ 63 ≤ l) || (l / 2 ^ 40 % 2 ^ 23 == (almOf s (recAlm e.record)).epoch && l % 2 ^ 40 != 0))

/-- Mark the counter an entry is bound to if its ledger makes it stale. -/
def markStale (e : SaEntry) (s : State) : State :=
  if ledgerStale s e then modAlm (recAlm e.record) (fun a => { a with stale := true }) s else s

/-! ### The sequence point (R214, R215, R224) -/

/-- The available epoch of a counter (R214): in TWIN_EMIT the lower of both twins', in the tick T of a realignment the value
of the boundary before (R226). -/
def availEpoch (s : State) (c : Nat) : Nat :=
  let a := almOf s c
  if s.twin.resetLedgers then s.twin.availWas.getD c 0
  else if s.dev.mode = .twinEmit then min a.epoch a.peer else a.epoch

/-- Points of an epoch's counts (R214). -/
def askPoint : Nat := 2 ^ 40 - 2 ^ 32
def movePoint : Nat := 2 ^ 40 - 2 ^ 31

/-- The field a frame of a non-legacy SA receives and the ledger afterwards (R214); `none` is EXHAUSTED. The last
component says that the SA moved. -/
def seqStep (avail ledger : Nat) : Option (Nat × Nat × Bool) :=
  let exh := decide (2 ^ 63 ≤ ledger)
  let e := ledger / 2 ^ 40 % 2 ^ 23
  let c := ledger % 2 ^ 40
  if exh || movePoint ≤ c then
    if e + 1 ≤ avail then some ((e + 1) * 2 ^ 40, (e + 1) * 2 ^ 40 + 1, true)
    else if exh then none
    else some (e * 2 ^ 40 + c, if c = 2 ^ 40 - 1 then 2 ^ 63 + e * 2 ^ 40 else e * 2 ^ 40 + c + 1, false)
  else some (e * 2 ^ 40 + c, e * 2 ^ 40 + c + 1, false)

/-- The same for a legacy suite (R224): counts 0 to 0xFFFF_FFFE, then EXH. -/
def seqStepLegacy (ledger : Nat) : Option (Nat × Nat × Bool) :=
  let c := ledger % 2 ^ 40
  if 2 ^ 63 ≤ ledger then none
  else some (ledger, if c = 0xFFFFFFFE then 2 ^ 63 + ledger / 2 ^ 40 * 2 ^ 40 else ledger + 1, false)

/-- What follows a field's assignment: the request or notice at the ask point (R215), LEGACY_HALF (R224). -/
def seqNotes (i field : Nat) (legacy : Bool) (c : Nat) (s : State) : State :=
  let n := field % 2 ^ 40
  let e := field / 2 ^ 40 % 2 ^ 23
  let a := almOf s c
  if legacy then (if n = 0x80000000 then almNote 3 c i s else s)
  else if n = askPoint && a.epoch == e then (if a.spent then almNote 1 c i s else almRequest c (e + 1) s)
  else s

/-- Draw the next sequence field of a transmit SA (R8, R214): `none` when it is exhausted. -/
def seqDraw (i : Nat) (s : State) : Option Nat × State :=
  let e := saOf s i
  let legacy := isLegacy (recSuite e.record)
  let c := recAlm e.record
  match (if legacy then seqStepLegacy e.ledger else seqStep (if e.diag then 0 else availEpoch s c) e.ledger) with
  | some (field, next, moved) =>
    let s1 := modSa i (fun e => { e with ledger := next, exhNoted := if moved then false else e.exhNoted }) s
    let s2 := bump (pg .seq) 0x200 1 (if moved then bump (pg .alm) 0x208 1 s1 else s1)
    (some field, if e.diag then s2 else seqNotes i field legacy c s2)
  | none =>
    let s1 := bump (pg .alm) 0x210 1 s
    (none, if e.exhNoted then s1 else almNote 2 c i (modSa i (fun e => { e with exhNoted := true }) s1))

/-- Boot, step 4 of R50: committed values are found, and every counter that is not spent advances by 1 (R211, R222).
DESIGN CHOICE, safe (log entry 51). -/
def almBootOne (fails : List Nat) (s : State) (c : Nat) : State :=
  let a := almOf s c
  let v := almCommitted c a
  let a1 := { a with gen := v.1, epoch := v.2, req := none, renew := false, wrote := none, stale := false, peer := 0,
                     spent := a.noSpare || v.2 == almMax }
  let s1 := modAlm c (fun _ => a1) s
  if a1.spent then s1
  else
    let r := almPut c a1.gen (a1.epoch + 1) (fails.getD c 0) s1
    almEffectOne (modAlm c (fun x => { x with wrote := some (if r.1 then .stored a1.gen (a1.epoch + 1) else .spent false) }) r.2) c

/-! ### Orders and the write of clock 180,000 (R212, R220, R221) -/

/-- The counters of a mask. -/
def maskCtrs (mask : Nat) : List Nat := (List.range 16).filter (fun c => mask.testBit c)

/-- The status that ends an ALM_ADVANCE as it is taken (R221). -/
def advanceRefused (s : State) (mask : Nat) : Option Status :=
  if (maskCtrs mask).isEmpty then some .arg else if (maskCtrs mask).any (fun c => (almOf s c).spent) then some .spent else none

/-- An accepted ALM_ADVANCE requests its advances (R221). A counter that has become spent for want of a spare since the order was
taken fails it. -/
def advanceGo (ord : Option Nat) (mask target : Nat) (s : State) : State :=
  let cs := maskCtrs mask
  let s1 := cs.foldl (fun s c => almRequest c (max ((almOf s c).epoch + 1) target) s) s
  match ord with
  | some id =>
    let o : AlmOrd := { id := id, ctrs := cs, target := target, written := false,
                        failed := cs.any (fun c => (almOf s c).spent && (almOf s c).noSpare) }
    { s1 with alm := { s1.alm with ords := s1.alm.ords ++ [o] } }
  | none => s1

/-- Whether a renewal of the counter has been accepted and has not yet taken effect. -/
def renewing (a : AlmCtr) : Bool :=
  a.renew || (match a.wrote with
    | some (.stored g _) => g != a.gen
    | some (.spent r) => r
    | none => false)

/-- Whether a renewal of a counter waits in this twin's tick lists (R311). -/
def renewListed (s : State) (c : Nat) : Bool :=
  s.twin.lists.any (fun l => l.own.any (fun x => match x with | .renew _ d => d == c | _ => false))

/-- The status that ends an ALM_RENEW (R220); `listed` says that an earlier one waits in a tick list. -/
def renewRefused (s : State) (c : Nat) (listed : Bool) : Option Status :=
  let a := almOf s c
  if !a.spent then some .arg
  else if renewing a || listed then some .busy
  else if almBound s c != 0 then some .busy
  else if a.noSpare || a.gen == 0xFFFF then some .fault
  else none

/-- An accepted ALM_RENEW requests the renewal. -/
def renewGo (ord : Option Nat) (c : Nat) (s : State) : State :=
  let s1 := modAlm c (fun a => { a with req := some 1, renew := true }) s
  match ord with
  | some id => { s1 with alm := { s1.alm with ords := s1.alm.ords ++ [{ id := id, ctrs := [c], target := 0, written := false, failed := false }] } }
  | none => s1

/-- ALM_RENEW (R220). -/
def almRenew (ord : Option Nat) (c : Nat) (s : State) : State :=
  match renewRefused s c false with
  | some st => endOpt ord st 0 s
  | none => renewGo ord c s

/-- ALMANAC_WRITE at clock 180,000: every request taken before is written, one merged value for each counter (R212); between F
and T of a realignment advances are deferred (R334), and in tick T - 1 the aligned epochs are written (R226). `fails` gives the read-backs that fail for each counter.
DESIGN CHOICE, safe (log entry 51). -/
def almanacWrite (fails : List Nat) (s : State) : State :=
  if !s.time.run || decide (180000 < s.time.clk) then s
  else
    let s1 := advanceTo 180000 s
    if s1.time.clk != 180000 then s1
    else if s1.twin.alignFixed then
      (if now s1 + 1 = s1.twin.alignTick then (List.range 16).foldl (alignWriteOne fails) s1 else s1)
    else
      let s2 := ((List.range 16).filter (fun c => (almOf s1 c).wrote.isNone)).foldl (almWriteOne fails) s1
      let os := s2.alm.ords.map (fun o => if o.ctrs.all (fun c => (almOf s2 c).req.isNone) then { o with written := true } else o)
      { s2 with alm := { s2.alm with ords := os } }

end Sys2Proof.Machine
end

