-- ==== Sys2Proof/Machine/Eclipse.lean ====
section
/-! DEFINITION. Eclipse (R227-R239): acceptance of an item, activation and abort at the boundary, cancellation, notices
and the read-back of the ECL page. -/

namespace Sys2Proof.Machine

/-- A notice enters the ECL FIFO; one that finds it full is counted in the page's ERR_COUNT (ECL page). -/
def eclNote (type kind sa : Nat) (s : State) : State :=
  if s.ecl.notes.length < 1024 then { s with ecl := { s.ecl with notes := s.ecl.notes ++ [(type, kind, sa, now s)] } }
  else event (pg .ecl) 3
    (modLegend (pg .ecl) (fun l => { l with errCount := if l.errCount = 0xFFFFFFFF then l.errCount else l.errCount + 1 }) s)

/-- A step's order of the MKA agent on an SA has failed (R238): the key change it belongs to is given up, and its old transmit SA
waits for the MKA life time. -/
def mkaBreak (sa : Nat) (s : State) : State :=
  match s.ecl.mka.find? (fun c => c.old == sa || c.new == sa || c.peers.any (fun p => p.old == sa || p.new == sa)) with
  | some c => { s with ecl := { s.ecl with mka := s.ecl.mka.erase c, mkaHold := s.ecl.mkaHold.filter (fun h => h.1 != c.old) ++ [(c.old, now s)] } }
  | none => s

/-- An item of the agent has failed: the notice ABORTED for its SA, and its key change ends (R238).
DEDUCED, unsafe (log entry 101). -/
def agentFailed (kind sa : Nat) (s : State) : State := eclNote 1 kind sa (mkaBreak sa s)

/-- Entries of a kind for an SA. -/
def eclOf (s : State) (kind sa : Nat) : List EclEntry := s.ecl.entries.filter (fun e => e.kind == kind && e.sa == sa)

/-- The TX_SWITCH entries, one entry apart. -/
def otherSwitches (s : State) (but : Option EclEntry) : List EclEntry :=
  s.ecl.entries.filter (fun e => e.kind == 0 && some e != but)

/-- The conditions of R228 on the records of SA and NEW. -/
def switchFits (a b : List Word) : Bool :=
  recSuite a == recSuite b && recPlain a == recPlain b && recLine a == recLine b &&
  (if isMacsec (recSuite a) then recSciA a == recSciA b && recSciB a == recSciB b && recAn a != recAn b
   else recBytes a 0x10 4 != recBytes b 0x10 4 && recV6 a == recV6 b && recUdp a == recUdp b &&
     recBytes a 0x20 32 == recBytes b 0x20 32)

/-- R228 for a TX_SWITCH of `sa` to `new`, an entry already in the table apart. -/
def switchOk (s : State) (but : Option EclEntry) (sa new : Nat) : Bool :=
  let a := workSa s sa
  let b := workSa s new
  let o := otherSwitches s but
  sa != new && a.st == 1 && b.st == 1 && a.dir == 0 && b.dir == 0 && switchFits a.record b.record &&
  !(o.any (fun e => e.sa == sa)) && !(o.any (fun e => e.new == sa)) && !(o.any (fun e => e.sa == new || e.new == new))

/-- R229 for an RX_FLOOR or RX_CLOSE. -/
def rxOk (s : State) (kind sa floor : Nat) : Bool :=
  let a := workSa s sa
  let top := if isLegacy (recSuite a.record) then 0xFFFFFFFF else 2 ^ 63 - 1
  a.st == 1 && a.dir == 1 && !a.closed && (eclOf s 2 sa).isEmpty &&
  (kind == 2 || (decide (1 ≤ floor) && decide (floor ≤ top)))

/-- The operand conditions of an item (R228, R229). -/
def eclOperandsOk (s : State) (kind sa new floor : Nat) : Bool :=
  if kind = 0 then switchOk s none sa new else if kind ≤ 2 then rxOk s kind sa floor else false

/-- A target tick within R27. -/
def targetOk (s : State) (t : Tick) : Bool := decide (2 ≤ tdiff t (now s)) && decide (tdiff t (now s) ≤ 2 ^ 31 - 1)

/-- Eclipse activations reserved at a tick (R28). -/
def eclReserved (s : State) (t : Tick) : Nat := s.ecl.entries.countP (fun e => !e.active && e.target == t)

/-- What an ECL_SCHEDULE completes with when it is judged, in the order of R229; `ok` stands for acceptance. -/
def eclJudge (s : State) (kind sa new : Nat) (target : Tick) (floor : Nat) : Status :=
  if !eclOperandsOk s kind sa new floor then .arg
  else if !targetOk s target then .arg
  else if 4096 ≤ eclReserved s target then .busy
  else if 65536 ≤ s.ecl.entries.length then .busy
  else .ok

/-- Take an Eclipse entry (R227, R228). -/
def eclAccept (ord : Option Nat) (agent : Bool) (kind sa new : Nat) (target : Tick) (floor : Nat) (s : State) : State :=
  let e : EclEntry := { kind := kind, sa := sa, new := if kind = 0 then new else 0, target := target,
                        floor := if kind = 1 then floor else 0, ord := ord, active := false, agent := agent, doomed := false,
                        gone := false }
  bump (pg .ecl) 0x200 1 { s with ecl := { s.ecl with entries := s.ecl.entries ++ [e] } }

/-- Judge and, if it passes, accept an item; a refused order ends with its status. -/
def eclRequest (ord : Option Nat) (agent : Bool) (kind sa new : Nat) (target : Tick) (floor : Nat) (s : State) : State :=
  match eclJudge s kind sa new target floor with
  | .ok => eclAccept ord agent kind sa new target floor s
  | st => endOpt ord st 0 (if agent then agentFailed (kind % 4) sa s else s)

/-- Remove an entry. -/
def eclDrop (e : EclEntry) (s : State) : State := { s with ecl := { s.ecl with entries := s.ecl.entries.erase e } }

/-- An Eclipse acknowledgement (R239): 0 activated, 1 aborted, 2 cancelled. -/
def eclAck (e : EclEntry) (outcome : Nat) (s : State) : State :=
  if s.dev.mode = .twinEmit then
    { s with twin := { s.twin with acks := s.twin.acks ++ [(e.sa, e.kind, e.target, outcome)] } }
  else s

/-- A pending item is aborted at its boundary (R235). -/
def eclAbort (s : State) (e : EclEntry) : State :=
  let s1 := abortOpt e.ord 0x83 (eclDrop e s)
  eclAck e 1 (event (pg .ecl) 2 (bump (pg .ecl) 0x218 1 (eclNote 1 e.kind e.sa (if e.agent then mkaBreak e.sa s1 else s1))))

/-- A pending item is cancelled, for the reason given (R236). -/
def eclCancelOne (reason : Nat) (s : State) (e : EclEntry) : State :=
  let s1 := abortOpt e.ord reason (eclDrop e s)
  eclAck e 2 (event (pg .ecl) 2 (bump (pg .ecl) 0x210 1 (if e.agent then agentFailed e.kind e.sa s1 else s1)))

/-- Every pending item is cancelled (R29, R54, R61). -/
def eclCancelAll (reason : Nat) (s : State) : State :=
  (s.ecl.entries.filter (fun e => !e.active)).foldl (eclCancelOne reason) s

/-- Change a receive SA and keep its home copy in step while it is not resident. -/
def modSaHome (i : Nat) (f : SaEntry → SaEntry) (s : State) : State :=
  let s1 := modSa i f s
  if (saOf s1 i).resident || (saOf s1 i).st = 0 then s1 else writeHome i s1

/-- The effect of an RX_FLOOR on its SA (R233), and whether H was raised. -/
def floorSa (sa floor : Nat) (s : State) : Bool × State :=
  ((raiseFloor (saOf s sa) floor).1, modSaHome sa (fun e => (raiseFloor e floor).2) s)

/-- The operands of a due item still meet R228 or R229: no operand was erased, and a receive SA is not closed. -/
def eclStillOk (s : State) (e : EclEntry) : Bool :=
  let a := workSa s e.sa
  !e.doomed && (if e.kind = 0 then switchOk s (some e) e.sa e.new else a.st == 1 && a.dir == 1 && !a.closed)

/-- A due item takes effect (R231, R233, R234), or is aborted (R230, R235). -/
def eclActivate (s : State) (e : EclEntry) : State :=
  if !eclStillOk s e then eclAbort s e
  else
    let s1 := { s with grt := { s.grt with ecl := s.grt.ecl + 1 } }
    let fin := fun (s : State) => eclAck e 0 (event (pg .ecl) 1 (bump (pg .ecl) 0x208 1 s))
    if e.kind = 0 then
      fin (endOpt e.ord .ok 0
        { s1 with ecl := { s1.ecl with entries := s1.ecl.entries.map (fun x => if x = e then { x with active := true, ord := none } else x) } })
    else if e.kind = 1 then
      let r := floorSa e.sa e.floor (eclDrop e s1)
      fin (endOpt e.ord .ok (wd (b2n r.1)) r.2)
    else fin (endOpt e.ord .ok 0 (modSaHome e.sa (fun x => { x with closed := true }) (eclDrop e s1)))

/-- Action 2 of R17: every pending item due at the tick, in the order of acceptance. -/
def eclBoundary (s : State) : State :=
  (s.ecl.entries.filter (fun e => !e.active && e.target == now s)).foldl eclActivate s

/-- An SA was erased: items that name it are aborted at their target tick (R235). -/
def eclDoom (sa : Nat) (s : State) : State :=
  { s with ecl := { s.ecl with entries := s.ecl.entries.map (fun e =>
      if !e.active && (e.sa == sa || (e.kind == 0 && e.new == sa)) then { e with doomed := true, gone := e.gone || e.sa == sa } else e) } }

/-- The successor that carries the frames of an eclipsed SA (R231, R232). -/
def eclSuccessor (s : State) (sa : Nat) : Option Nat :=
  (s.ecl.entries.find? (fun e => e.kind == 0 && e.active && e.sa == sa)).map (·.new)

/-- The Eclipse entry of an erased old SA is freed after activation (R227). -/
def eclFree (sa : Nat) (s : State) : State :=
  { s with ecl := { s.ecl with entries := s.ecl.entries.filter (fun e => !(e.kind == 0 && e.active && e.sa == sa)) } }

/-- The item an ECL_CANCEL selects (R236): pending, its target tick not yet begun. -/
def eclSelect (s : State) (kind sa : Nat) (target : Tick) : Option EclEntry :=
  s.ecl.entries.find? (fun e => !e.active && e.kind == kind && e.sa == sa && (kind != 1 || e.target == target) &&
    !isDue (now s) e.target)

/-- ECL_CANCEL (R236). -/
def eclCancel (ord : Option Nat) (kind sa : Nat) (target : Tick) (s : State) : State :=
  match eclSelect s kind sa target with
  | some e => endOpt ord .ok 0 (eclCancelOne 0x84 s e)
  | none => endOpt ord .arg 0 s

/-- Stable insertion by target tick, earliest first, seen from now. -/
def insTarget (t0 : Tick) (e : EclEntry) : List EclEntry → List EclEntry
  | [] => [e]
  | x :: r => if tdiff e.target t0 < tdiff x.target t0 then e :: x :: r else x :: insTarget t0 e r

/-- The entries of a kind for an SA in the order read-back takes them: target tick, then acceptance. -/
def eclOrder (s : State) (kind sa : Nat) : List EclEntry :=
  (eclOf s kind sa).foldl (fun l e => insTarget (now s) e l) []

/-- Load the read-back registers from entry `n` in read-back order (ECL_RD_INFO, TICK, FLOOR). -/
def eclRead (kind sa n : Nat) (s : State) : State :=
  let l := eclOrder s kind sa
  let rd := match l.drop n with
    | e :: r => [wd (2 ^ 31 + e.kind * 2 ^ 29 + b2n e.active * 2 ^ 27 + min 63 r.length * 2 ^ 21 + e.new), e.target, wd e.floor,
                 wd (e.floor / 2 ^ 32)]
    | [] => [wd (kind % 4 * 2 ^ 29), 0, 0, 0]
  { s with ecl := { s.ecl with rd := rd, rdPos := n } }

end Sys2Proof.Machine
end

