-- ==== Sys2Proof/Machine/Pipe.lean ====
section
/-! DEFINITION. The cipher pipelines' roles (R196, R200-R205): the occultation rota, self-test, retirement, replacement
and quiesce. -/

namespace Sys2Proof.Machine

/-- Pipeline `p`. -/
def pipeOf (s : State) (p : Nat) : Pipe := s.pipes.getD p Pipe.init

/-- Change pipeline `p`. -/
def modPipe (p : Nat) (f : Pipe → Pipe) (s : State) : State := { s with pipes := s.pipes.set p (f (pipeOf s p)) }

/-- The direction of a pipeline, its pipelines in ascending order, and a direction's number. -/
def pipeDir (p : Nat) : Nat := if p < 21 then 0 else 1
def pipesOf (d : Nat) : List Nat := (List.range 21).map (fun i => 21 * d + i)
def dirNum : Dir → Nat
  | .enc => 0
  | .dec => 1

/-- Zero a pipeline's key and GHASH registers (R196). -/
def Pipe.zeroed (x : Pipe) : Pipe := { x with keyReg := [], ghash := [], freedAt := none }

/-- A change of role raises ROLE_CHG; a pipeline that leaves LIVE has its registers zeroed (R196). -/
def setRole (p r : Nat) (s : State) : State :=
  if (pipeOf s p).role = r then s
  else event (pg .pipe p) 0 (modPipe p (fun x => { (if r = 0 then x else x.zeroed) with role := r, occPend := false }) s)

/-- In service: live or occulted (R201). -/
def inService (s : State) (p : Nat) : Bool := decide ((pipeOf s p).role ≤ 1)

/-- A pipeline in a short set, or passed and waiting for its boundary (R203). -/
def inShort (x : Pipe) : Bool := x.short.isSome || x.liveAt.isSome

/-- The occulted pipeline of a direction, and the one of them that still runs its occultation. -/
def occulted (s : State) (d : Nat) : Option Nat := (pipesOf d).find? (fun p => (pipeOf s p).role == 1)
def occulting (s : State) (d : Nat) : Option Nat := (pipesOf d).find? (fun p => (pipeOf s p).role == 1 && !inShort (pipeOf s p))

/-- Live pipelines that take frames: not asked to quiesce, nor chosen by a rota step (R201, R205). -/
def livePipes (s : State) (d : Nat) : List Nat :=
  (pipesOf d).filter (fun p => (pipeOf s p).role == 0 && !(pipeOf s p).occPend && !(legend s (pg .pipe p)).qreq)

/-- Free live pipelines (R194). -/
def freePipes (s : State) (d : Nat) : List Nat := (livePipes s d).filter (fun p => !pipeBusy s p)

/-- Retire a pipeline (R204): FAULT and QUIESCED, and the cause on its page. -/
def retire (p code stage unit : Nat) (s : State) : State :=
  let info := wd (code * 2 ^ 24 + stage * 2 ^ 20 + unit * 2 ^ 18)
  let s1 := modPipe p (fun x => { x with running := false, bad := false, short := none, liveAt := none, faultInfo := info, faultTick := now s })
    (setRole p 3 s)
  event (pg .pipe p) 1 (modLegend (pg .pipe p) (fun l => { l with fault := true, quiesced := true }) s1)

/-- A test of a pipeline has ended. -/
def testDone (p : Nat) (pass : Bool) (s : State) : State :=
  event (pg .pipe p) 2 (modPipe p (fun x => { x with running := false, bad := false, lastPass := pass, testTick := now s }) s)

/-- Count a failed cycle or set, recording the first failure's code (R202). -/
def testFail (p code : Nat) (s : State) : State :=
  bump (pg .pipe p) 0x240 1 (modPipe p (fun x => { x with failCode := if x.failCode = 0 then code else x.failCode }) s)

/-- The rota mark (R201). -/
def setMark (p : Nat) (s : State) : State :=
  { s with rota := s.rota.set (pipeDir p) { (s.rota.getD (pipeDir p) ⟨0, 0, false⟩) with mark := p } }

/-- Begin an occultation (R202): a fresh test, and the rota mark. -/
def occult (p : Nat) (s : State) : State :=
  setMark p (modPipe p (fun x =>
    { x with running := true, bad := false, failCode := 0, cycles := 0, cycAt := now s, short := none, liveAt := none }) (setRole p 1 s))

/-- A pipeline chosen by the rota is occulted once it holds no frame; until then it takes none (R201). -/
def occultNext (p : Nat) (s : State) : State :=
  if pipeBusy s p then modPipe p (fun x => { x with occPend := true }) (setMark p s) else occult p s

/-- A pipeline that has become free: its registers keep their contents for 16 clocks, and it becomes occulted if the rota has chosen
it (R196, R201). -/
def pipeFreed (s : State) (p : Nat) : State :=
  let s1 := modPipe p (fun x => { x with freedAt := some s.time.cyc }) s
  if (pipeOf s1 p).occPend && !pipeBusy s1 p then occult p s1 else s1

/-- The occulted pipeline abandons its cycle at once and is zeroed; its short set runs from the next boundary (R203, R205).
DEDUCED, unsafe (log entry 48). -/
def startShort (d : Nat) (s : State) : State :=
  match occulting s d with
  | some o => modPipe o (fun x => { x.zeroed with running := false, bad := false, failCode := 0, short := some (now s) }) s
  | none => s

/-- The short sets of the new tick start (R203). -/
def shortBegin (s : State) : State :=
  { s with pipes := s.pipes.map (fun x => match x.short with
      | some t => if tdiff (now s) t = 0 then x else { x with running := true }
      | none => x) }

/-- The next in-service pipeline after `o` in ascending order of its direction, wrapping. -/
def nextInService (s : State) (d o : Nat) : Option Nat :=
  let l := (pipesOf d).filter (inService s)
  match l.find? (fun p => o < p) with
  | some p => some p
  | none => l.head?

/-- Steps 2 and 3 of R201: with at least two pipelines in service the next after `o` is occulted. -/
def rotaNext (d o : Nat) (s : State) : State :=
  if (pipesOf d).countP (inService s) < 2 then s
  else match nextInService s d o with
    | some p => occultNext p s
    | none => s

/-- A step of the rota (R201). While a replacement is in its short set, the step occults a pipeline and returns none (R203).
DEDUCED, unsafe (log entry 48). -/
def rotaStep (d : Nat) (s : State) : State :=
  match occulting s d with
  | some o =>
    let x := pipeOf s o
    if x.failCode != 0 then rotaNext d o (retire o x.failCode 0 0 (testDone o false s))
    else if 24 ≤ x.cycles then rotaNext d o (setRole o 0 (testDone o true s))
    else s
  | none => rotaNext d ((s.rota.getD d ⟨0, 0, false⟩).mark) s

/-- OCCULTATION_ROTA_STEP: a due step runs, and the next is 8,000 boundaries on. -/
def rotaRun (d : Nat) (s : State) : State :=
  let r := s.rota.getD d ⟨0, 0, false⟩
  if r.due then
    let s1 := rotaStep d s
    { s1 with rota := s1.rota.set d { (s1.rota.getD d r) with left := 8000, due := false } }
  else s

/-- The rotas at a boundary: counted in boundaries once started (R201). -/
def rotaCount (s : State) : State :=
  { s with rota := s.rota.map (fun r =>
      if r.left = 0 then r else if r.left = 1 then { r with left := 0, due := true } else { r with left := r.left - 1 }) }

/-- The first step is due at the boundary at which the DX32 leaves BOOT (R201). -/
def rotaBegin (s : State) : State := { s with rota := s.rota.map (fun r => { r with left := 0, due := true }) }

/-- The result of a test part that ends with code `fail`: a parity disagreement during it has failed it too (R202).
DEDUCED, unsafe (log entry 49). -/
def testCode (x : Pipe) (fail : Nat) : Nat := if fail = 0 && x.bad then 0x08 else fail

/-- Ticks of a test cycle (R202). -/
def cycleTicks : Nat := 320

/-- TEST_CYCLE_END: a cycle of an occulted pipeline ends 320 ticks after its start, `fail` 0 for a pass, and the next begins
(R202). -/
def testCycleEnd (p fail : Nat) (s : State) : State :=
  let x := pipeOf s p
  if x.role = 1 && !inShort x && x.running && decide (cycleTicks ≤ tdiff (now s) x.cycAt) then
    let s1 := modPipe p (fun x => { x with bad := false, cycAt := now s }) (bump (pg .pipe p) 0x238 1 s)
    if testCode x fail = 0 then modPipe p (fun x => { x with cycles := min 65535 (x.cycles + 1) }) s1
    else testFail p (testCode x fail) s1
  else s

/-- SHORT_KAT_END: the short set run in the tick after its request ends (R203). -/
def shortKatEnd (p fail : Nat) (s : State) : State :=
  match (pipeOf s p).short with
  | some t =>
    let c := testCode (pipeOf s p) fail
    if !(pipeOf s p).running then s
    else if c = 0 then modPipe p (fun x => { x with short := none, liveAt := some (t + 2) }) (testDone p true s)
    else retire p 0x07 0 0 (testFail p c (testDone p false s))
  | none => s

/-- A pipeline whose short set passed becomes live at its boundary (R203). -/
def pipeLiveAt (s : State) : State :=
  (List.range 42).foldl (fun s p =>
    match (pipeOf s p).liveAt with
    | some t => if isDue (now s) t then modPipe p (fun x => { x with liveAt := none }) (setRole p 0 s) else s
    | none => s) s

/-- A pipeline leaves quiesce once QREQ = 0, EN = 1 and FAULT = 0: it runs one full cycle (R205). An occulted pipeline whose
QREQ falls before it was QUIESCED has ended its test, and comes back the same way. DEDUCED, unsafe (log entry 49). -/
def pipeLeave (p : Nat) (s : State) : State :=
  let l := legend s (pg .pipe p)
  if (l.quiesced || (pipeOf s p).role == 4) && !l.qreq && l.en && !l.fault then
    modPipe p (fun x => { x with running := true, bad := false, failCode := 0, cycles := 0, cycAt := now s })
      (setRole p 2 (modLegend (pg .pipe p) (fun l => { l with quiesced := false }) s))
  else s

/-- RETURN_CYCLE_END: the cycle of a returning pipeline ends after its 320 ticks (R202, R205); a pipeline that passes has run its
block's initialisation again (R489). DEDUCED, unsafe (log entry 49). -/
def returnCycleEnd (p fail : Nat) (s : State) : State :=
  if (pipeOf s p).role != 2 || decide (tdiff (now s) (pipeOf s p).cycAt < cycleTicks) then s
  else
    let c := testCode (pipeOf s p) fail
    let s0 := bump (pg .pipe p) 0x238 1 (testDone p (c == 0) s)
    let s1 := if c = 0 then setReady (pg .pipe p) s0 else s0
    if c != 0 then
      let s2 := testFail p c s1
      retire p (pipeOf s2 p).failCode 0 0 s2
    else if (pipesOf (pipeDir p)).any (fun q => (pipeOf s1 q).role == 1 || (pipeOf s1 q).occPend) then setRole p 0 s1
    else if (pipesOf (pipeDir p)).any (inService s1) then occult p s1
    else setRole p 0 s1

/-- QREQ = 1 on a pipeline (R205). DEDUCED, unsafe (log entry 49). -/
def pipeQuiesce (p : Nat) (s : State) : State :=
  let x := pipeOf s p
  if x.role = 0 then
    let s := modPipe p (fun x => { x with occPend := false }) s
    (match occulting s (pipeDir p) with
      | some o => if (pipeOf s o).failCode = 0 then startShort (pipeDir p) s else s
      | none => s)
  else if x.role = 1 then
    setRole p 4 (modPipe p (fun x => { x with short := none, liveAt := none })
      (testDone p (decide (24 ≤ x.cycles) && x.failCode == 0 && !inShort x) s))
  else s

/-- QUIESCE_DONE on a pipeline page: with its frames finished it is zeroed and QUIESCED is set (R71, R205). -/
def pipeQuiesced (p : Nat) (s : State) : State :=
  let l := legend s (pg .pipe p)
  if l.qreq && !l.quiesced && !pipeBusy s p then
    modLegend (pg .pipe p) (fun l => { l with quiesced := true }) (setRole p (if (pipeOf s p).role = 3 then 3 else 4)
      (modPipe p (fun x => { x with running := false, short := none, liveAt := none }) s))
  else s

/-- SRST on a quiesced or retired pipeline clears FAULT and its block-specific registers (R205); READY reads 0 until a return
cycle has passed (R489). DESIGN CHOICE, unsafe (log entry 29). -/
def pipeSrst (p : Nat) (s : State) : State :=
  let role := (pipeOf s p).role
  let s1 := { s with ctrs := spKeep (fun a => decide (a < ra (pg .pipe p) 0) || decide (ra (pg .pipe p) 0x1000 ≤ a)) s.ctrs }
  let s2 := modPipe p (fun x => { Pipe.init with role := x.role }) s1
  let s3 := modLegend (pg .pipe p) (fun l => { l with fault := false, ready := false }) s2
  pipeLeave p (if role = 3 then setRole p 4 s3 else s3)

end Sys2Proof.Machine
end

