-- ==== Sys2Proof/Machine/Frames.lean ====
section
/-! DEFINITION. Frames the device holds: ports and their rates, buffer partitions and reservations (R101-R104, R247), the
in-flight limit (R249), frame tags (R465), the ways a frame ends (R10, R15, R16), and its digest entry (R326). -/

namespace Sys2Proof.Machine

/-! ### Ports -/

/-- A register as committed at the last tick boundary. -/
def cfgReg (s : State) (a : Nat) : Word := spGet 0 s.cfg a ^^^ regReset a
def cfgFld (s : State) (a hi lo : Nat) : Nat := fld (cfgReg s a) hi lo

def portOf (s : State) (side : Side) (p : Nat) : Port :=
  match side with
  | .plain => s.plainPorts.getD p Port.init
  | .line => s.linePorts.getD p Port.init

def modPort (side : Side) (p : Nat) (f : Port → Port) (s : State) : State :=
  match side with
  | .plain => { s with plainPorts := s.plainPorts.set p (f (portOf s .plain p)) }
  | .line => { s with linePorts := s.linePorts.set p (f (portOf s .line p)) }

/-- The rate in Gb/s of port offset `k` of a group in a mode (R91); 0 for a port the mode does not list. -/
def modeRate (mode k : Nat) : Nat :=
  if mode = 1 then (if k = 0 then 1600 else 0)
  else if mode = 2 then (if k % 4 = 0 then 800 else 0)
  else if mode = 3 then (if k % 2 = 0 then 400 else 0)
  else if mode = 4 then 200
  else if mode = 5 then 100
  else 0

/-- The committed rate of a port; 0 when it is disabled. -/
def portRate (s : State) (side : Side) (p : Nat) : Nat := modeRate (portOf s side p).mode (p % 8)

/-- Whether a port is enabled. DEDUCED, unsafe (log entry 34). -/
def portOn (s : State) (side : Side) (p : Nat) : Bool := portRate s side p != 0

/-- PORT_STAT.LINK (R97). -/
def linkUp (x : Port) : Bool := x.ingUp && x.egUp

/-- Count on a port's page; every counter of a disabled port holds at 0 (R91). -/
def portBump (side : Side) (p off n : Nat) (s : State) : State :=
  if portOn s side p then bump (portPage side p) off n s else s

/-- PORT_LOOP.MODE of a port (R114). DEDUCED, unsafe (log entry 38). -/
def loopMode (s : State) (side : Side) (p : Nat) : Nat := regFld s (ra (portPage side p) 0x120) 1 0

/-- Whether a port's egress takes frames: up, and not in far-end loopback, where R99 applies (R97, R114). -/
def egOpen (s : State) (side : Side) (p : Nat) : Bool := (portOf s side p).egUp && loopMode s side p != 3

/-- The modes in which no PAM4 transmitter works: R35 names BOOT, PROVISION and ZEROIZED, and in LUNAR and RESET nothing does. -/
def idleMode (s : State) : Bool := modeIn [.lunar, .reset, .boot, .provision, .zeroized] s

/-- What a port's transmitter sends beside frames (R35, R97, R114): 0 idle, 1 remote-fault ordered sets, 2 electrical idle. -/
def transmitter (s : State) (side : Side) (p : Nat) : Nat :=
  if idleMode s || !portOn s side p || loopMode s side p == 1 || loopMode s side p == 2 then 2 else (portOf s side p).tx

/-- A port's transmitter changes what it sends (R97). -/
def setTx (side : Side) (p v : Nat) (s : State) : State :=
  if (portOf s side p).tx = v then s else emit (.transmitter side p v) (modPort side p (fun x => { x with tx := v }) s)

/-- Whether a port's egress frames return to its own receive MAC (R114). DEDUCED, unsafe (log entry 38). -/
def nearLoop (s : State) (side : Side) (p : Nat) : Bool :=
  (loopMode s side p == 1 || loopMode s side p == 2) && (portOf s side p).ingUp

/-- A frame on the wire of a port; a near-end loopback leaves the transmitter idle (R114).
DESIGN CHOICE, safe (log entry 13). -/
def wire (side : Side) (p : Nat) (f : Bytes) (s : State) : State := if loopMode s side p = 0 then emit (.frame side p f) s else s

/-- Preemption in use on egress (R108). -/
def preemptActive (s : State) (side : Side) (p : Nat) : Bool :=
  let r := getReg s (ra (portPage side p) 0x11C)
  bit r 31 && (bit r 30 || (portOf s side p).verify == 2)

/-- The ingress and the egress side of a direction. -/
def inSide : Dir → Side
  | .enc => .plain
  | .dec => .line
def outSide : Dir → Side
  | .enc => .line
  | .dec => .plain

/-- Meridian time of `n` bytes at a rate in Gb/s. -/
def lineTime (rate n : Nat) : Nat := if rate = 0 then 0 else n * 8 * nsUnit / rate

/-- Bytes that a rate in Gb/s carries in a span of Meridian time: those whole by its end, and those begun. -/
def bytesBy (rate t : Nat) : Nat := t * rate / (8 * nsUnit)
def bytesBegun (rate t : Nat) : Nat := cdiv (t * rate) (8 * nsUnit)

/-! ### Frame list -/

def frameOf (s : State) (id : Nat) : Option Frame := s.frames.list.find? (fun f => f.id == id)

/-- Change one frame. -/
def modFrame (id : Nat) (g : Frame → Frame) (s : State) : State :=
  { s with frames := { s.frames with list := mapIf (fun f => f.id == id) g s.frames.list } }

/-- Remove a frame, which lets its SA go; generations it alone held leave the retirement pool, and its gang is free. -/
def dropFrame (id : Nat) (s : State) : State :=
  let gang := match frameOf s id with | some f => f.gang | none => []
  let s := match frameOf s id with
    | some f => if frameHolds f then touchSa f.sa s else s
    | none => s
  let s1 := { s with frames := { s.frames with list := s.frames.list.filter (fun f => f.id != id) } }
  gang.foldl pipeFreed (prunePool s1)

/-- A frame's length on the wire, with its FCS. -/
def frameLen (f : Frame) : Nat := f.bytes.length + 4

/-- Whether a frame has been received whole. -/
def arrived (s : State) (f : Frame) : Bool := !f.receiving && decide (f.rxEnd ≤ s.time.mer)

/-- Add a frame, giving it its serial number; frames stand in the order of their entry points (R241). -/
def addFrame (f : Frame) (s : State) : State :=
  { s with frames := { s.frames with list := s.frames.list ++ [{ f with id := s.frames.nextId }], nextId := s.frames.nextId + 1 } }

/-- A frame that has not come anywhere yet. -/
def Frame.fresh (dir : Dir) (port : Nat) (bytes : Bytes) (at_ : Nat) (tick : Tick) : Frame :=
  { id := 0, dir := dir, kind := .control, port := port, dest := 0, cls := 3, bytes := bytes, bad := none, receiving := false, rxExpress := false,
    rxOpen := false, rxEnd := at_, sa := 0,
    gen := 0, field := none, stage := .waiting, cells := 0, inReserve := false, ctx := [], gang := [], doneAt := 0, txAt := 0,
    endAt := 0, fragAt := none, sent := 0, result := [], launch := none, rxAt := at_, age := 0, rxTick := tick, bundle := 0, btick := 0, tag := none,
    points := List.replicate 8 0xFFFFFFFF }

/-! ### Timestamps (R342) -/

/-- The number of a port among the registers of the MER page: 0-15 P0-P15, 16-31 L0-L15. -/
def portNum (side : Side) (p : Nat) : Nat := (match side with | .plain => 0 | .line => 16) + p

/-- The ingress timestamp of a frame whose first bit comes at Meridian time `t`. -/
def ingressAt (s : State) (side : Side) (p t : Nat) : Nat := t + cfgFld s (ra (pg .mer) (0x200 + 4 * portNum side p)) 15 0 * nsUnit / 16
def ingressStamp (s : State) (f : Frame) : Nat := ingressAt s (inSide f.dir) f.port f.rxAt

/-- The egress timestamp of a frame that begins at Meridian time `t`. -/
def egressStamp (s : State) (f : Frame) (t : Nat) : Nat :=
  t + cfgFld s (ra (pg .mer) (0x200 + 4 * portNum (outSide f.dir) f.dest)) 31 16 * nsUnit / 16

/-! ### Buffer partitions (R101-R103, R247) -/

/-- Cells of a length. -/
def cellsOf (n : Nat) : Nat := cdiv n 256

/-- The maximum frame of an ingress side in cells. -/
def maxCells : Side → Nat
  | .plain => 64
  | .line => 65

/-- The partition of a port in cells, and its Polar reserve Q. -/
def partCells (s : State) (side : Side) (p : Nat) : Nat := if portOn s side p then (portOf s side p).part * 64 else 0
def polarQ (s : State) (side : Side) (p : Nat) : Nat :=
  regFld s (ra (pg .sch) (0x140 + 4 * (match side with | .plain => p | .line => 16 + p))) 9 0

/-- Whether a frame came in at a port. -/
def cameFrom (side : Side) (p : Nat) (f : Frame) : Bool :=
  inSide f.dir == side && f.port == p && f.kind != .control && f.kind != .bundle

/-- Frames held in a port's partition, and frames of it still in reception. -/
def inPart (side : Side) (p : Nat) (f : Frame) : Bool := cameFrom side p f && f.cells != 0
def inRx (f : Frame) : Bool := f.receiving || f.rxOpen

/-- H and R of a partition's general part, and cells held or reserved in its reserve (PORT_BUF). -/
def holdings (s : State) (side : Side) (p : Nat) : Nat :=
  ((s.frames.list.filter (fun f => inPart side p f && !inRx f && !f.inReserve)).map (·.cells)).sum
def reservations (s : State) (side : Side) (p : Nat) : Nat :=
  ((s.frames.list.filter (fun f => inPart side p f && inRx f && !f.inReserve)).map (·.cells)).sum
def reserveUsed (s : State) (side : Side) (p : Nat) : Nat :=
  ((s.frames.list.filter (fun f => inPart side p f && f.inReserve)).map (·.cells)).sum

/-- A reservation at a frame's first byte: granted in the general part, granted provisionally in the Polar reserve, or
refused (R102, R247). -/
inductive Grant | general | reserve | refused
deriving DecidableEq, Repr

def grant (s : State) (side : Side) (p : Nat) (express : Bool) : Grant :=
  let used := holdings s side p + reservations s side p
  let total := partCells s side p - polarQ s side p
  let m := maxCells side
  let preempting := express && s.frames.list.any (fun f => cameFrom side p f && inRx f && !f.rxExpress)
  let need := if preempting then m else 2 * m
  if used + need ≤ total then .general
  else if reserveUsed s side p + 9 ≤ polarQ s side p then .reserve
  else .refused

/-! ### The wire of an egress (R105, R108, R250, R306) -/

/-- The line ports that emit a frame: both of the pair in the twin modes (R306). -/
def emitPorts (s : State) (f : Frame) : List Nat :=
  if f.dir == .enc && f.kind != .control && twinMode s then [f.dest, f.dest ^^^ 8] else [f.dest]

/-- Whether a frame's emission has ended: its last bit has left, and nothing of it is still to come from its gang or its port. -/
def txEnded (s : State) (f : Frame) : Bool :=
  f.stage == .emitting && f.fragAt.isSome && f.gang.isEmpty && !f.receiving && decide (f.endAt ≤ s.time.mer)

/-- Whether a fragment of a frame holds the wire of its ports: a preempted frame holds none. -/
def holdsWire (s : State) (f : Frame) : Bool := f.stage == .emitting && f.fragAt.isSome && !txEnded s f

/-- The frames that hold the wire of a port. -/
def onWire (s : State) (d : Dir) (p : Nat) : List Frame :=
  s.frames.list.filter (fun f => f.dir == d && holdsWire s f && (emitPorts s f).contains p)

/-- The frame preempted on a port, if one waits there for its next fragment. -/
def suspended (s : State) (d : Dir) (p : Nat) : Option Frame :=
  s.frames.list.find? (fun f => f.dir == d && f.stage == .emitting && f.fragAt.isNone && (emitPorts s f).contains p)

/-- The shortest fragment of a port but the last of a frame (R108). -/
def minFrag (s : State) (side : Side) (p : Nat) : Nat := 64 * (1 + regFld s (ra (portPage side p) 0x11C) 17 16)

/-- Bytes of a frame that no fragment has carried yet. -/
def leftOf (f : Frame) : Nat := f.result.length + 4 - f.sent

/-- The bytes of the fragment on the wire if an express frame is to begin now, or, foreseen, at the instant of a launch (R250, R253):
what has left already, or what ends with 20 B before the instant; at least the shortest fragment, and 802.3br leaves at least 64 B
to the last one. None where preemption is not active or the frame is not preemptable. PRESUMED, unsafe (log entry 95). -/
def cutPoint (s : State) (launch : Option Nat) (f : Frame) : Option Nat :=
  let side := outSide f.dir
  let rate := portRate s side f.dest
  let at_ := f.fragAt.getD 0
  let want := match launch with
    | none => bytesBegun rate (s.time.mer - at_)
    | some t => if f.receiving then bytesBy rate (t - at_) - 20 else min (bytesBy rate (t - at_) - 20) (leftOf f - 64)
  let c := max (minFrag s side f.dest) want
  if f.cls != 0 && (emitPorts s f).all (preemptActive s side) && (f.receiving || decide (c + 64 ≤ leftOf f)) then some c else none

/-- The fragment of a frame on the wire is cut after `c` bytes (R108, R250). -/
def preempt (f : Frame) (c : Nat) (s : State) : State :=
  (emitPorts s f).foldl (fun s p => portBump (outSide f.dir) p 0x278 1 s)
    (modFrame f.id (fun f => { f with fragAt := none, sent := f.sent + c }) s)

/-- When an express frame can begin on ports of a direction, now or as soon after as can be, and the state with what holds their
wires preempted; none while an express frame is on them, or what is cannot be preempted (R250). -/
def clearWire (s : State) (d : Dir) (ps : List Nat) (launch : Option Nat) : Option (Nat × State) :=
  let side := outSide d
  let ws := s.frames.list.filter (fun f => f.dir == d && holdsWire s f && (emitPorts s f).any ps.contains)
  if ps.any (fun p => decide (s.time.mer < (portOf s side p).pfcEnd)) then none
  else ws.foldl (fun r f => match r, cutPoint s launch f with
    | some (u, x), some c => some (max u (f.fragAt.getD 0 + lineTime (portRate s side f.dest) (c + 20)), preempt f c x)
    | _, _ => none) (some (s.time.mer, s))

/-- Whether nothing holds the wire of a frame's ports, and no other frame waits there for its next fragment: a port sends one
preemptable frame at a time. -/
def wireFree (s : State) (f : Frame) : Bool :=
  (emitPorts s f).all (fun p => (onWire s f.dir p).isEmpty && decide ((portOf s (outSide f.dir) p).pfcEnd ≤ s.time.mer) &&
    (match suspended s f.dir p with
     | some x => x.id == f.id
     | none => true))

/-! ### Priority flow control (R105) -/

/-- Whether a port's own address may be used (R113). -/
def portMac (s : State) (side : Side) (p : Nat) : Bytes :=
  beBytes 2 (regFld s (ra (portPage side p) 0x12C) 15 0) ++ beBytes 4 (getReg s (ra (portPage side p) 0x128)).toNat
def macSet (s : State) (side : Side) (p : Nat) : Bool := portMac s side p != zeros 6

/-- The PFC frame of a port for the priorities of PRIO, with a pause time (R105). -/
def pfcFrame (s : State) (p quanta : Nat) : Bytes :=
  let prio := regFld s (ra (pg .plain p) 0x118) 23 16
  let times := (List.range 8).flatMap (fun i => beBytes 2 (if prio / 2 ^ i % 2 = 1 then quanta else 0))
  padMin ([0x01, 0x80, 0xC2, 0x00, 0x00, 0x01] ++ portMac s .plain p ++ [0x88, 0x08, 0x01, 0x01] ++ beBytes 2 prio ++ times)

/-- A PFC frame begins at Meridian time `t`; in a near-end loopback it reaches the port's own MAC (R106, R114). -/
def beginPfc (p quanta t : Nat) (s : State) : State :=
  let f := pfcFrame s p quanta
  let s1 := portBump .plain p 0x270 1 (modPort .plain p (fun x =>
    { x with pfcAt := t, pfcEnd := t + lineTime (portRate s .plain p) (f.length + 24) }) s)
  if nearLoop s .plain p then
    portBump .plain p 0x240 1 (if controlOnly s then portBump .plain p 0x228 1 s1 else s1)
  else if loopMode s .plain p = 0 then emit (.pfc .plain p (f ++ fcsBytes f)) s1 else s1

/-- The oldest PFC frame not yet begun begins as soon as the wire is free, or what is on it has been preempted (R105, R250). -/
def pfcFlush (p : Nat) (s : State) : State :=
  match (portOf s .plain p).pfcWait with
  | [] => s
  | q :: r =>
    match clearWire s .dec [p] none with
    | some c => beginPfc p q c.1 (modPort .plain p (fun x => { x with pfcWait := r }) c.2)
    | none => s

/-- A port is to send a PFC frame (R105); without an address it is suppressed (R113), and with the egress down, or with the
transmitters idle by the mode (R35), it cannot leave. DEDUCED, unsafe (log entry 37). -/
def sendPfc (p quanta : Nat) (s : State) : State :=
  if idleMode s then s
  else if !macSet s .plain p then portBump .plain p 0x298 1 s
  else if !egOpen s .plain p then modPort .plain p (fun x => { x with pfcAt := s.time.mer }) s
  else pfcFlush p (modPort .plain p (fun x => { x with pfcWait := x.pfcWait ++ [quanta] }) s)

/-- PFC_XOFF: occupancy has crossed XOFF or XON (R105). EN written to 0 while the port is paused leaves it so: the frame with quanta
0 is still sent at XON. DESIGN CHOICE, unsafe (log entry 94). -/
def pfcCheck (p : Nat) (s : State) : State :=
  let ctl := getReg s (ra (pg .plain p) 0x118)
  let thr := getReg s (ra (pg .plain p) 0x114)
  let used := holdings s .plain p + reservations s .plain p
  let x := portOf s .plain p
  if bit ctl 31 && !x.xoff && decide (fld thr 12 0 * 16 ≤ used) && portOn s .plain p then
    sendPfc p (fld ctl 15 0) (modPort .plain p (fun x => { x with xoff := true }) s)
  else if x.xoff && decide (used ≤ fld thr 28 16 * 16) then
    sendPfc p 0 (modPort .plain p (fun x => { x with xoff := false }) s)
  else s

/-! ### Frame tags (R465) -/

/-- Note the clock at which a frame reaches point `k`. -/
def tagPointAt (s : State) (k : Nat) (f : Frame) : Frame := { f with points := f.points.set k (wd s.time.cyc) }

/-- The stage point of a page for a frame (R465): every 2^TAG_SHIFT-th frame past it is tagged, unless it is tagged
already, tagging is off, or 256 tagged frames of its direction are in flight. -/
def tagSelect (page k : Nat) (f : Frame) (s : State) : Frame × State :=
  let shift := fld (legend s page).pmcCtrl 20 16
  let f1 := tagPointAt s k f
  if f.tag.isSome || shift = 0 || !bit (getReg s (ra (pg .smp) 0x100)) 31 then (f1, s)
  else
    let n := spGet 0 s.smp.sel page + 1
    if n < 2 ^ shift then (f1, { s with smp := { s.smp with sel := spSet 0 s.smp.sel page n } })
    else
      let s1 := { s with smp := { s.smp with sel := spSet 0 s.smp.sel page 0 } }
      if 256 ≤ (s.frames.list.filter (fun x => x.dir == f.dir && x.tag.isSome)).length then (f1, bump (pg .smp) 0x210 1 s1)
      else ({ f1 with tag := some k }, s1)

/-- The sample record of a tagged frame that ends with an outcome (R466): it waits for SAMPLE_RECORD. -/
def endTag (f : Frame) (outcome : Nat) (s : State) : State :=
  match f.tag with
  | some p =>
    let n := f.field.getD 0
    let w1 := wd (dirNum f.dir * 2 ^ 31 + p * 2 ^ 28 + f.cls * 2 ^ 26 + outcome * 2 ^ 16)
    let r : SampleRec := { words := [f.rxTick, w1, wd f.sa, wd (f.port * 2 ^ 28 + frameLen f), wd n, wd (n / 2 ^ 32)] ++ f.points }
    { s with smp := { s.smp with wait := s.smp.wait ++ [r] } }
  | none => s

/-! ### Digests (R325, R326) -/

/-- h of a frame: SA, field, plain length and the CRC-32 of the plain bytes. -/
def digestHash (sa field : Nat) (plain : Bytes) : Nat :=
  crc64 (beBytes 3 sa ++ beBytes 8 field ++ beBytes 2 plain.length ++ beBytes 4 (crc32 plain))

/-- The FCS bytes received for a frame: none of one cut short (R326). -/
def fcsRx (f : Frame) : Bytes :=
  match f.bad with
  | some _ => beBytes 4 (Config.badFcs (beNat (fcsBytes f.bytes))).toNat
  | none => if f.receiving then [] else fcsBytes f.bytes

/-- A frame that has its field joins the digest items of a twin in TWIN_EMIT.
DEDUCED, unsafe (log entry 55). -/
def digestAdd (f : Frame) (s : State) : State :=
  match f.field with
  | some n =>
    if s.dev.mode = .twinEmit && f.dir == .enc && f.cls < 3 then
      let line := recLine (recFor s f.sa f.gen)
      let plain := f.bytes ++ fcsRx f
      let it : DigItem := { port := f.port, sa := f.sa, field := n, entry := 8 * f.cls + line % 8, h := digestHash f.sa n plain, rxAt := ingressStamp s f }
      { s with twin := { s.twin with items := s.twin.items ++ [it] } }
    else s
  | none => s

/-- Contention losses (R326); all other discards after the sequence point are fault losses. -/
def isContention (reason : Nat) : Bool :=
  reason == 0x20 || reason == 0x25 || reason == 0x26 || reason == 0x27 || reason == 0x28 || reason == 0x29 || reason == 0x24

/-- Count a loss in the digest of the tick. -/
def digestLoss (f : Frame) (reason : Nat) (s : State) : State :=
  if s.dev.mode = .twinEmit && f.dir == .enc && f.field.isSome && f.cls < 3 then
    let d := s.twin.digest
    let d1 := if isContention reason then { d with cont := d.cont.set f.cls (d.cont.getD f.cls 0 + 1) }
      else { d with fault := d.fault.set f.cls (d.fault.getD f.cls 0 + 1) }
    { s with twin := { s.twin with digest := d1 } }
  else s

/-! ### The Polar conditions (R256, R258) -/

/-- The line port a frame leaves by or came from, and the gang size a rate gives (R192). -/
def linePortOf (f : Frame) : Nat := if f.dir == .enc then f.dest else f.port
def gangTable (rate : Nat) : Nat := if rate ≤ 200 then 1 else if rate = 400 then 2 else if rate = 800 then 4 else 8

/-- X of a direction. -/
def xres (s : State) (d : Dir) : Nat :=
  let r := cfgReg s (ra (pg .sch) 0x100)
  match d with
  | .enc => fld r 3 0
  | .dec => fld r 19 16

/-- The conditions of R256 that the device checks for a Polar frame whatever becomes of it. X must reach the gang of the line port of
every Polar frame the direction holds. A decrypt frame has its plain length once it is opened. DEDUCED, unsafe (log entry 93). -/
def polarConds (s : State) (f : Frame) : Bool :=
  let side := outSide f.dir
  let inRate := portRate s (inSide f.dir) f.port
  let sa := if f.kind == .sa || f.kind == .bundle then (workSa s f.sa).pinned && !isLegacy (recSuite (recFor s f.sa f.gen)) else true
  let plainLen := if f.dir == .enc then frameLen f else if f.result.isEmpty then 0 else f.result.length + 4
  let x := fun (g : Frame) => decide (gangTable (portRate s .line (linePortOf g)) ≤ xres s f.dir)
  decide (plainLen ≤ 2048) && sa &&
    (emitPorts s f).all (fun p => preemptActive s side p && decide (regFld s (ra (portPage side p) 0x11C) 17 16 ≤ 1)) &&
    (f.kind == .bundle || decide (48 * inRate ≤ 100 * polarQ s (inSide f.dir) f.port)) && decide (128 ≤ cfgFld s (ra (pg .sch) 0x104) 10 0) &&
    x f && (s.frames.list.filter (fun g => g.dir == f.dir && g.cls == 0)).all x

/-- A Polar frame fails a condition (R258). -/
def polarOutside (s : State) : State := event (pg .sch) 1 (bump (pg .sch) 0x408 1 s)

/-! ### The Tropic credit (R243) -/

/-- SCH's number of an egress port: 0-15 are L0-L15, 16-31 are P0-P15. -/
def egressNum (d : Dir) (dest : Nat) : Nat := match d with | .enc => dest | .dec => 16 + dest

/-- The frames of a class queue in order. -/
def classQueue (s : State) (d : Dir) (dest cls : Nat) : List Frame :=
  s.frames.list.filter (fun f => f.dir == d && f.dest == dest && f.cls == cls && f.launch.isNone && f.stage != .waiting && f.stage != .emitting)
/-- The Tropic credit of an egress port brought up to now (R243): eighths of a byte are bits at TROPIC_RATE × 0.1 Gb/s. -/
def creditNow (s : State) (d : Dir) (p : Nat) : Int :=
  let x := portOf s (outSide d) p
  if (classQueue s d p 1).isEmpty then x.credit
  else
    let rate := cfgFld s (ra (pg .sch) (0x200 + 4 * egressNum d p)) 15 0
    min (16512 * 8) (x.credit + ((s.time.mer - x.credAt) * rate / (10 * nsUnit) : Nat))

/-- Bring a port's credit up to now. -/
def settleCredit (d : Dir) (p : Nat) (s : State) : State :=
  modPort (outSide d) p (fun x => { x with credit := creditNow s d p, credAt := s.time.mer }) s

/-- Every credit is brought up before a change of rates takes effect. -/
def settleCredits (s : State) : State :=
  (List.range 16).foldl (fun s p => settleCredit .dec p (settleCredit .enc p s)) s

/-! ### How frames end -/

/-- The Errata record of a frame or bundle that ends with a reason (R421). PRESUMED, unsafe (log entry 40). -/
def frameErr (s : State) (f : Frame) (reason aux : Nat) : ErrRec :=
  let isB := f.kind == .bundle
  { tick := now s, kind := if isB then 2 else 0, dir := dirNum f.dir, consumed := f.dir == .enc && f.field.isSome, reason := reason,
    port := if isB && f.dir == .enc then f.dest else f.port, cls := f.cls, aux := if isB && reason != 0x23 then f.bundle else aux, sa := f.sa,
    len := if isB then 0 else frameLen f, ident := f.field.getD 0 }

/-- A frame is discarded with an Errata record; an encrypt frame past its sequence point consumes its field (R10). -/
def discardAux (f : Frame) (reason aux : Nat) (s : State) : State :=
  let s := if f.cls = 1 then settleCredit f.dir f.dest s else s
  let s0 := if f.cls = 0 && f.stage != .waiting && f.stage != .emitting && !polarConds s f then polarOutside s else s
  let s1 := digestLoss f reason (fail (frameErr s f reason aux) (dropFrame f.id s0))
  let s2 := if f.dir == .enc && f.field.isSome then saCount f.sa 2 1 s1 else s1
  let s3 := endTag f reason s2
  if f.dir == .enc && f.kind != .bundle then pfcCheck f.port s3 else s3

/-- The same with AUX 0. -/
def discard (f : Frame) (reason : Nat) (s : State) : State := discardAux f reason 0 s

/-- A frame that never entered the list is discarded. -/
def reject (f : Frame) (reason : Nat) (s : State) : State := endTag f reason (fail (frameErr s f reason 0) s)

/-- The wire form of a frame ended under R15: 16 zero bytes in place of the ICV and the complement of the FCS. -/
def stompedBytes (sent : Bytes) : Bytes :=
  let b := sent ++ zeros 16
  b ++ (fcsBytes b).map (fun x => ~~~ x)

/-- A frame with a bad FCS returns to the port's own MAC in a near-end loopback (R114).
DEDUCED, unsafe (log entry 38). -/
def loopBad (p : Nat) (b : Bytes) (s : State) : State :=
  if nearLoop s .line p then
    let t := tagSelect (portPage .line p) 0 (Frame.fresh .dec p b s.time.mer (now s)) s
    if 16508 < b.length then reject t.1 0x04 (portBump .line p 0x220 1 t.2) else reject t.1 0x03 (portBump .line p 0x210 1 t.2)
  else s

/-- The bytes of a frame that have left by now (R15): those of its earlier fragments, of a frame beyond 16,384 B none past it, and
of no frame any of the ICV. DEDUCED, unsafe (log entry 96). -/
def leftBytes (s : State) (f : Frame) : Bytes :=
  let n := f.sent + (match f.fragAt with
    | some t => bytesBegun (portRate s (outSide f.dir) f.dest) (s.time.mer - t)
    | none => 0)
  let body := f.result.length - 16
  f.result.take (min (min n body) (body - (f.bytes.length - 16380)))

/-- A frame in emission on the line proves bad: it is ended at once (R15). -/
def stomp (f : Frame) (reason aux : Nat) (s : State) : State :=
  let sent := leftBytes s f
  let s1 := (emitPorts s f).foldl (fun s p =>
    if egOpen s .line p then loopBad p (sent ++ zeros 16) (portBump .line p 0x260 1 (wire .line p (stompedBytes sent) s)) else s) s
  discardAux f reason aux s1

/-- A frame ends under a fault: stomped if its emission on the line has begun, else discarded whole. -/
def endBad (f : Frame) (reason aux : Nat) (s : State) : State :=
  if f.stage == .emitting && f.dir == .enc then stomp f reason aux s else discardAux f reason aux s

/-- FRAME_STOMP: a frame in reception proves bad (R15): 0x03 by its FCS, 0x04 by its length. -/
def frameBad (id reason : Nat) (s : State) : State :=
  match frameOf s id with
  | some f =>
    if !f.receiving then s
    else
      let r := f.bad.getD reason
      let s1 := if f.bad.isSome then s else portBump (inSide f.dir) f.port (if r = 0x04 then 0x220 else 0x210) 1 s
      if r = 0x03 || r = 0x04 then endBad f r 0 s1 else s
  | none => s

/-! ### The end of a reception (R102, R241) -/

/-- A frame's entry point is now (R241): it takes its place behind the frames that stand there. -/
def toEnd (id : Nat) (s : State) : State :=
  match frameOf s id with
  | some f => { s with frames := { s.frames with list := s.frames.list.filter (fun x => x.id != id) ++ [f] } }
  | none => s

/-- Whether a waiting frame is admitted before another: by the ends of their receptions, one still in reception behind every one that
has its end (R104). DEDUCED, unsafe (log entry 36). -/
def before (x f : Frame) : Bool :=
  if x.receiving != f.receiving then f.receiving
  else if x.receiving || x.rxEnd == f.rxEnd then decide (x.id < f.id) else decide (x.rxEnd < f.rxEnd)

/-- The frame of a list that is admitted first. -/
def firstOf (l : List Frame) : Option Frame :=
  l.foldl (fun b x => match b with
    | none => some x
    | some y => if before x y then some x else b) none

/-- The reception of a good frame ends: the frame holds its actual cells (R102), and a clear-passed frame reaches its entry point (R241). -/
def closeRx (f : Frame) (s : State) : State :=
  let s1 := modFrame f.id (fun x => { x with rxOpen := false, cells := if x.cells = 0 then 0 else cellsOf (frameLen x) }) s
  let s2 := if f.kind == .clear then toEnd f.id s1 else s1
  if f.dir == .enc then pfcCheck f.port s2 else s2

/-- Receptions that have ended by now, in the order of their ends. -/
def closeEnded : Nat → State → State
  | 0, s => s
  | k + 1, s =>
    match firstOf (s.frames.list.filter (fun f => f.rxOpen && decide (f.rxEnd ≤ s.time.mer))) with
    | some f => closeEnded k (closeRx f s)
    | none => s

/-- The first byte of a frame of a kind (express or preemptable) at a port ends what that kind still had in reception there: a good
frame has arrived by then, and one whose end has not come is a frame with an FCS error (R109). A preemptable frame in reception is
set back by an express one. PRESUMED, unsafe (log entry 95). -/
def rxStart (side : Side) (p n : Nat) (express : Bool) (s : State) : State :=
  let here := fun (f : Frame) => cameFrom side p f && inRx f && f.rxExpress == express
  let s1 := (s.frames.list.filter here).foldl (fun s f => if f.rxOpen then closeRx f s else frameBad f.id 0x03 s) s
  if !express then s1
  else
    let later := fun (f : Frame) => { f with rxEnd := f.rxEnd + lineTime (portRate s1 side p) (n + 24) }
    let l := mapIf (fun f => cameFrom side p f && f.rxOpen && !f.rxExpress) later s1.frames.list
    { s1 with frames := { s1.frames with list := l } }

/-! ### In flight (R104, R249) -/

/-- Frames of a direction in flight: admitted and not yet ended. -/
def inFlight (s : State) (d : Dir) : Nat := s.frames.list.countP (fun f => f.dir == d && f.stage != .waiting)

/-- Whether a frame of a class may be admitted now. -/
def mayAdmit (s : State) (d : Dir) (cls : Nat) : Bool :=
  let p := cfgFld s (ra (pg .sch) 0x104) 10 0
  if cls = 0 then decide (inFlight s d < 8192) else decide (inFlight s d + p < 8192)

/-- The queue of a class at an egress port. -/
def queueCells (s : State) (d : Dir) (dest cls : Nat) : Nat :=
  ((s.frames.list.filter (fun f => f.dir == d && f.dest == dest && f.cls == cls && f.stage != .waiting && f.launch.isNone)).map (·.cells)).sum

/-- The reason an admitted frame is discarded as it enters its queue (R245). -/
def queueFull (s : State) (f : Frame) : Option Nat :=
  let lim := cfgReg s (ra (pg .sch) (0x280 + 4 * egressNum f.dir f.dest))
  let thr := cfgReg s (ra (pg .sch) 0x108)
  let all := ((s.frames.list.filter (fun x => x.dir == f.dir && x.kind != .control && x.kind != .bundle)).map (·.cells)).sum
  let top : Nat := match f.dir with
    | .enc => fld thr 15 0
    | .dec => fld thr 31 16
  if f.launch.isSome || f.cls = 0 then none
  else if f.cls = 2 && (decide (fld lim 31 16 ≤ queueCells s f.dir f.dest 2) || decide (top ≤ all)) then some 0x25
  else if f.cls = 1 && decide (fld lim 15 0 ≤ queueCells s f.dir f.dest 1) then some 0x26
  else none

/-- Start a fill of an SA's record, or wait while 2,048 are outstanding (R150). -/
def startFill (i : Nat) (s : State) : State :=
  if s.orb.fills.contains i || s.orb.waiting.contains i then s
  else if s.orb.fills.length < 2048 then
    bump (pg .orb) 0x200 1 { s with orb := { s.orb with fills := s.orb.fills ++ [i] } }
  else bump (pg .orb) 0x220 1 { s with orb := { s.orb with waiting := s.orb.waiting ++ [i] } }

/-- A fill has ended: the next waiting one starts. -/
def nextFill (i : Nat) (s : State) : State :=
  let s1 := { s with orb := { s.orb with fills := s.orb.fills.filter (· != i) } }
  match s1.orb.waiting with
  | w :: r => startFill w { s1 with orb := { s1.orb with waiting := r } }
  | [] => s1

/-- An erased SA has no fill: one outstanding is given up, and the next waiting one starts (R150, R158). -/
def dropFill (i : Nat) (s : State) : State :=
  let s1 := { s with orb := { s.orb with waiting := s.orb.waiting.filter (· != i) } }
  if s.orb.fills.contains i then nextFill i s1 else s1

/-- A frame whose context fetch fails (R152). -/
def contextFail (f : Frame) (s : State) : State :=
  let s1 := discard f 0x21 s
  if f.dir == .enc then saCount f.sa 3 1 s1 else s1

/-- The context of an admitted frame (R150): its record if resident, else it waits for a fill; a frame of an SA in FAULT
from a fill or a record check ends (R152). -/
def fetchContext (id : Nat) (s : State) : State :=
  match frameOf s id with
  | none => s
  | some f =>
    if f.kind == .clear || f.kind == .control then modFrame id (fun f => { f with stage := .queued, result := f.bytes }) s
    else
      let e := saOf s f.sa
      if e.st = 2 && !e.faultSeq && e.gen = f.gen then contextFail f s
      else if e.resident || e.gen != f.gen then
        let s1 := modSa f.sa (fun e => { e with ref := true }) s
        let t := tagSelect (pg .orb) 4 { f with stage := .ready, ctx := recFor s1 f.sa f.gen } s1
        modFrame id (fun _ => t.1) t.2
      else startFill f.sa (modFrame id (fun f => { f with stage := .context }) s)

/-- Whether a class queue is empty. -/
def queueEmpty (s : State) (d : Dir) (dest cls : Nat) : Bool :=
  !s.frames.list.any (fun f => f.dir == d && f.dest == dest && f.cls == cls && f.stage != .waiting && f.stage != .emitting)

/-- The Tropic credit starts to rise when a frame enters an empty Tropic queue (R243). -/
def creditStart (f : Frame) (s : State) : State :=
  if f.cls = 1 && queueEmpty s f.dir f.dest 1 then modPort (outSide f.dir) f.dest (fun x => { x with credAt := s.time.mer }) s else s

/-- A frame is admitted (R104): it enters its class queue, unless R245 discards it, and goes on to its context. -/
def admitFrame (id : Nat) (s : State) : State :=
  match frameOf s id with
  | none => s
  | some f =>
    match queueFull s f with
    | some r =>
      event (pg .sch) 2 (bump (pg .sch) (if r = 0x25 then 0x420 else 0x418) 1 (discard f r s))
    | none =>
      let t := tagSelect (pg .sch) 6 (tagPointAt s 3 f) s
      let polar := if f.cls = 0 then bump (pg .sch) 0x400 1 t.2 else t.2
      let s1 := modFrame id (fun _ => { t.1 with stage := .context, age := 0 }) (creditStart f polar)
      fetchContext id (if f.dir == .dec && f.kind == .sa then toEnd id s1 else s1)

/-- The frames of a direction that wait for an in-flight slot. DEDUCED, unsafe (log entry 36). -/
def slotWaiters (s : State) (d : Dir) : List Frame :=
  s.frames.list.filter (fun f => f.dir == d && f.stage == .waiting && !(f.kind != .sa && f.receiving))

/-- A frame reaches admission: admitted, or it waits for an in-flight slot, counted in INFLIGHT_WAITS; it passes no earlier frame
that waits (R104), Polar frames and the others apart (R249). DEDUCED, unsafe (log entry 36). -/
def reachAdmission (id : Nat) (s : State) : State :=
  match frameOf s id with
  | none => s
  | some f =>
    let first := !(slotWaiters s f.dir).any (fun x => x.id != id && (x.cls == 0) == (f.cls == 0) && before x f)
    if first && mayAdmit s f.dir f.cls then admitFrame id s else bump (pg .sch) 0x430 1 s

end Sys2Proof.Machine
end

