-- ==== Sys2Proof/Machine/Oldun.lean ====
section
/-! DEFINITION. The Oldun link's blocks and messages (R317-R321): when the lanes run, the block layout of R319 with its CRC and
copies, and the messages made of blocks. -/

namespace Sys2Proof.Machine

/-- Whether the lanes run (R317); in DRAIN, if they ran in the mode it was entered from (R33). -/
def oldRuns (s : State) : Bool :=
  bit (getReg s (ra (pg .old) 0x100)) 31 &&
    (modeIn [.configure, .twinJoin, .twinEmit, .twinHold, .diagnostic] s || (s.dev.mode == .drain && s.dev.prev != .solo))

/-- OLD_LOOP.MODE (R321), and whether it ignores the inbound pins. -/
def oldLoopMode (s : State) : Nat := regFld s (ra (pg .old) 0x108) 1 0
def oldNear (s : State) : Bool := oldLoopMode s == 1 || oldLoopMode s == 2

/-- OLD_STAT.SYNC (R317). -/
def oldSync (s : State) : Bool :=
  let t := s.twin
  oldRuns s && t.clkOk && t.lanes == 0xFF && t.deskewed && decide (2 ≤ t.hbRun)

/-- The copies a TYPE is sent in (R319). -/
def oldCopies (type : Nat) : Nat := if type = 9 then 1 else 2

/-- One block of 256 bytes (R319). -/
def oldBlock (type seq : Nat) (last copy : Bool) (chunk : Bytes) : Bytes :=
  let b := [by8 type, by8 (b2n last * 128 + b2n copy * 64)] ++ beBytes 2 chunk.length ++ beBytes 4 seq ++ chunk ++
    zeros (244 - chunk.length)
  b ++ beBytes 4 (crc32c 0xFFFFFFFF b)

/-- The blocks of a message, each in its copies. DESIGN CHOICE, unsafe (log entry 57). -/
def oldMessage (type seq : Nat) : Nat → Bytes → Bytes
  | 0, _ => []
  | n + 1, p =>
    let c := p.take 244
    let last := p.length ≤ 244
    oldBlock type seq last false c ++ (if oldCopies type = 2 then oldBlock type seq last true c else []) ++
      (if last then [] else oldMessage type seq n (p.drop 244))

/-- The first symbols of a lane in a tick: K28.5, the lane's number and TICK bits 15:0 (R318). -/
def laneHead (t : Tick) (lane : Nat) : List Nat := [0x1BC, lane, t.toNat / 256 % 256, t.toNat % 256]

/-- The lane and the symbol that carry byte `i` of a tick's stream (R318). -/
def laneOf (i : Nat) : Nat × Nat := (i % 8, 4 + i / 8)

/-- Block slots of a tick; each lasts 25.6 ns, and the first follows the four head symbols. -/
def oldSlots : Nat := 4882

/-- The first slot that begins at or after a clock of 0.625 ns. -/
def slotAt (clk : Nat) : Nat := cdiv (625 * clk - 3200) 25600

/-- A tick begins on the lanes: their heads leave, and the slots are free but for what the last tick left over (R318). -/
def oldTick (s : State) : State :=
  let s1 := { s with twin := { s.twin with slot := s.twin.slot - oldSlots } }
  if oldRuns s && oldLoopMode s == 0 then emit (.oldunHead ((List.range 8).map (laneHead (now s)))) s1 else s1

/-- The slot at which a message of `n` blocks begins, which it then takes (R319): the state copy takes what the others leave. -/
def takeSlots (type n : Nat) (s : State) : Option Nat × State :=
  if type = 9 then (none, s)
  else
    let k := max s.twin.slot (slotAt s.time.clk)
    (some k, { s with twin := { s.twin with slot := k + n } })

/-- Send a message of a TYPE over a running link. Under a near-end loop it reaches no pin; under the far-end one it is not sent
(R321). DEDUCED, unsafe (log entry 60). -/
def oldSend (type : Nat) (p : Bytes) (s : State) : State :=
  if !oldRuns s || oldLoopMode s == 3 then s
  else
    let seq := s.twin.seqNo.getD type 0
    let b := oldMessage type seq (p.length / 244 + 1) p
    let s1 := { s with twin := { s.twin with seqNo := s.twin.seqNo.set type ((seq + 1) % 2 ^ 32) } }
    let k := takeSlots type (b.length / 256) (bump (pg .old) 0x200 (b.length / 256) s1)
    if oldNear s then bump (pg .old) 0x208 (b.length / 256) k.2 else emit (.oldun k.1 type b) k.2

/-- Whether a received block is good: its CRC and its TYPE (R319). -/
def blockGood (b : Bytes) : Bool :=
  b.length == 256 && beAt b 252 4 == crc32c 0xFFFFFFFF (b.take 252) && decide ((byteAt b 0).toNat < 10) && decide (beAt b 2 2 ≤ 244)

/-- The received blocks of a message, 256 bytes each. -/
def oldBlocks : Nat → Bytes → List Bytes
  | 0, _ => []
  | n + 1, bs => if bs.isEmpty then [] else bs.take 256 :: oldBlocks n (bs.drop 256)

/-- Count one received block: a bad one in BLOCK_ERR, and one that was to carry the state copy in STATE_BLOCK_ERR as well (R319).
DESIGN CHOICE, unsafe (log entry 57). -/
def countBlock (type : Nat) (s : State) (b : Bytes) : State :=
  let s1 := bump (pg .old) 0x208 1 s
  if blockGood b then s1
  else event (pg .old) 1 (bump (pg .old) 0x238 (b2n (type = 9)) (bump (pg .old) 0x210 1 s1))

/-- The valid payload of a block. -/
def blockPayload (b : Bytes) : Bytes := (b.drop 8).take (beAt b 2 2)

/-- Put a message together from its blocks in pairs of copies: the first good one of each pair is used. -/
def joinPairs : Nat → List Bytes → State → Option Bytes × State
  | 0, _, s => (some [], s)
  | n + 1, l, s =>
    match l with
    | [] => (some [], s)
    | a :: r =>
      let b := r.headD []
      let q := joinPairs n (r.drop 1) (if blockGood a then s else bump (pg .old) (if blockGood b then 0x220 else 0x228) 1 s)
      if blockGood a then (q.1.map (fun p => blockPayload a ++ p), q.2)
      else if blockGood b then (q.1.map (fun p => blockPayload b ++ p), q.2)
      else (none, q.2)

/-- The payload of a received message of a TYPE; `none` when the link does not run or its pins are ignored, the TYPE is another
or a block is lost. Under the far-end loop what is received goes out as well (R321).
DEDUCED, unsafe (log entry 60). -/
def oldReceive (type : Nat) (bytes : Bytes) (s : State) : Option Bytes × State :=
  if !oldRuns s || oldNear s then (none, s)
  else
    let l := oldBlocks (bytes.length / 256 + 1) bytes
    let s1 := l.foldl (countBlock type) (if oldLoopMode s = 3 then emit (.oldun none type bytes) s else s)
    let right := l.all (fun b => !blockGood b || (byteAt b 0).toNat == type)
    if !right || l.isEmpty then (none, s1)
    else if oldCopies type = 1 then
      (if l.all blockGood then some (l.flatMap blockPayload) else none, s1)
    else joinPairs (l.length + 1) l s1

/-- OLDUN_SYNC_CHANGE: the clock, the lanes in synchronisation, deskew and the skew in symbols change (R317), and the code errors
met with the change are counted (R318). Without all of them no heartbeat can arrive. DESIGN CHOICE, unsafe (log entry 33). -/
def oldSyncChange (clk : Bool) (lanes : Nat) (desk : Bool) (skew errs : Nat) (s : State) : State :=
  if !oldRuns s then s
  else bump (pg .old) 0x218 errs
    { s with twin := { s.twin with clkOk := clk, lanes := lanes, deskewed := desk, skewSym := skew,
                                   hbRun := if clk && lanes == 0xFF && desk then s.twin.hbRun else 0 } }

/-- A write of OLD_LOOP sets SYNC to 0 until R317 holds again. -/
def oldSyncLost (s : State) : State :=
  { s with twin := { s.twin with clkOk := false, lanes := 0, deskewed := false, skewSym := 0, hbRun := 0 } }

end Sys2Proof.Machine
end

