-- ==== Sys2Proof/Machine/Tables.lean ====
section
/-! DEFINITION. The Gazetteer and the Contour as tables: hashing, lookup, placement, relocation and the order of
positions (R117, R122-R125, R127, R129, R139). -/

namespace Sys2Proof.Machine

/-! ### Gazetteer -/

/-- A Gazetteer image: slots by number. -/
abbrev GazTab := Sparse (Option GazEntry)

/-- The entry in a slot. -/
def slotGet (t : GazTab) (n : Nat) : Option GazEntry := spGet none t n

/-- Write a slot. -/
def slotSet (t : GazTab) (n : Nat) (e : Option GazEntry) : GazTab := spSet none t n e

/-- The match string of 17 bytes (R122). -/
def matchStr (kind port key : Nat) : Bytes := by8 (kind * 16 + port) :: beBytes 16 key

/-- hi(m): bits 17:0 of the seeded CRC-32C of the match string (R122). -/
def gazHash (seed : Word) (kind port key : Nat) : Nat := crc32c seed.toNat (matchStr kind port key) % 2 ^ 18

/-- The four slots of a bucket, ways in order (R122). -/
def bucketSlots (table bucket : Nat) : List Nat := (List.range 4).map (fun w => table * 2 ^ 20 + bucket * 4 + w)

/-- The slots of both candidate buckets: h0 ways 0-3, then h1 ways 0-3. -/
def candidates (s0 s1 : Word) (kind port key : Nat) : List Nat :=
  bucketSlots 0 (gazHash s0 kind port key) ++ bucketSlots 1 (gazHash s1 kind port key)

/-- Whether an entry carries a match string. -/
def GazEntry.has (e : GazEntry) (kind port key : Nat) : Bool := e.kind == kind && e.port == port && e.key == key

/-- A lookup: the first candidate slot whose entry carries the string (R123). -/
def gazFind (t : GazTab) (s0 s1 : Word) (kind port key : Nat) : Option (Nat × GazEntry) :=
  (candidates s0 s1 kind port key).findSome? (fun n =>
    match slotGet t n with
    | some e => if e.has kind port key then some (n, e) else none
    | none => none)

/-- The other candidate bucket's slots of the entry in slot `n` (R124). -/
def otherSlots (t : GazTab) (s0 s1 : Word) (n : Nat) : List Nat :=
  match slotGet t n with
  | some e =>
    if n < 2 ^ 20 then bucketSlots 1 (gazHash s1 e.kind e.port e.key) else bucketSlots 0 (gazHash s0 e.kind e.port e.key)
  | none => []

/-- The search's state while one depth is expanded: the path found, or the slots visited and the paths queued. -/
structure Search where
  found : Option (List Nat)
  visited : List Nat
  next : List (List Nat)

/-- Look at one way while expanding a path (R124): free ends the search, an unvisited full way is queued. -/
def searchWay (t : GazTab) (path : List Nat) (z : Search) (w : Nat) : Search :=
  match z.found with
  | some _ => z
  | none =>
    if (slotGet t w).isNone then { z with found := some (w :: path) }
    else if z.visited.contains w then z
    else { z with visited := w :: z.visited, next := z.next ++ [w :: path] }

/-- Expand one path: the ways of the other bucket of the entry at its end. -/
def searchSlot (t : GazTab) (s0 s1 : Word) (z : Search) (path : List Nat) : Search :=
  match z.found, path with
  | some _, _ => z
  | none, [] => z
  | none, n :: _ => (otherSlots t s0 s1 n).foldl (searchWay t path) z

/-- Breadth-first search for a relocation path of at most `d` more moves (R124). Paths end at their first slot. -/
def relocSearch (t : GazTab) (s0 s1 : Word) : Nat → List (List Nat) → List Nat → Option (List Nat)
  | 0, _, _ => none
  | d + 1, front, vis =>
    let z := front.foldl (searchSlot t s0 s1) { found := none, visited := vis, next := [] }
    match z.found with
    | some p => some p
    | none => if z.next.isEmpty then none else relocSearch t s0 s1 d z.next z.visited

/-- Make the moves of a path from its far end back, and free its first-depth slot (R124, R125). -/
def relocate (t : GazTab) : List Nat → GazTab
  | dst :: src :: r => relocate (slotSet (slotSet t dst (slotGet t src)) src none) (src :: r)
  | _ => t

/-- Place a new entry (R124): the image after it and the moves made; `none` when no path exists. -/
def gazPlace (t : GazTab) (s0 s1 : Word) (e : GazEntry) : Option (GazTab × Nat) :=
  let c := candidates s0 s1 e.kind e.port e.key
  match c.find? (fun n => (slotGet t n).isNone) with
  | some n => some (slotSet t n (some e), 0)
  | none =>
    match relocSearch t s0 s1 8 (c.map (fun n => [n])) c with
    | some p => some (slotSet (relocate t p) (p.getLastD 0) (some e), p.length - 1)
    | none => none

/-- The valid entries and the learned entries of an image (GAZ_COUNT, GAZ_DYN_COUNT). -/
def gazCount (t : GazTab) : Nat := t.length
def gazDynCount (t : GazTab) : Nat := t.countP (fun e => match e.2 with | some x => x.dyn | none => false)

/-- The learned entries of a plain port. -/
def learnedCount (t : GazTab) (port : Nat) : Nat :=
  t.countP (fun e => match e.2 with | some x => x.dyn && x.port == port | none => false)

/-- The word GAZ_RD_DATA5 of a slot. -/
def gazData5 (e : Option GazEntry) : Nat :=
  match e with
  | some x => 2 ^ 31 + b2n x.dyn * 2 ^ 30 + b2n x.age * 2 ^ 29 + b2n x.hit * 2 ^ 28 + b2n x.stale * 2 ^ 27 + x.action * 2 ^ 25 +
      x.cls * 2 ^ 23 + x.sa
  | none => 0

/-- The check code of a slot's contents, HIT and STALE taken as 0 (R139). -/
def slotCheck (n : Nat) (e : Option GazEntry) : Nat :=
  let m := match e with
    | some x => matchStr x.kind x.port x.key
    | none => zeros 17
  let d := gazData5 (e.map (fun x => { x with hit := false, stale := false }))
  crc16 (beBytes 3 n ++ m ++ beBytes 4 d)

/-- The key bits a kind uses (R117). -/
def keyMask : Nat → Nat
  | 0x1 => 2 ^ 60 - 1 | 0x2 => 2 ^ 44 - 1 | 0x3 => 2 ^ 128 - 1 | 0x4 => 2 ^ 24 - 1 | 0x8 => 2 ^ 66 - 1 | 0x9 => 2 ^ 38 - 1
  | _ => 0

/-- Valid kinds, and receive kinds (R117). -/
def validKind (k : Nat) : Bool := k == 1 || k == 2 || k == 3 || k == 4 || k == 8 || k == 9
def rxKind (k : Nat) : Bool := k == 8 || k == 9

/-! ### Contour -/

/-- Whether a key matches an entry (R127). -/
def conMatches (key : Nat) (e : ConEntry) : Bool := (key ^^^ e.value) &&& e.mask == 0

/-- A Contour lookup: positions stand in descending PRIO, so the first match is the one of highest PRIO (R127, R129). -/
def conFind (t : List ConEntry) (key : Nat) : Option ConEntry := t.find? (conMatches key)

/-- Whether two entries overlap (R128). -/
def conOverlap (a b : ConEntry) : Bool := ((a.value ^^^ b.value) &&& a.mask &&& b.mask) == 0

/-- The entries of priority `p`. -/
def conGroup (t : List ConEntry) (p : Nat) : List ConEntry := t.filter (fun e => e.prio == p)

/-- The priorities below `p` that hold entries, highest first. -/
def prioBelow (t : List ConEntry) (p : Nat) : List Nat := ((List.range p).reverse).filter (fun q => !(conGroup t q).isEmpty)

/-- Turn a group: its first entry goes behind its last (ADD), or its last before its first (DELETE) (R129). -/
def rotUp : List ConEntry → List ConEntry
  | [] => []
  | a :: r => r ++ [a]
def rotDown (l : List ConEntry) : List ConEntry :=
  match l.getLast? with
  | some a => a :: l.dropLast
  | none => []

/-- Insert an entry at the end of its group; each lower non-empty group moves its first entry behind its last (R129).
Answers the entries by position and the moves made. -/
def conInsert (t : List ConEntry) (e : ConEntry) : List ConEntry × Nat :=
  let low := prioBelow t e.prio
  (t.filter (fun x => e.prio ≤ x.prio) ++ [e] ++ low.flatMap (fun q => rotUp (conGroup t q)), low.length)

/-- Delete an entry: the last of its group fills the hole, and each lower non-empty group moves its last entry before its
first (R129). -/
def conDelete (t : List ConEntry) (e : ConEntry) : List ConEntry × Nat :=
  let g := conGroup t e.prio
  let last := g.getLastD e
  let g' := if last = e then g.dropLast else (g.dropLast).map (fun x => if x = e then last else x)
  let low := prioBelow t e.prio
  (t.filter (fun x => e.prio < x.prio) ++ g' ++ low.flatMap (fun q => rotDown (conGroup t q)), low.length + (if last = e then 0 else 1))

/-- Whether an entry has a value, mask and priority (R128). -/
def ConEntry.named (e : ConEntry) (value mask prio : Nat) : Bool := e.value == value && e.mask == mask && e.prio == prio

/-- The number of 1 bits in mask[127:0] (PRIO_AUTO, R127). -/
def onesIn (m : Nat) : Nat := (List.range 128).countP (fun i => m.testBit i)

end Sys2Proof.Machine
end

