-- ==== Sys2Proof/Machine/Rx.lean ====
section
/-! DEFINITION. Reception (R7-R13): the MAC, the parser and the clear-pass list, classification on both sides, R-TAG
elimination, the sequence point and the launch instant, up to admission. -/

namespace Sys2Proof.Machine

/-! ### The parser (R110, R117, R118) -/

/-- What the parser and classification make of a frame. -/
inductive Cls
  | drop (reason : Nat) (sa cls : Nat)
  | agent (n : Nat)
  | clear (dest cls : Nat)
  | sa (i cls : Nat)
  | unknown
deriving DecidableEq, Repr

/-- Bytes that must have arrived to know a frame's EtherType (R110). -/
def hdrNeed (f : Bytes) : Nat :=
  if isTpid (beAt f 12 2) then (if isTpid (beAt f 16 2) then 22 else 18) else 14

/-- Whether a frame has its EtherType. -/
def hasType (f : Bytes) : Bool := decide (14 ≤ f.length) && decide (hdrNeed f ≤ f.length)

/-- Steps 1 to 3 of R110. -/
def clearPass (s : State) (side : Side) (port : Nat) (f : Bytes) : Option Cls :=
  let page := portPage side port
  let et := etherType f
  if et = 0x888E then some (.agent 0)
  else if et = 0x88F7 && bit (cfgReg s (ra page 0x108)) 2 then some (.agent 1)
  else (List.range 8).findSome? (fun i =>
    let r := cfgReg s (ra page (0x140 + 4 * i))
    if bit r 31 && fld r 15 0 == et then some (.clear (fld r 27 24) (fld r 29 28)) else none)

/-- GAZ_LADDR n as 16 bytes, and the first enabled one equal to an address (R119). -/
def laddr (s : State) (n : Nat) : Bytes :=
  ([3, 2, 1, 0] : List Nat).flatMap (fun w => beBytes 4 (cfgReg s (ra (pg .gaz) (0x800 + 16 * n + 4 * w))).toNat)
def laddrEn (s : State) (n : Nat) : Bool := bit (cfgReg s (ra (pg .gaz) (0xC00 + 4 * (n / 32)))) (n % 32)
def localIdx (s : State) (a : Bytes) : Option Nat := (List.range 64).find? (fun n => laddrEn s n && laddr s n == a)

/-- Whether a UDP datagram is IKE by its destination port (R120). -/
def ikePort (i : IpInfo) (f : Bytes) : Bool :=
  !i.frag && i.proto == 17 && (udpDst i f == 500 || (udpDst i f == 4500 && udpWord i f == 0))

/-- R120 on a frame: the port it goes to. -/
def ikeTo (s : State) (side : Side) (f : Bytes) : Option Nat :=
  let r := cfgReg s (ra (pg .gaz) 0x11C)
  if !bit r 31 then none
  else match ipInfo f with
    | some i =>
      let a := match side with
        | .plain => i.src
        | .line => i.dst
      if ikePort i f && (localIdx s a).isSome then some (match side with | .plain => fld r 19 16 | .line => fld r 27 24) else none
    | none => none

/-! ### Classification on the plain side (R117, R123, R127, R130) -/

/-- The Gazetteer key of a kind, if the frame can form it (R117, R118). -/
def gazKey (kind : Nat) (f : Bytes) : Option Nat :=
  if kind = 1 then some (outerVid f * 2 ^ 48 + beAt f 0 6)
  else if kind = 4 then (if tagsOf f 2 12 = 2 then some (outerVid f * 2 ^ 12 + innerVid f) else none)
  else match ipInfo f with
    | some i =>
      if kind = 2 && !i.v6 then some (outerVid f * 2 ^ 32 + beNat (i.dst.drop 12))
      else if kind = 3 && i.v6 then some (beNat i.dst)
      else none
    | none => none

/-- The Contour key (R117). -/
def conKey (port : Nat) (f : Bytes) : Nat :=
  let base := port * 2 ^ 152 + outerVid f * 2 ^ 140
  match ipInfo f with
  | some i => if i.v6 then 3 * 2 ^ 156 + base + beNat i.dst else 2 * 2 ^ 156 + base + beNat (i.dst.drop 12)
  | none => base

/-- A frame whose tags or IPv4 header make it fail to parse (R118). -/
def parseBad (f : Bytes) : Bool :=
  (tagsOf f 3 12 == 3) ||
  (match ipInfo f with
   | some i => !i.v6 && decide (i.off < f.length) && ((byteAt f i.off).toNat / 16 != 4 || decide (i.hdr < 20))
   | none => false)

/-- Whether a frame ends before the last byte of its IP destination. -/
def ipShort (f : Bytes) : Bool :=
  match ipInfo f with
  | some i => decide (f.length < i.off + (if i.v6 then 40 else 20))
  | none => false

/-- Set HIT on the entry of a match string in the working image (R136). -/
def markHit (kind port key : Nat) (s : State) : State :=
  let s0 := getReg s (ra (pg .gaz) 0x100)
  let s1 := getReg s (ra (pg .gaz) 0x104)
  match gazFind s.gaz.work s0 s1 kind port key with
  | some (n, e) => if e.hit then s else { s with gaz := { s.gaz with work := slotSet s.gaz.work n (some { e with hit := true }) } }
  | none => s

/-- A Gazetteer lookup of the data path (R121, R123), counted; a hit in the encrypt direction sets HIT. -/
def gazLookup (enc : Bool) (kind port key : Nat) (s : State) : Option GazEntry × State :=
  let s1 := bump (pg .gaz) 0x200 1 s
  match gazFind s.gaz.path s.gaz.pathSeed0 s.gaz.pathSeed1 kind port key with
  | some (_, e) => (some e, bump (pg .gaz) 0x208 1 (if enc then markHit kind port key s1 else s1))
  | none => (none, bump (pg .gaz) 0x210 1 s1)

/-- A Contour lookup of the data path. -/
def conLookup (key : Nat) (s : State) : Option ConEntry × State :=
  let s1 := bump (pg .con) 0x200 1 s
  match conFind s.con.path key with
  | some e => (some e, bump (pg .con) 0x208 1 s1)
  | none => (none, s1)

/-- The outcome of a result on the plain side (R130). -/
def plainResult (group action cls sa : Nat) : Cls :=
  if action = 1 then .drop 0x06 0 cls else if action = 2 then .sa group cls else if action = 0 then .sa sa cls else .drop 0x08 sa cls

/-- Classification of a plain frame by its port's profile (R117, R118, R130); one cut short whose bytes do not hold the key that it
needs next is unknown (R9, R98). -/
def classifyPlain (port : Nat) (f : Bytes) (cut : Bool) (s : State) : Cls × State :=
  let r := cfgReg s (ra (pg .gaz) (0x180 + 4 * port))
  let order := fld r 31 30
  let kind := fld r 29 26
  let group := fld r 20 0
  let miss : Cls := if fld r 25 24 = 1 then .sa group 2 else .drop 0x07 0 3
  let ipKind := kind == 2 || kind == 3
  let short : Cls := if cut then .unknown else .drop 0x01 0 3
  if order != 1 && ipKind && ipShort f && (gazKey kind f).isSome then (short, s)
  else
    let g : Option GazEntry × State := if order = 1 then (none, s) else match gazKey kind f with
      | some k => gazLookup true kind port k s
      | none => (none, bump (pg .gaz) 0x210 1 (bump (pg .gaz) 0x200 1 s))
    match g.1 with
    | some e => (plainResult group e.action e.cls e.sa, g.2)
    | none =>
      if order = 0 then (miss, g.2)
      else if ipShort f then (short, g.2)
      else
        let c := conLookup (conKey port f) g.2
        match c.1 with
        | some e => (plainResult group e.action e.cls e.sa, c.2)
        | none => (miss, c.2)

/-- Whether the bytes of a frame that is still arriving tell whether it is IKE (R9, R98, R120). -/
def ikeHere (s : State) (f : Bytes) : Bool :=
  !bit (cfgReg s (ra (pg .gaz) 0x11C)) 31 ||
    (match ipInfo f with
     | some i => !ipShort f && (i.proto != 17 || decide (i.off + i.hdr + 12 ≤ f.length))
     | none => true)

/-- The whole parse of a plain frame: R110, the frames that fail to parse, R120, then classification. -/
def parsePlain (port : Nat) (f : Bytes) (cut : Bool) (s : State) : Cls × State :=
  if cut && !hasType f then (.unknown, s)
  else match clearPass s .plain port f with
    | some c => (c, s)
    | none =>
      if parseBad f then (.drop 0x01 0 3, s)
      else if cut && !ikeHere s f then (.unknown, s)
      else match ikeTo s .plain f with
        | some d => (.clear d 1, s)
        | none => classifyPlain port f cut s

/-! ### Classification on the line side (R119) -/

/-- The receive key of a line frame: the Gazetteer kind and key, or the reason it ends. -/
def lineKey (s : State) (f : Bytes) : Sum Nat (Nat × Nat) :=
  if beAt f 12 2 = 0x88E5 then
    let t := readSecTag f
    if t.tci.getLsbD 7 then .inl 0x01 else .inr (8, t.an * 2 ^ 64 + beNat t.sci)
  else match ipInfo f with
    | none => .inl 0x0A
    | some i =>
      let fragEsp := i.frag && (i.proto == 50 || (i.proto == 17 && i.fragOff == 0 && udpDst i f == 4500))
      if fragEsp || (i.v6 && extThenEsp f 16 i.proto (i.off + 40)) then .inl 0x01
      else match espKind i f with
        | none => .inl 0x0A
        | some udp =>
          match localIdx s i.dst with
          | none => .inl 0x09
          | some n => .inr (9, n * 2 ^ 32 + beAt f (espStart i udp) 4)

/-- Whether a twin-merged MACsec SA knows the frame's SCI (R163). -/
def sciKnown (r : List Word) (f : Bytes) : Bool :=
  !recMerged r || !isMacsec (recSuite r) || beAt f 12 2 != 0x88E5 ||
    (readSecTag f).sci == recSciA r || (readSecTag f).sci == recSciB r

/-- The receive SA lookup of a line frame (R119, R149, R163, R234). -/
def classifyLine (f : Bytes) (s : State) : Cls × State :=
  match lineKey s f with
  | .inl r => (.drop r 0 3, s)
  | .inr k =>
    let g := gazLookup false k.1 0 k.2 s
    match g.1 with
    | none => (.drop 0x0B 0 3, g.2)
    | some e =>
      let a := saOf s e.sa
      if e.action != 3 || a.st = 0 || a.dir != 1 || !saUsable s a || !sciKnown a.record f then (.drop 0x0B e.sa 3, g.2)
      else if a.closed then (.drop 0x47 e.sa (recCls a.record), bump (pg .ecl) 0x228 1 (saCount e.sa 4 1 g.2))
      else if a.st = 2 && a.faultSeq then (.drop 0x0D e.sa (recCls a.record), g.2)
      else (.sa e.sa (recCls a.record), g.2)

/-- The whole parse of a line frame. -/
def parseLine (port : Nat) (f : Bytes) (s : State) : Cls × State :=
  match clearPass s .line port f with
  | some c => (c, s)
  | none =>
    match ikeTo s .line f with
    | some d => (.clear d 1, s)
    | none => classifyLine f s

/-! ### The launch instant (R251, R252) -/

/-- The enabled TRN entry that names an SA and its line port, with the frame Polar and EN = 1. -/
def trnEntry (s : State) (sa line : Nat) : Option Nat :=
  if !bit (cfgReg s (ra (pg .trn) 0x100)) 31 then none
  else (List.range 256).find? (fun n =>
    let a := cfgReg s (ra (pg .trn) (0x400 + 8 * n))
    bit a 31 && fld a 20 0 == sa && fld a 24 21 == line)

/-- The frames in a launch queue. -/
def launchQueue (s : State) (n : Nat) : List Frame :=
  s.frames.list.filter (fun f => (match f.launch with | some l => l.1 == n | none => false) && f.stage != .emitting)

/-- The first instant at or after Meridian time `t` of ticks with T mod `per` = `ph`, `ofs` ns after their boundary. -/
def firstInstant (per ph ofs t : Nat) : Nat :=
  let k := cdiv (t - ofs * nsUnit) tickUnit
  (k + (per + ph - k % per) % per) * tickUnit + ofs * nsUnit

/-- The instant a timed frame takes at its sequence point: the first that no earlier frame of the entry has taken (R252). -/
def takeInstant (s : State) (n : Nat) : Nat :=
  let a := cfgReg s (ra (pg .trn) (0x400 + 8 * n))
  let b := cfgReg s (ra (pg .trn) (0x404 + 8 * n))
  let per := 2 ^ fld a 29 28
  let t := s.time.mer + cfgFld s (ra (pg .trn) 0x100) 15 0 * nsUnit
  let first := firstInstant per (fld a 27 25) (fld b 16 0) t
  let taken := (s.frames.taken.filter (fun x => x.1 == n)).map (·.2)
  ((List.range (taken.length + 1)).map (fun i => first + i * per * tickUnit)).find? (fun x => !taken.contains x) |>.getD first

/-! ### The sequence point (R8, R130, R214, R231) -/

/-- Whether an enabled transmit bundle claims an SA (R290). -/
def claimed (s : State) (i : Nat) : Bool :=
  s.buns.any (fun b => b.2.active && !bit (b.2.cfg.getD 0 0) 30 && fld (b.2.cfg.getD 0 0) 20 0 == i)

/-- The SA that carries frames classified to `i`: its successor once it is eclipsed. -/
def carrier (s : State) (i : Nat) : Nat := (eclSuccessor s i).getD i

/-- Whether an SA may carry a frame of a plain port (R130, R159, R290). -/
def sourceOk (s : State) (i port : Nat) : Bool :=
  let e := saOf s i
  e.st != 0 && e.dir == 0 && saUsable s e && recPlain e.record == port && !claimed s i

/-- A frame that holds an SA and has its field joins the device's frames; a Polar frame under a TRN entry takes its
launch instant, and one that finds its launch queue full is discarded (R252). -/
def enterFrame (f : Frame) (s : State) : Nat × State :=
  let id := s.frames.nextId
  let line := recLine (saOf s f.sa).record
  let t := if f.cls = 0 && f.dir == .enc && f.kind == .sa then trnEntry s f.sa line else none
  match t with
  | some n =>
    if 8 ≤ (launchQueue s n).length then
      let s1 := addFrame f s
      (id, event (pg .trn) 2 (bump (pg .trn) 0x218 1 (discard { f with id := id } 0x29 s1)))
    else
      let i := takeInstant s n
      let kept := s.frames.taken.filter (fun x => decide (s.time.mer ≤ x.2))
      (id, addFrame { f with launch := some (n, i) } { s with frames := { s.frames with taken := kept ++ [(n, i)] } })
  | none => (id, addFrame f s)

/-- A frame is refused its reservation, or keeps one of 9 cells in the Polar reserve only as a Polar frame of at most 9
cells (R103, R247). -/
def bufferBad (g : Grant) (f : Frame) : Bool :=
  g == .refused || (g == .reserve && (f.cls != 0 || decide (9 < cellsOf (frameLen f))))

/-- The cells a frame has reserved, or holds once it has been received; none if it was refused (R102, R103, R247). -/
def withCells (side : Side) (g : Grant) (f : Frame) : Frame :=
  { f with cells := if g == .refused then 0 else if inRx f then (if g == .reserve then 9 else maxCells side) else cellsOf (frameLen f),
           inReserve := g == .reserve }

/-- A frame in the list is refused a buffer: discarded at admission (R103). -/
def noBuffer (side : Side) (port id : Nat) (s : State) : State :=
  match frameOf s id with
  | some f => event (portPage side port) 3 (portBump side port 0x230 1 (discard f 0x20 s))
  | none => s

/-- From the sequence point or lookup to admission: the buffer is checked, then the frame is admitted, or it waits; a
frame still in reception goes on in the encrypt direction only. -/
def toAdmission (side : Side) (g : Grant) (f : Frame) (s : State) : State :=
  let r := enterFrame (withCells side g f) s
  match frameOf r.2 r.1 with
  | none => r.2
  | some f1 =>
    let s1 := if f1.field.isSome then digestAdd f1 r.2 else r.2
    if bufferBad g f1 then noBuffer side f1.port r.1 s1
    else
      let s2 := if side == .plain then pfcCheck f1.port s1 else s1
      reachAdmission r.1 s2

/-- Stage 4: the frame draws its field, or ends before the sequence point (R11, R130, R149, R214). -/
def sequencePoint (f : Frame) (g : Grant) (i cls : Nat) (s : State) : State :=
  let c := carrier s i
  let f1 := { f with kind := .sa, sa := c, cls := cls }
  if (saOf s i).st = 0 || claimed s i || !sourceOk s c f.port then reject { f1 with sa := i } 0x08 s
  else if (saOf s c).st = 2 && (saOf s c).faultSeq then reject f1 0x0D s
  else
    let d := seqDraw c s
    match d.1 with
    | none => reject f1 0x0C d.2
    | some n =>
      let e := saOf d.2 c
      let s1 := if c = i then d.2 else bump (pg .ecl) 0x220 1 d.2
      let t := tagSelect (pg .gaz) 1 { f1 with field := some n, gen := e.gen, dest := recLine e.record } s1
      toAdmission .plain g (tagPointAt t.2 2 t.1) t.2

/-! ### Reception -/

/-- Whether the MAC of a port admits frames: the port is enabled and up, no far-end loopback, and the mode delivers frames
or control frames (R34, R35, R54, R96, R114). -/
def macOpen (s : State) (side : Side) (port : Nat) : Bool :=
  portOn s side port && (portOf s side port).ingUp && (traffic s || controlOnly s) &&
    regFld s (ra (portPage side port) 0x120) 1 0 != 3

/-- A frame discarded at the MAC (R36). -/
def notAdmitted (side : Side) (port : Nat) (s : State) : State := portBump side port 0x228 1 s

/-- A MAC control frame is counted and discarded at the MAC (R106); in the modes of R34 it is among the frames that R36 counts. -/
def macControl (side : Side) (port : Nat) (s : State) : State :=
  let s1 := portBump side port 0x240 1 s
  if controlOnly s then notAdmitted side port s1 else s1

/-- A byte of the PTP header of a frame of EtherType 0x88F7, and the message type. PRESUMED, unsafe (log entry 39). -/
def ptpByte (f : Bytes) (n : Nat) : Nat := (byteAt f (etOff f + 2 + n)).toNat
def ptpType (f : Bytes) : Nat := ptpByte f 0 % 16

/-- A message of the one PTP domain that the device supports, MER_CTRL.DOMAIN, in version 2 (R345). -/
def ptpOurs (s : State) (f : Bytes) : Bool :=
  ptpByte f 1 % 16 == 2 && ptpByte f 4 == regFld s (ra (pg .mer) 0x100) 23 16

/-- The TLV types behind `n` bytes of a message. -/
def ptpTlvs : Nat → Bytes → List Nat
  | 0, _ => []
  | k + 1, b => if b.length < 4 then [] else beAt b 0 2 :: ptpTlvs k (b.drop (4 + beAt b 2 2))

/-- A message of a part of IEEE 1588 that the device does not support (R345): a management message that sets or commands, a unicast
negotiation TLV, or a security TLV. PRESUMED, unsafe (log entry 39). -/
def ptpUnsupported (f : Bytes) : Bool :=
  let type := ptpType f
  let body := if type = 2 || type = 3 || type = 9 || type = 10 then 54 else if type = 11 then 64 else if type = 13 then 48 else 44
  let msg := f.drop (etOff f + 2)
  let tlvs := ptpTlvs msg.length ((msg.take (beAt msg 2 2)).drop body)
  (type == 13 && (ptpByte f 46 % 16 == 1 || ptpByte f 46 % 16 == 3)) || tlvs.contains 0x8009 || tlvs.contains 0x2000 ||
    (type == 12 && tlvs.any (fun x => decide (4 ≤ x) && decide (x ≤ 7)))

/-- What the PTP agent does with a message of its domain: an unsupported one is counted and discarded, a Sync counts in SYNC_RX, and the
ingress time of a Pdelay_Req is kept until it is answered, the newest 256 of them (R343, R345). DESIGN CHOICE, unsafe (log entry 99). -/
def ptpTake (side : Side) (port : Nat) (f : Bytes) (s : State) : State :=
  let key := slice f (etOff f + 22) 10 ++ slice f (etOff f + 32) 2
  if !ptpOurs s f then s
  else if ptpUnsupported f then { s with mer := { s.mer with unsupported := s.mer.unsupported + 1 } }
  else if ptpType f = 0 then bump (pg .mer) 0x300 1 s
  else if ptpType f = 2 then
    { s with mer := { s.mer with reqs := (s.mer.reqs ++ [(portNum side port, key, ingressAt s side port s.time.mer)]).drop (s.mer.reqs.length - 255) } }
  else s

/-- Whether this twin's MKA agent acts (R312). -/
def mkaActs (s : State) : Bool :=
  modeIn [.configure, .solo, .twinHold] s || (s.dev.mode == .twinEmit && s.dev.strap / 2 % 2 == 0)

/-- A frame delivered to an agent ends there (R11); in the twin modes the twin whose MKA agent does not act relays EAPOL to the one that
does (R312). A frame for the PTP agent carries its ingress timestamp (R343). -/
def toAgent (n : Nat) (side : Side) (port : Nat) (f : Bytes) (s : State) : State :=
  if n = 0 && twinMode s && !mkaActs s then
    oldSend 6 ([by8 2, by8 (match side with | .plain => 0 | .line => 1), by8 port] ++ f) s
  else if n = 1 then emit (.agent 1 side port f (some (ingressAt s side port s.time.mer / 2 ^ 31))) (ptpTake side port f s)
  else emit (.agent n side port f none) s

/-- Whether a control frame is for an agent. PRESUMED, unsafe (log entry 39). -/
def isControl (s : State) (side : Side) (port : Nat) (f : Bytes) : Bool :=
  match clearPass s side port f with
  | some (.agent _) => true
  | _ => false

/-- The counters of a received frame. -/
def rxCount (side : Side) (port len : Nat) (s : State) : State := portBump side port 0x208 len (portBump side port 0x200 1 s)

/-- A clear-passed frame, received with a good FCS (R111). -/
def clearFrame (side : Side) (dir : Dir) (f : Frame) (g : Grant) (dest cls : Nat) (s : State) : State :=
  let s1 := portBump side f.port 0x248 1 s
  toAdmission side g { f with kind := .clear, dest := dest, cls := cls, dir := dir } s1

/-- The longest frame of a side, with FCS. -/
def maxLen : Side → Nat
  | .plain => 16384
  | .line => 16512

/-- The history of a stream after number `n` (R310): duplicate or not, the highest, and the numbers seen below it. -/
def rtagStep (h : Option (Nat × Nat)) (n : Nat) : Bool × Nat × Nat :=
  match h with
  | none => (false, n, 0)
  | some (top, seen) =>
    let ahead := (n + 2 ^ 16 - top) % 2 ^ 16
    let below := (top + 2 ^ 16 - n) % 2 ^ 16
    if 1 ≤ ahead && ahead ≤ 32767 then
      (false, n, (if ahead ≤ 32 then (seen * 2 ^ ahead + 2 ^ (ahead - 1)) % 2 ^ 32 else 0))
    else if below = 0 then (true, top, seen)
    else if below ≤ 32 then
      if seen.testBit (below - 1) then (true, top, seen) else (false, top, seen + 2 ^ (below - 1))
    else (false, n, 0)

/-- R-TAG elimination at a plain port (R310): the frame without its R-TAG, or nothing for a duplicate. -/
def rtagElim (port : Nat) (f : Bytes) (s : State) : Option Bytes × State :=
  let o := etOff f
  if !(twinMode s && bit (cfgReg s (ra (pg .twn) 0x124)) port && etherType f == 0xF1C1) then (some f, s)
  else
    let vid := outerVid f
    let n := beAt f (o + 4) 2
    let old := s.twin.rtag.find? (fun h => h.1 == port && h.2.1 == vid)
    let r := rtagStep (old.map (fun h => h.2.2)) n
    let rest := s.twin.rtag.filter (fun h => !(h.1 == port && h.2.1 == vid))
    let s1 := { s with twin := { s.twin with rtag := (port, vid, r.2.1, r.2.2) :: rest } }
    if r.1 then (none, bump (pg .twn) 0x248 1 s1) else (some (f.take o ++ f.drop (o + 6)), s1)

/-- A frame whose first byte has arrived: whole by the line time of its length if it is good, else in reception until it has proved
bad (R15, R98). DESIGN CHOICE, unsafe (log entry 33). -/
def arriving (s : State) (dir : Dir) (port : Nat) (bytes : Bytes) (bad : Option Nat) (cut express : Bool) : Frame :=
  let open_ := !cut && bad.isNone
  { Frame.fresh dir port bytes s.time.mer (now s) with
    bad := bad, receiving := !open_, rxExpress := express, rxOpen := open_,
    rxEnd := s.time.mer + lineTime (portRate s (inSide dir) port) (bytes.length + 4) }

/-- A frame in reception that has no class yet, or that must be stored whole first: it waits with its reservation. -/
def holdRx (side : Side) (g : Grant) (f : Frame) (s : State) : State :=
  let s1 := (enterFrame (withCells side g { f with stage := .waiting }) s).2
  if side == .plain then pfcCheck f.port s1 else s1

/-- The plain frame passes the stages of R7 as far as they go on reception.
PRESUMED, unsafe (log entry 40). -/
def plainStages (port : Nat) (bytes : Bytes) (e : RxEnd) (express : Bool) (g : Grant) (s : State) : State :=
  let cut := e == .cut
  let tooLong := decide (16380 < bytes.length)
  let bad := if tooLong then some 0x04 else if e == .fcsErr then some 0x03 else none
  let t0 := tagSelect (portPage .plain port) 0 (arriving s .enc port bytes bad cut express) s
  let f := t0.1
  let s := t0.2
  if !cut && !tooLong && bytes.length < 60 then reject f 0x02 (portBump .plain port 0x218 1 s)
  else
    let s1 := if tooLong then portBump .plain port 0x220 1 s
      else if e == .fcsErr then portBump .plain port 0x210 1 s
      else if cut then s else rxCount .plain port (bytes.length + 4) s
    let c := parsePlain port bytes cut s1
    match c.1 with
    | .drop r sa cls => reject { f with sa := sa, cls := cls } r c.2
    | .sa i cls => sequencePoint f g i cls c.2
    | .unknown => holdRx .plain g f c.2
    | .agent n =>
      if cut then holdRx .plain g f c.2
      else match bad with
        | some r => reject f r c.2
        | none => toAgent n .plain port bytes c.2
    | .clear dest cls =>
      if cut then holdRx .plain g { f with kind := .clear, cls := cls, dest := dest } c.2
      else match bad with
        | some r => reject { f with kind := .clear, cls := cls } r c.2
        | none => clearFrame .plain .enc f g dest cls c.2

/-- A frame at the MAC of a plain port (R7, R34-R36, R96, R106, R310). -/
def plainMac (port : Nat) (bytes : Bytes) (e : RxEnd) (express : Bool) (s : State) : State :=
  if !portOn s .plain port then s
  else if !macOpen s .plain port then notAdmitted .plain port s
  else if etherType bytes = 0x8808 && hasType bytes then macControl .plain port s
  else
    let r := rtagElim port bytes s
    match r.1 with
    | none => notAdmitted .plain port r.2
    | some b =>
      if controlOnly r.2 && !(hasType b && isControl r.2 .plain port b) then notAdmitted .plain port r.2
      else
        let s1 := rxStart .plain port b.length express r.2
        plainStages port b e express (grant s1 .plain port express) s1

/-- A line frame that maps to a receive SA goes to admission. -/
def lineHold (f : Frame) (g : Grant) (i cls : Nat) (s : State) : State :=
  let e := saOf s i
  let t := tagSelect (pg .gaz) 1 { f with kind := .sa, sa := i, cls := cls, gen := e.gen, dest := recPlain e.record } s
  toAdmission .line g t.1 t.2

/-- The stages of a line frame received whole. PRESUMED, unsafe (log entry 40). -/
def lineStages (port : Nat) (bytes : Bytes) (e : RxEnd) (express : Bool) (g : Grant) (s : State) : State :=
  let t0 := tagSelect (portPage .line port) 0 (arriving s .dec port bytes none false express) s
  let f := t0.1
  let s := t0.2
  if 16508 < bytes.length then reject f 0x04 (portBump .line port 0x220 1 s)
  else if e == .fcsErr then reject f 0x03 (portBump .line port 0x210 1 s)
  else if bytes.length < 60 then reject f 0x02 (portBump .line port 0x218 1 s)
  else
    let c := parseLine port bytes (rxCount .line port (bytes.length + 4) s)
    match c.1 with
    | .drop r sa cls => reject { f with sa := sa, cls := cls } r c.2
    | .agent n => toAgent n .line port bytes c.2
    | .clear dest cls => clearFrame .line .dec f g dest cls c.2
    | .sa i cls => lineHold f g i cls c.2
    | .unknown => c.2

/-- A frame at the MAC of a line port (R12, R34-R36, R119). -/
def lineMac (port : Nat) (bytes : Bytes) (e : RxEnd) (express : Bool) (s : State) : State :=
  if !portOn s .line port then s
  else if !macOpen s .line port then notAdmitted .line port s
  else if etherType bytes = 0x8808 && hasType bytes then macControl .line port s
  else if controlOnly s && !(hasType bytes && isControl s .line port bytes) then notAdmitted .line port s
  else
    let s1 := rxStart .line port bytes.length express s
    let g := grant s1 .line port express
    if e == .cut then holdRx .line g (arriving s1 .dec port bytes none true express) s1
    else lineStages port bytes e express g s1

/-- A frame at the MAC of a port. -/
def received (side : Side) (port : Nat) (bytes : Bytes) (e : RxEnd) (express : Bool) (s : State) : State :=
  match side with
  | .plain => plainMac port bytes e express s
  | .line => lineMac port bytes e express s

/-! ### Egress emission that has ended -/

/-- A frame in emission whose last bit has left counts as emitted (R16, R167) and is released; in a near-end
loopback it returns to the port's own MAC (R114). -/
def finishTx (s : State) (f : Frame) : State :=
  let n := f.result.length + 4
  let out := outSide f.dir
  let ps := (emitPorts s f).filter (egOpen s out)
  let s1 := ps.foldl (fun s p =>
    portBump out p 0x258 n (portBump out p 0x250 1 (wire out p (f.result ++ fcsBytes f.result) s))) s
  let s2 := if f.kind == .sa || f.kind == .bundle then
      (if f.dir == .enc then saCount f.sa 1 f.bytes.length (saCount f.sa 0 1 s1) else s1) else s1
  let s3 := endTag f 0 (dropFrame f.id s2)
  let s4 := if f.dir == .enc && f.kind != .bundle then pfcCheck f.port s3 else s3
  (ps.filter (nearLoop s out)).foldl (fun s p => received out p f.result .good (f.cls == 0 && preemptActive s out p) s) s4

/-- Receptions and emissions that have ended by now. -/
def reap (s0 : State) : State :=
  let s := closeEnded s0.frames.list.length s0
  (s.frames.list.filter (txEnded s)).foldl finishTx s

/-- Let time pass to a clock and release what has left by then. DESIGN CHOICE, unsafe (log entry 15). -/
def frameTime (clk : Nat) (s : State) : State := reap (advanceTo clk s)

/-- What the FEC of the port counts of a reception (R95), while its ingress is declared up; a near-end loopback ignores the wire (R114).
DESIGN CHOICE, unsafe (log entry 94). -/
def fecCount (side : Side) (port : Nat) (e : RxEnd) (s : State) : State :=
  if portOn s side port && (portOf s side port).ingUp && !(nearLoop s side port) then
    match e with
    | .corrected cw sym => bump (portPage side port) 0x290 sym (bump (portPage side port) 0x280 cw s)
    | .uncorrectable cw => event (portPage side port) 2 (bump (portPage side port) 0x288 cw s)
    | _ => s
  else s

/-- The state in which a frame from the wire meets its port: its clock has come, and the FEC has counted. -/
def atPort (side : Side) (port clk : Nat) (e : RxEnd) (s : State) : State := fecCount side port e (frameTime clk s)

/-- A frame from the wire: a near-end loopback ignores it, a far-end one sends it out again (R114).
DESIGN CHOICE, unsafe (log entry 33). DEDUCED, unsafe (log entry 38). -/
def wireRx (side : Side) (port : Nat) (bytes : Bytes) (e : RxEnd) (express : Bool) (s : State) : State :=
  let mode := loopMode s side port
  if mode = 0 || !portOn s side port then received side port bytes e express s
  else if mode = 3 then received side port bytes e express (if idleMode s then s else emit (.returned side port bytes) s)
  else s

/-- PLAIN_FRAME_RX and LINE_FRAME_RX: a frame arrives at a port. DESIGN CHOICE, unsafe (log entry 33). -/
def plainRx (port clk : Nat) (bytes : Bytes) (e : RxEnd) (express : Bool) (s : State) : State :=
  wireRx .plain port bytes e.atMac express (atPort .plain port clk e s)
def lineRx (port clk : Nat) (bytes : Bytes) (e : RxEnd) (express : Bool) (s : State) : State :=
  wireRx .line port bytes e.atMac express (atPort .line port clk e s)

end Sys2Proof.Machine
end

