-- ==== Sys2Proof/Machine/Pm.lean ====
section
/-! DEFINITION. Performance monitoring (R302-R305): bins, threshold crossings, the classification of seconds, quarter-hours
and days, and the records in BAR2. -/

namespace Sys2Proof.Machine

/-! ### Tributaries and time -/

/-- A register of a framer's window, and its TRB_CFG at the last boundary. -/
def trbReg (t off : Nat) : Nat := ra (pg .trb (t / 16)) (0x100 + t % 16 * 0xF0 + off)
def trbOn (s : State) (t : Nat) : Bool := bit (cfgReg s (trbReg t 0)) 31
def trbType (s : State) (t : Nat) : Nat := cfgFld s (trbReg t 0) 29 28

/-- Framer `t`. -/
def tribOf (s : State) (t : Nat) : Trib := spGet Trib.init s.tribs t
def setTrib (t : Nat) (x : Trib) (s : State) : State := { s with tribs := spSet Trib.init s.tribs t x }
def modTrib (t : Nat) (f : Trib → Trib) (s : State) : State := setTrib t (f (tribOf s t)) s

/-- Bundle entry `b`. -/
def bunOf (s : State) (b : Nat) : Bun := spGet Bun.init s.buns b
def setBun (b : Nat) (x : Bun) (s : State) : State := { s with buns := spSet Bun.init s.buns b x }
def modBun (b : Nat) (f : Bun → Bun) (s : State) : State := setBun b (f (bunOf s b)) s

/-- UTC in whole seconds at a Meridian time, by the offset in effect (R302). -/
def utcSec (s : State) (mer : Nat) : Nat := ((mer / nsUnit / 1000000000 : Nat) - s.pmb.utcOff : Int).toNat

/-- The tick at which a UTC second begins. -/
def secTick (s : State) (sec : Nat) : Tick := wd (((sec : Int) + s.pmb.utcOff).toNat * 8000)

/-- Whether an entity is enabled: a framer, or a bundle. -/
def entOn (s : State) (e : Nat) : Bool := if e < 256 then trbOn s e else (bunOf s (e - 256)).active

/-! ### Bins -/

/-- The bins of a quarter-hour that is current or awaits its close, and of such a one's day. -/
def quarterBins (s : State) (q : Nat) : Sparse PmBin :=
  if q = s.pmb.qh then s.pmb.cur else ((s.pmb.closing.find? (fun c => c.q == q)).map (·.bins)).getD []
def dayBins (s : State) (d : Nat) : Sparse PmBin :=
  if d = s.pmb.qh / 96 then s.pmb.day else ((s.pmb.oldDays.find? (fun x => x.day == d)).map (·.bins)).getD []

/-- Change the bin of an entity among others. -/
def modBin (e : Nat) (f : PmBin → PmBin) (m : Sparse PmBin) : Sparse PmBin := spSet PmBin.init m e (f (spGet PmBin.init m e))

/-- Change an entity's bins of a quarter-hour and of its day. -/
def modBins (q e : Nat) (f : PmBin → PmBin) (s : State) : State :=
  let p := s.pmb
  let p1 := if q = p.qh then { p with cur := modBin e f p.cur }
    else { p with closing := p.closing.map (fun c => if c.q = q then { c with bins := modBin e f c.bins } else c) }
  { s with pmb := if q / 96 = p.qh / 96 then { p1 with day := modBin e f p1.day }
                  else { p1 with oldDays := p1.oldDays.map (fun x => if x.day = q / 96 then { x with bins := modBin e f x.bins } else x) } }

/-- A 32-bit saturating sum. DESIGN CHOICE, unsafe (log entry 56). -/
def sat32 (a n : Nat) : Nat := min (a + n) 0xFFFFFFFF

/-- Add to value `k` of a bin. -/
def binAdd (k n : Nat) (b : PmBin) : PmBin := { b with vals := b.vals.set k (sat32 (b.vals.getD k 0) n) }

/-- The value a threshold parameter compares (R305): 0 ES, 1 SES, 2 UAS, 3 slips, 4 lost, 5 substituted ticks. -/
def paramVal (p : Nat) (b : PmBin) : Nat :=
  if p = 3 then b.lo + b.hi else if p = 4 then b.vals.getD 1 0 else if p = 5 then b.vals.getD 3 0 else b.vals.getD p 0

/-- The threshold of a parameter for the quarter-hour or the day. -/
def threshold (s : State) (p : Nat) (day : Bool) : Nat :=
  let o := (if day then 0x14C else 0x140) + (if p < 2 then 0 else if p < 4 then 4 else 8)
  let r := getReg s (ra (pg .pmb) o)
  if p % 2 = 0 then fld r 31 16 else fld r 15 0

/-- One comparison (R305), in quarter-hour `q` or its day. -/
def tcaOne (q e : Nat) (s : State) (pd : Nat × Bool) : State :=
  let th := threshold s pd.1 pd.2
  let b := spGet PmBin.init (if pd.2 then dayBins s (q / 96) else quarterBins s q) e
  let key := (e, pd.1, pd.2, if pd.2 then q / 96 else q)
  if th = 0 || paramVal pd.1 b < th || s.pmb.crossed.contains key then s
  else
    let s1 := { s with pmb := { s.pmb with crossed := key :: s.pmb.crossed } }
    if s1.pmb.tca.length < 256 then
      { s1 with pmb := { s1.pmb with tca := s1.pmb.tca ++ [(wd (2 ^ 31 + b2n pd.2 * 2 ^ 30 + pd.1 * 2 ^ 26 + e), now s)] } }
    else event (pg .pmb) 2 (bump (pg .pmb) 0x208 1 s1)

/-- The thresholds that apply to an entity are compared with its bins, as they accrue. -/
def tcaCheck (q e : Nat) (s : State) : State :=
  let ps := if e < 256 then [(0, false), (1, false), (2, false), (3, false), (0, true), (1, true), (2, true), (3, true)]
    else [(4, false), (5, false), (4, true), (5, true)]
  ps.foldl (tcaOne q e) s

/-- An occurrence accrues in the current bins while PMB_CTRL.EN = 1. -/
def accrue (e : Nat) (f : PmBin → PmBin) (s : State) : State :=
  if bit (getReg s (ra (pg .pmb) 0x100)) 31 then tcaCheck s.pmb.qh e (modBins s.pmb.qh e f s) else s

/-- Count value `k` of an entity. -/
def pmAdd (e k n : Nat) (s : State) : State := if n = 0 then s else accrue e (binAdd k n) s

/-- An entity's configuration changes within the bins (R304); `en` says that it is enabled or disabled by it, so that it was not enabled
for the whole of a bin that has begun before this tick. DESIGN CHOICE, unsafe (log entry 56). -/
def pmChanged (e : Nat) (en : Bool) (s : State) : State :=
  let mark := fun (start : Tick) (b : PmBin) => { b with suspect := true, partialBin := b.partialBin || (en && start != now s) }
  { s with pmb := { s.pmb with cur := modBin e (mark (secTick s (s.pmb.qh * 900))) s.pmb.cur,
                               day := modBin e (mark (secTick s (s.pmb.qh / 96 * 86400))) s.pmb.day } }

/-- Every current bin is suspect: a Meridian step or a change of the offset (R304); the bins that a boot falls in are so from reset. -/
def pmSuspect (s : State) : State := { s with pmb := { s.pmb with susQ := true, susD := true } }

/-! ### Seconds (R303) -/

/-- Errored blocks that make a second severely errored. -/
def sesLimit (type : Nat) : Nat := if type = 0 then 300 else if type = 1 then 1200 else 100

/-- Whether a second is severely errored. -/
def isSes (type : Nat) (x : PmSec) : Bool := x.sf || decide (sesLimit type ≤ x.blocks)

/-- Add a tick's blocks to the second that holds it. -/
def secAdd (sec blocks : Nat) (sf : Bool) (l : List PmSec) : List PmSec :=
  match l.getLast? with
  | some x =>
    if x.sec = sec then l.dropLast ++ [{ x with blocks := x.blocks + blocks, sf := x.sf || sf }]
    else l ++ [{ sec := sec, blocks := blocks, sf := sf }]
  | none => [{ sec := sec, blocks := blocks, sf := sf }]

/-- The counts of one classified second: ES, SES, UAS, CV. -/
def secCounts (type : Nat) (unavail : Bool) (x : PmSec) : List Nat :=
  if unavail then [0, 0, 1, 0] else [b2n (x.sf || decide (0 < x.blocks)), b2n (isSes type x), 0, x.blocks]

/-- PM_SECOND_CLASSIFY: the oldest second of a tributary that ended 10 s ago is classified.
DESIGN CHOICE, unsafe (log entry 56). -/
def pmClassify (e : Nat) (s : State) : State :=
  let t := tribOf s e
  match t.secs with
  | [] => s
  | x :: r =>
    if !trbOn s e || utcSec s s.time.mer < x.sec + 11 then s
    else
      let type := trbType s e
      let ten := (x :: r).take 10
      let bad := decide (ten.length = 10) && ten.all (isSes type)
      let good := decide (ten.length = 10) && ten.all (fun y => !isSes type y)
      let un := if t.unavail then !good else bad
      let s1 := setTrib e { t with secs := r, unavail := un } s
      let f := fun (b : PmBin) => (List.range 4).foldl (fun b k => binAdd k ((secCounts type un x).getD k 0) b) b
      if !bit (getReg s (ra (pg .pmb) 0x100)) 31 then s1
      else
        let q := x.sec / 900
        if q = s.pmb.qh || s.pmb.closing.any (fun c => c.q == q) then tcaCheck q e (modBins q e f s1) else s1

/-! ### Records (R304) -/

/-- The 32 bytes of an entity's bin that starts at a tick; `sus` says that every bin of its period is suspect. -/
def pmRecord (s : State) (e : Nat) (b : PmBin) (sus : Bool) (start : Tick) : Bytes :=
  let dir := if e < 256 then 0 else b2n (bit ((bunOf s (e - 256)).cfg.getD 0 0) 30)
  let w0 := 2 ^ 31 + b2n (b.suspect || sus) * 2 ^ 30 + b2n b.partialBin * 2 ^ 29 + dir
  let w6 := if e < 256 then min 0xFFFF b.lo * 2 ^ 16 + min 0xFFFF b.hi else if b.lo = 0 then 0xFFFF else min 0xFFFF (b.lo - 1)
  let w7 := if e < 256 then sat32 b.febe 0 else min 0xFFFF b.hi
  leBytes 4 w0 ++ leBytes 4 start.toNat ++ ((List.range 4).flatMap (fun k => leBytes 4 (b.vals.getD k 0))) ++ leBytes 4 w6 ++ leBytes 4 w7

/-- Write one record; a write that fails raises WRITE_FAIL. DESIGN CHOICE, unsafe (log entry 56). -/
def pmWrite (e slot : Nat) (bs : Bytes) (s : State) : State :=
  let base := (getReg s (ra (pg .pmb) 0x104)).toNat / 2 ^ 16 * 2 ^ 16
  let r := writeBar2 .record (base + (e * 104 + slot) * 32) bs s
  if r.1 then bump (pg .pmb) 0x200 1 r.2 else event (pg .pmb) 3 r.2

/-- The day of a quarter-hour that is closed. -/
def dayOf (s : State) (d : Nat) : PmDay :=
  (s.pmb.oldDays.find? (fun x => x.day == d && d != s.pmb.qh / 96)).getD
    { day := d, start := secTick s (d * 86400), suspect := s.pmb.susD, bins := s.pmb.day }

/-- The records of one entity at the close of a quarter-hour. -/
def pmCloseOne (c : PmClose) (s : State) (e : Nat) : State :=
  let d := dayOf s (c.q / 96)
  let s1 := pmWrite e (c.q % 96) (pmRecord s e (spGet PmBin.init c.bins e) c.suspect c.start) s
  pmWrite e (96 + c.q / 96 % 8) (pmRecord s1 e (spGet PmBin.init d.bins e) d.suspect d.start) s1

/-- Days and thresholds that no bin needs any more are forgotten. -/
def pmForget (p : Pmb) : Pmb :=
  let live := fun (d : Nat) => p.closing.any (fun c => c.q / 96 == d)
  { p with oldDays := p.oldDays.filter (fun x => live x.day),
           crossed := p.crossed.filter (fun k => if k.2.2.1 then k.2.2.2 == p.qh / 96 || live k.2.2.2
                                                 else k.2.2.2 == p.qh || p.closing.any (fun c => c.q == k.2.2.2)) }

/-- PM_BIN_CLOSE: 80,000 ticks after a quarter-hour boundary its bins close and their records are written. -/
def pmBinClose (s : State) : State :=
  match s.pmb.closing with
  | c :: r =>
    if !isDue (now s) c.at_ then s
    else
      let s1 := if bit (getReg s (ra (pg .pmb) 0x100)) 31 then (List.range 1280).foldl (pmCloseOne c) s else s
      event (pg .pmb) 1 { s1 with pmb := pmForget { s1.pmb with closing := r, lastClose := now s } }
  | [] => s

/-- Bins of entities that are not enabled as the quarter-hour ends are partial. -/
def markOff (s : State) (m : Sparse PmBin) : Sparse PmBin :=
  (List.range 1280).foldl (fun m e => if entOn s e then m else modBin e (fun b => { b with partialBin := true }) m) m

/-- The quarter-hour changes at a boundary: bins move on, and PMB_UTC_OFFSET takes effect (R302). -/
def pmRollover (s : State) : State :=
  let p := s.pmb
  if utcSec s s.time.mer / 900 = p.qh then s
  else
    let off := signed 16 (regFld s (ra (pg .pmb) 0x108) 15 0)
    let s1 := { s with pmb := { p with utcOff := off } }
    let q := utcSec s1 s1.time.mer / 900
    let c : PmClose := { q := p.qh, start := secTick s (p.qh * 900), at_ := now s + 80000, suspect := p.susQ, bins := markOff s p.cur }
    let d : PmDay := { day := p.qh / 96, start := secTick s (p.qh / 96 * 86400), suspect := p.susD, bins := markOff s p.day }
    let back := (d :: p.oldDays).find? (fun x => x.day == q / 96)
    let p1 := { p with utcOff := off, qh := q, cur := [], susQ := false, closing := p.closing ++ [c],
                       day := (back.map (·.bins)).getD [], susD := (back.map (·.suspect)).getD false,
                       oldDays := (d :: p.oldDays.filter (fun x => x.day != d.day)).filter (fun x => x.day != q / 96) }
    let s2 := { s with pmb := pmForget p1 }
    if off = p.utcOff then s2 else pmSuspect s2

/-- Signal fail of a reported defect (R275): highway LOS, LOSYNC, LOF, LOS, AIS, LOF and LOMF. -/
def sigFail (rep : Nat) : Bool := decide (2 ≤ rep)

/-- Action 5 of R17 for one framer: the counts of the tick that ended. -/
def pmTickOne (s : State) (t : Nat) : State :=
  let x := tribOf s t
  let s1 := setTrib t { x with secs := secAdd (utcSec s (s.time.mer - tickUnit)) x.tickErr (sigFail x.rep) x.secs, tickErr := 0, tickFebe := 0,
                               tickDrop := 0, tickRep := 0, errs := if x.tickErr = 0 then x.errs else (now s - 1, x.tickErr) :: x.errs } s
  if x.tickFebe + x.tickDrop + x.tickRep = 0 then s1
  else accrue t (fun b => { b with febe := sat32 b.febe x.tickFebe, lo := min 0xFFFF (b.lo + x.tickDrop), hi := min 0xFFFF (b.hi + x.tickRep) }) s1

/-- Action 5 of R17. -/
def pmBoundary (s : State) : State :=
  let s1 := ((List.range 256).filter (trbOn s)).foldl pmTickOne s
  pmRollover { s1 with tribs := s1.tribs.map (fun p => (p.1, { p.2 with errs := p.2.errs.filter (fun e => decide (tdiff (now s) e.1 ≤ 8000)) })) }

/-- PMB_RD_GO: the current bin of an entity. -/
def pmRead (s : State) : State :=
  let e := regFld s (ra (pg .pmb) 0x114) 10 0
  let b := spGet PmBin.init s.pmb.cur e
  let b1 := { b with partialBin := b.partialBin || !entOn s e }
  { s with pmb := { s.pmb with rd := bytesToWords 8 (pmRecord s e b1 s.pmb.susQ (secTick s (s.pmb.qh * 900))) } }

end Sys2Proof.Machine
end

