-- ==== Sys2Proof/Machine/Tdm.lean ====
section
/-! DEFINITION. Tributary highways and framers (R259-R276): inbound frames, defects and their consequences, the Compass
hunt, received frames and slip buffers, and the egress framing. -/

namespace Sys2Proof.Machine

/-! ### Highways (R260, R264-R267, R273) -/

def hwyOf (s : State) (h : Nat) : Hwy := s.hwys.getD h Hwy.init
def modHwy (h : Nat) (f : Hwy → Hwy) (s : State) : State := { s with hwys := s.hwys.set h (f (hwyOf s h)) }

/-- Whether a highway's lanes run (R260). -/
def hwyRuns (s : State) (h : Nat) : Bool :=
  bit (getReg s (ra (pg .hwy h) 0x100)) 31 &&
    modeIn [.configure, .solo, .twinJoin, .twinEmit, .twinHold, .drain, .diagnostic] s

/-- HWY_LOOP.MODE (R267). -/
def hwyLoopMode (s : State) (h : Nat) : Nat := regFld s (ra (pg .hwy h) 0x108) 1 0

/-- Whether a highway's inbound pins are ignored: its lanes are stopped, or a near-end loop is closed (R260, R267). -/
def hwyDeaf (s : State) (h : Nat) : Bool := !hwyRuns s h || hwyLoopMode s h == 1 || hwyLoopMode s h == 2

/-- The highway defects of a tributary as bits 7:5 of TRB_DEF. -/
def hwyMask (x : Hwy) : Nat := b2n x.los * 0x80 + b2n x.losync * 0x40 + b2n (x.lof || x.loopLof) * 0x20

/-- The highest bit of a defect mask alone (R274). -/
def highest (m : Nat) : Nat := if m = 0 then 0 else 2 ^ Nat.log2 m

/-- A framer's reported defect is brought up to date (R274). -/
def refreshTrib (t : Nat) (s : State) : State :=
  let x := tribOf s t
  let hm := hwyMask (hwyOf s (t / 32))
  let defs := if hm = 0 then x.defs else 0
  let rep := if trbOn s t then highest (hm + defs) else 0
  let s1 := setTrib t { x with defs := defs, rep := rep } s
  if rep = x.rep then s1 else event (pg .trb (t / 16)) (t % 16) s1

/-- What a framer remembers of the signal's framing, forgotten; the runs of LOS and AIS, which need no alignment, go on. -/
def TribHist.unframed (h : TribHist) : TribHist :=
  { h with fasBad := 0, nfasBad := 0, fps := [], smfs := 0, smfErr := 0, smf915 := false, lomfTicks := 0, mfasBad := 0, mfasGood := 0,
           mfas := [], dl := [], rai := 0, noRai := 0 }

/-- The Compass hunt starts again with every candidate's run at 0. -/
def huntAgain (x : Trib) : Trib :=
  { x with aligned := false, mfAligned := false, buf := [], abs := x.abs + x.buf.length, amb := false, slip := [], fed := false,
           rxBlock := [], rxCrc := none, rxChk := [], hist := x.hist.unframed }

/-- Declare (`on`) or clear a tributary defect by its bit; LOF also ends alignment. -/
def setDefect (t bitNo : Nat) (on : Bool) (s : State) : State :=
  let x := tribOf s t
  let has := x.defs / 2 ^ bitNo % 2 = 1
  if on then
    let d := if has then x.defs else x.defs + 2 ^ bitNo
    let y := { x with defs := d, latch := setBit x.latch bitNo true }
    let s1 := setTrib t (if bitNo = 2 then huntAgain y else y) s
    refreshTrib t (if bitNo = 2 && !has then bump (pg .trb (t / 16)) (0x100 + t % 16 * 0xF0 + 0x48) 1 s1 else s1)
  else refreshTrib t (setTrib t { x with defs := if has then x.defs - 2 ^ bitNo else x.defs } s)

/-- A highway's defects change: every enabled framer latches what was declared, and the hunt restarts when the last highway
defect clears. -/
def hwyChange (h : Nat) (f : Hwy → Hwy) (s : State) : State :=
  let before := hwyMask (hwyOf s h)
  let s1 := modHwy h f s
  let after := hwyMask (hwyOf s1 h)
  let new := after &&& (0xFF ^^^ before)
  ((List.range 32).map (fun k => 32 * h + k)).foldl (fun s t =>
    if trbOn s t then
      let s2 := modTrib t (fun x => { x with latch := x.latch ||| wd new }) s
      refreshTrib t (if before != 0 && after == 0 then modTrib t huntAgain s2 else s2)
    else s) s1

/-- Declare highway LOF. -/
def hwyLof (h : Nat) (s : State) : State :=
  if (hwyOf s h).lof then s
  else bump (pg .hwy h) 0x228 1 (hwyChange h (fun x => { x with lof := true, locked := none }) s)

/-- HIGHWAY_LOS (R273). -/
def highwayLos (h : Nat) (s : State) : State :=
  if hwyDeaf s h then s
  else
    let s1 := if (hwyOf s h).los then s else bump (pg .hwy h) 0x220 1 s
    hwyChange h (fun x => { x with los := true, losSeen := true }) s1

/-- HIGHWAY_LOSYNC. -/
def highwayLosync (h : Nat) (lost : Bool) (s : State) : State :=
  if hwyDeaf s h then s else hwyChange h (fun x => { x with losync := lost }) s

/-- The highways at a boundary: LOS clears after a whole tick with transitions, and a loopback's LOF after its tick.
DEDUCED, unsafe (log entry 52). -/
def hwyBoundary (s : State) : State :=
  (List.range 8).foldl (fun s h =>
    let x := hwyOf s h
    let s1 := if (x.los && x.rxSeen && !x.losSeen) || x.loopLof then
        hwyChange h (fun x => { x with los := x.los && !(x.rxSeen && !x.losSeen), loopLof := false }) s else s
    modHwy h (fun x => { x with rxSeen := false, losSeen := false }) s1) s

/-! ### Received bits -/

/-- Bits of one tributary frame. -/
def frameBits (s : State) (t : Nat) : Nat := if trbType s t = 2 then 193 else 256

/-- What a framer remembers of one received bit (R273): zero runs and two-frame periods. -/
def histBit (per : Nat) (h : TribHist) (b : Bool) : TribHist :=
  let zr := if b then 0 else h.zeroRun + 1
  let z := h.perZeros + b2n (!b)
  let h1 := { h with zeroRun := zr, losEver := h.losEver || decide (256 ≤ zr) }
  if h.perBits + 1 < per then { h1 with perBits := h.perBits + 1, perZeros := z }
  else { h1 with perBits := 0, perZeros := 0, aisLow := if z < 3 then h.aisLow + 1 else 0, aisHigh := if z < 3 then 0 else h.aisHigh + 1 }

/-- Bits of a slot reach the framer. -/
def tribBits (t : Nat) (bits : List Bool) (liu : Bool) (s : State) : State :=
  modTrib t (fun x =>
    let h := bits.foldl (histBit (2 * frameBits s t)) { x.hist with liu := liu }
    { x with buf := x.buf ++ bits, hist := { h with losEver := h.losEver || liu } }) s

/-- The byte symbol `n` of an inbound frame stands for: a code-group that is no data is free.
DESIGN CHOICE, safe (log entry 12). -/
def symByte (s : State) (syms : List Nat) (n : Nat) : Byte :=
  let x := syms.getD n 0x200
  if x < 256 then by8 x else Config.badSym (now s).toNat n x

/-- The bits of slot `k` of an inbound frame, with R264 applied: the bits and whether the slot is in error. -/
def slotBits (s : State) (t : Nat) (syms : List Nat) (k : Nat) : List Bool × Bool :=
  let count := syms.getD (4 + 36 * k) 0x200
  let ns := (List.range 34).map (fun i => 6 + 36 * k + i)
  if 144 < count || ns.any (fun n => syms.getD n 0x200 == 0x1FE) then (List.replicate (frameBits s t) true, true)
  else ((msbBits (ns.map (symByte s syms))).take (count + 128), false)

/-- One slot of an inbound frame reaches its framer. -/
def rxSlot (h : Nat) (syms : List Nat) (s : State) (k : Nat) : State :=
  let t := 32 * h + k
  if !trbOn s t then s
  else
    let r := slotBits s t syms k
    let s1 := if r.2 then bump (pg .hwy h) 0x218 1 (bump (pg .trb (t / 16)) (0x100 + t % 16 * 0xF0 + 0x58) 1 s) else s
    tribBits t r.1 (decide ((symByte s syms (5 + 36 * k)).toNat / 64 ≠ 0)) s1

/-- K code-groups the table of R262 does not hold, code-groups that do not decode, and K30.7 (R262, R264). -/
def codeErr (x : Nat) : Bool := decide (0x100 ≤ x) && !(x == 0x1BC || x == 0x1FD || x == 0x11C)

/-- Whether an inbound frame is good (R266). DEDUCED, unsafe (log entry 52). -/
def hwyGood (s : State) (h pos : Nat) (syms : List Nat) : Bool :=
  let x := hwyOf s h
  let body := ((syms.drop 1).take 1155)
  let tick := (if pos = 0 then now s - 1 else now s).toNat % 65536
  let here := match x.locked with
    | some p => pos == p
    | none => decide (pos ≤ 1023)
  let w := fun (n : Nat) => syms.getD n 0x200
  here && w 0 == 0x1BC && w 3 % 8 == h && w 1 * 256 + w 2 == tick && body.all (fun v => decide (v < 256)) &&
    decide (w 1156 < 256) && decide (w 1157 < 256) && crc16 (body.map by8) == w 1156 * 256 + w 1157 && w 1158 == 0x1FD

/-- A frame that reaches the highway's receiver, its first symbol `pos` symbols after the outbound K28.5. -/
def hwyTake (h pos : Nat) (syms : List Nat) (s : State) : State :=
  let good := hwyGood s h pos syms
  let s1 := bump (pg .hwy h) 0x210 (syms.countP codeErr) (bump (pg .hwy h) 0x200 1 (modHwy h (fun x => { x with rxSeen := true }) s))
  let s2 :=
    if good then
      let s3 := modHwy h (fun x => { x with good := x.good + 1, bad := 0, locked := if x.lof then none else some pos }) s1
      if (hwyOf s3 h).lof && decide (2 ≤ (hwyOf s3 h).good) then hwyChange h (fun x => { x with lof := false }) s3 else s3
    else
      let s3 := event (pg .hwy h) 3 (bump (pg .hwy h) 0x208 1 (modHwy h (fun x => { x with bad := x.bad + 1, good := 0 }) s1))
      if 2 ≤ (hwyOf s3 h).bad then hwyLof h s3 else s3
  (List.range 32).foldl (rxSlot h syms) s2

/-- HIGHWAY_FRAME_RX: an inbound frame of the present tick. Under a near-end loop the pins are ignored; under the far-end one the
code-groups go out as well (R267). -/
def highwayRx (h pos : Nat) (syms : List Nat) (s : State) : State :=
  if hwyDeaf s h then s
  else hwyTake h pos syms (if hwyLoopMode s h = 3 then emit (.hwyReturned h syms) s else s)

/-- The highway's own outbound frame leaves, returns to its receiver, or is not sent (R267).
DESIGN CHOICE, safe (log entry 12). DEDUCED, unsafe (log entry 52). -/
def hwySend (h : Nat) (bytes : Bytes) (s : State) : State :=
  match hwyLoopMode s h with
  | 0 => emit (.highway h bytes) s
  | 3 => s
  | _ => hwyTake h (1 + Config.loopPos h % 1023) (0x1BC :: bytes.map (·.toNat) ++ [0x1FD]) s

/-! ### The Compass hunt (R270-R272) -/

/-- A candidate of an E1 as it is tested frame by frame: its run of passed checks, the frame of its third check, bit 1 of its
NFAS bytes (newest first), the NFAS numbers at which an MFAS ended, and the frame of the MFAS that qualified it. -/
structure Cand where
  run : Nat
  third : Nat
  seen : List Bool
  hits : List Nat
  qual : Option Nat

def Cand.none : Cand := { run := 0, third := 0, seen := [], hits := [], qual := Option.none }

/-- The MFAS as bit 1 of six NFAS bytes, newest first. -/
def mfasRev : List Bool := [true, true, false, true, false, false]

/-- FAS and NFAS checks on the 8 bits of a TS0. -/
def fasOk (b : List Bool) : Bool := b.drop 1 == [false, false, true, true, false, true, true]
def nfasOk (b : List Bool) : Bool := b.getD 1 false

/-- One check of an E1 candidate: frame `n` of the hunt, TS0 bits `b`, an even frame being a FAS check. A candidate in E1_CRC4 that has
found no multiframe within 8 ms, 64 frames, of its third check has started again. -/
def candStep (crc4 even : Bool) (n : Nat) (b : List Bool) (c0 : Cand) : Cand :=
  let c := if crc4 && c0.qual.isNone && decide (3 ≤ c0.run) && decide (c0.third + 64 < n) then Cand.none else c0
  if even then
    if !fasOk b then Cand.none
    else { c with run := c.run + 1, third := if c.run = 2 then n else c.third }
  else if c.run = 0 then c
  else if !nfasOk b then Cand.none
  else
    let seen := b.getD 0 false :: c.seen
    let j := seen.length
    let hit := seen.take 6 == mfasRev
    let q := if c.qual.isSome then c.qual else if hit && c.hits.any (fun i => (j - i) % 8 == 0) then some n else none
    { c with run := c.run + 1, seen := seen, hits := if hit then j :: c.hits else c.hits, qual := q }

/-- Run an E1 candidate over a stream whose first bit is the first TS0 bit of frame `n`. -/
def candRun (crc4 : Bool) : Nat → Nat → Bool → List Bool → Cand → Cand
  | 0, _, _, _, c => c
  | k + 1, n, even, l, c =>
    if (l.drop 7).isEmpty then c else candRun crc4 k (n + 1) (!even) (l.drop 256) (candStep crc4 even n (l.take 8) c)

/-- The candidate at position `p` modulo 512 of a stream whose first bit stands at position `a`. -/
def candE1 (crc4 : Bool) (a : Nat) (l : List Bool) (p : Nat) : Cand :=
  let d := (p + 512 - a % 512) % 512
  if d < 256 then candRun crc4 l.length 0 true (l.drop d) Cand.none
  else candRun crc4 l.length 0 false (l.drop (d - 256)) Cand.none

/-- Whether an E1 candidate qualifies (R270). -/
def candOk (crc4 : Bool) (c : Cand) : Bool := decide (3 ≤ c.run) && (!crc4 || c.qual.isSome)

/-- The FPS of a T1 superframe. -/
def fps : List Bool := [false, false, true, false, true, true]

/-- The bits of a T1 superframe with its F bits taken as 1, over which CRC-6 is formed. -/
def t1Block (l : List Bool) : List Bool := (List.range 24).flatMap (fun i => true :: (l.drop (193 * i + 1)).take 192)

/-- The CRC-6 bits a T1 superframe carries. -/
def t1Crc (l : List Bool) : List Bool := [1, 5, 9, 13, 17, 21].map (fun i => l.getD (193 * i) false)

/-- Whether 12 consecutive FPS bits from bit `x` match, two superframes' worth, and the superframe that follows carries the CRC-6 of the
one before it; its last CRC bit stands in frame 21. -/
def t1Match (l : List Bool) (x : Nat) : Bool :=
  let second := x + 4632 - 579
  decide (second + 4632 + 193 * 21 < l.length) &&
    (List.range 12).map (fun k => l.getD (x + 772 * k) false) == fps ++ fps &&
    bitsNat (t1Crc (l.drop (second + 4632))) == crc6 (t1Block ((l.drop second).take 4632))

/-- The offset of the second superframe of a T1 candidate that qualifies (R271): the FPS is in step in what has come since. DEDUCED,
unsafe (log entry 52). -/
def candT1 (a : Nat) (l : List Bool) (p : Nat) : Option Nat :=
  let d := (p + 772 - a % 772) % 772
  let offs := (List.range (l.length / 772 + 1)).map (fun k => d + 772 * k)
  offs.find? (fun x => t1Match l x &&
    (List.range (l.length / 772 + 1)).all (fun k =>
      let i := x + 772 * k
      decide (k < 17) || decide (l.length ≤ i) || l.getD i false == fps.getD (k % 6) false)) |>.map (· + 4632 - 579)

/-- Alignment is declared at frame offset `o` in the buffer, frame number `no` (R270): the part of the frame under way stays. In E1_CRC4
the multiframe has been found, so LOMF is cleared (R273). -/
def declareAligned (t pos o no : Nat) (s : State) : State :=
  let x := tribOf s t
  let len := frameBits s t
  let k := (x.buf.length - o) / len
  let cut := o + k * len
  let y := { x with defs := x.defs - x.defs / 2 % 2 * 2, hist := { x.hist with lomfTicks := 0 }, aligned := true, mfAligned := trbType s t == 0, pos := pos, buf := x.buf.drop cut, abs := x.abs + cut, slip := [], fed := false,
                    rxNo := (no + k) % (if trbType s t = 2 then 24 else 16), rxBlock := [], rxCrc := none, rxChk := [] }
  setDefect t 2 false (setTrib t y s)

/-- COMPASS_HUNT: the candidates as they stand on the bits received since the hunt began. -/
def compassHunt (t : Nat) (s : State) : State :=
  let x := tribOf s t
  if !trbOn s t || x.aligned || hwyMask (hwyOf s (t / 32)) != 0 then s
  else
    let ambiguous := fun (s : State) => event (pg .trb (t / 16)) 17
      (bump (pg .trb (t / 16)) (0x100 + t % 16 * 0xF0 + 0x50) 1 (modTrib t (fun x => { x with amb := true }) s))
    if trbType s t = 2 then
      match (List.range 772).filterMap (fun p => (candT1 x.abs x.buf p).map (fun o => (p, o))) with
      | [] => s
      | [(p, o)] => declareAligned t p o 0 s
      | _ => if x.amb then s else ambiguous s
    else
      let crc4 := trbType s t == 0
      let q := (List.range 512).filter (fun p => candOk crc4 (candE1 crc4 x.abs x.buf p))
      match q with
      | [] => s
      | [p] =>
        let d := (p + 512 - x.abs % 512) % 512
        let first := if d < 256 then d else d - 256
        let even := decide (d < 256)
        let c := candE1 crc4 x.abs x.buf p
        let no := match c.qual with
          | some n => (11 + 16 * n - n) % 16
          | none => if even then 0 else 1
        declareAligned t p first no s
      | _ => if x.amb then s else ambiguous s

/-- TRB_CTRL.HUNT: LOF is declared and the hunt restarts. -/
def tribHunt (t : Nat) (s : State) : State :=
  if trbOn s t && hwyMask (hwyOf s (t / 32)) == 0 then setDefect t 2 true (modTrib t huntAgain s) else modTrib t huntAgain s

/-! ### Received frames (R268, R273, R276) -/

/-- The counters of a framer. -/
def tribBump (t off n : Nat) (s : State) : State := bump (pg .trb (t / 16)) (0x100 + t % 16 * 0xF0 + off) n s

/-- What a finished CRC block leaves: errored or not, the new reference, and the thousand of R273. -/
def blockEnd (x : Trib) (check : Bool) (whole : Nat) (crc : List Bool → Nat) : Bool × Trib :=
  let err := match x.rxCrc with
    | some c => check && bitsNat x.rxChk != c
    | none => false
  let h := x.hist
  let n := h.smfs + 1
  let e := h.smfErr + b2n err
  let h1 := if n < 1000 then { h with smfs := n, smfErr := e } else { h with smfs := 0, smfErr := 0, smf915 := decide (915 ≤ e) }
  (err, { x with rxCrc := if x.rxBlock.length = whole then some (crc x.rxBlock) else none, rxBlock := [], rxChk := [],
                 hist := h1, ebits := x.ebits ++ [err] })

/-- The framing of one received E1 frame: the framer after it, errored framing words, errored blocks and FEBE. -/
def rxE1 (crc4 check : Bool) (f : List Bool) (x : Trib) : Trib × Nat × Nat × Nat :=
  let even := x.rxNo % 2 == 0
  let bad := if even then !fasOk (f.take 8) else !nfasOk f
  let b1 := f.getD 0 false
  let h := x.hist
  let a := f.getD 2 false
  let h1 := if even then { h with fasBad := if bad then h.fasBad + 1 else 0 }
    else { h with nfasBad := if bad then h.nfasBad + 1 else 0, rai := if a then h.rai + 1 else 0, noRai := if a then 0 else h.noRai + 1 }
  let m := if crc4 && !even && x.rxNo ≤ 11 then h.mfas ++ [b1] else h.mfas
  let mfOk := m == [false, false, true, false, true, true]
  let h2 := if crc4 && x.rxNo = 11 && decide (m.length < 6) then { h1 with mfas := [] }
    else if crc4 && x.rxNo = 11 then
      { h1 with mfas := [], mfasBad := if mfOk then 0 else h.mfasBad + 1, mfasGood := if mfOk then h.mfasGood + 1 else 0 }
    else { h1 with mfas := m }
  let febe := b2n (crc4 && !even && decide (12 ≤ x.rxNo) && !b1)
  let y := { x with hist := h2, rxBlock := x.rxBlock ++ (if even then false :: f.drop 1 else f), rxChk := if even then x.rxChk ++ [b1] else x.rxChk }
  let z := if crc4 && x.rxNo % 8 = 7 then blockEnd y check 2048 crc4' else (false, y)
  let blocks := if crc4 then b2n z.1 else b2n (even && bad)
  ({ z.2 with rxNo := (x.rxNo + 1) % 16 }, b2n bad, blocks, febe)
where
  /-- CRC-4 of a sub-multiframe. -/
  crc4' (l : List Bool) : Nat := Machine.crc4 l

/-- Whether 16 data-link bits are a rotation of 0xFF00. -/
def isRai16 (l : List Bool) : Bool :=
  (List.range 16).any (fun r => (l.drop r ++ l.take r) == List.replicate 8 true ++ List.replicate 8 false)

/-- The framing of one received T1 frame. -/
def rxT1 (check : Bool) (f : List Bool) (x : Trib) : Trib × Nat × Nat × Nat :=
  let b := f.getD 0 false
  let h := x.hist
  let isFps := x.rxNo % 4 == 3
  let bad := isFps && b != fps.getD (x.rxNo / 4) false
  let h1 := if isFps then { h with fps := (bad :: h.fps).take 4 }
    else if x.rxNo % 2 = 0 then
      let dl := h.dl ++ [b]
      if dl.length < 16 then { h with dl := dl }
      else if isRai16 dl then { h with dl := [], rai := h.rai + 1, noRai := 0 } else { h with dl := [], rai := 0, noRai := h.noRai + 1 }
    else h
  let y := { x with hist := h1, rxBlock := x.rxBlock ++ (true :: f.drop 1), rxChk := if x.rxNo % 4 = 1 then x.rxChk ++ [b] else x.rxChk }
  let z := if x.rxNo = 23 then blockEnd y check 4632 crc6 else (false, y)
  ({ z.2 with rxNo := (x.rxNo + 1) % 24, ebits := [] }, b2n bad, b2n z.1, 0)

/-- Whether the reported defect feeds AIS towards the TSI (R275). -/
def ingressAis (rep : Nat) : Bool := decide (4 ≤ rep)

/-- TRIB_FRAME_COMPLETE: an aligned framer has received the last bit of a frame and writes it to its slip buffer. -/
def tribFrame (t : Nat) (s : State) : State :=
  let x := tribOf s t
  let n := frameBits s t
  if !trbOn s t || !x.aligned || x.buf.length < n then s
  else
    let f := x.buf.take n
    let check := x.rep != 2
    let r := if trbType s t = 2 then rxT1 check f x else rxE1 (trbType s t == 0) check f x
    let bytes := if trbType s t = 2 then bitsBytes 24 (f.drop 1) else bitsBytes 32 f
    let drop := decide (2 ≤ x.slip.length)
    let counted := drop && !ingressAis x.rep
    let y := { r.1 with buf := x.buf.drop n, abs := x.abs + n, slip := (if drop then x.slip.drop 1 else x.slip) ++ [bytes],
                        tickErr := x.tickErr + r.2.2.1, tickFebe := x.tickFebe + r.2.2.2, tickDrop := x.tickDrop + b2n counted,
                        slipNow := x.slipNow || counted }
    let crcErr := if trbType s t = 1 then 0 else r.2.2.1
    let s1 := tribBump t 0x30 r.2.2.2 (tribBump t 0x28 crcErr (tribBump t 0x20 r.2.1 (setTrib t y s)))
    if counted then event (pg .trb (t / 16)) 16 (tribBump t 0x38 1 s1) else s1

/-- Whether the criterion of R273 for a tributary defect holds: 4 LOS, 3 AIS, 2 LOF, 1 LOMF, 0 RAI. -/
def defectDue (s : State) (t d : Nat) (on : Bool) : Bool :=
  let x := tribOf s t
  let h := x.hist
  let type := trbType s t
  if d = 4 then (if on then h.losEver else decide (8 ≤ h.losClean))
  else if d = 3 then (if on then decide (2 ≤ h.aisLow) else decide (2 ≤ h.aisHigh))
  else if d = 2 then
    on && x.aligned && (if type = 2 then decide (2 ≤ h.fps.countP id)
      else decide (3 ≤ h.fasBad) || decide (3 ≤ h.nfasBad) || (type == 0 && (h.smf915 || (x.defs / 2 % 2 == 1 && decide (64 ≤ h.lomfTicks)))))
  else if d = 1 then type == 0 && x.aligned && (if on then decide (2 ≤ h.mfasBad) else decide (2 ≤ h.mfasGood))
  else if d = 0 then
    let n := if type = 2 then 4 else 3
    x.aligned && (if on then decide (n ≤ h.rai) else decide (n ≤ h.noRai))
  else false

/-- TRIB_DEFECT_CHANGE: a tributary defect whose criterion holds is declared or cleared (R273, R274). -/
def tribDefect (t d : Nat) (on : Bool) (s : State) : State :=
  if trbOn s t && hwyMask (hwyOf s (t / 32)) == 0 && defectDue s t d on then setDefect t d on s else s

/-- A framer at a boundary: ticks without LOS and with LOMF, and a change of TRB_CFG (R269). -/
def tribBoundaryOne (s : State) (t : Nat) : State :=
  let x := tribOf s t
  let cfg := cfgReg s (trbReg t 0)
  let h := x.hist
  let h1 := { h with losClean := if h.losEver || h.liu then 0 else h.losClean + 1, losEver := decide (256 ≤ h.zeroRun),
                     lomfTicks := if x.defs / 2 % 2 = 1 then h.lomfTicks + 1 else 0 }
  let s1 := setTrib t { x with hist := h1, absAt := x.abs + x.buf.length } s
  if cfg = x.cfgWas then s1
  else
    let type := fun (w : Word) => fld w 29 28
    let x1 := if type cfg = type x.cfgWas then x else { x with txNo := 0, txBlock := [], txCrc := 0, ebits := [] }
    let y := huntAgain { x1 with cfgWas := cfg, defs := 0, hist := TribHist.init, unavail := false, secs := [] }
    refreshTrib t (pmChanged t (bit cfg 31 != bit x.cfgWas 31) (setTrib t y s1))

/-- Framers at a boundary: those that are or were enabled. -/
def tribBoundary (s : State) : State :=
  ((List.range 256).filter (fun t => trbOn s t || (tribOf s t).cfgWas != 0)).foldl tribBoundaryOne s

/-! ### The take (R276) -/

/-- An AIS frame of a tributary's type. -/
def aisFrame (s : State) (t : Nat) : Bytes := List.replicate (if trbType s t = 2 then 24 else 32) 0xFF

/-- The TSI takes one frame of a tributary. -/
def takeOne (s : State) (t : Nat) : State :=
  let x := tribOf s t
  if !x.aligned || ingressAis x.rep then setTrib t { x with taken := aisFrame s t, fed := false } s
  else match x.slip with
    | f :: r => setTrib t { x with taken := f, slip := r, fed := true } s
    | [] =>
      if x.fed then
        event (pg .trb (t / 16)) 16 (tribBump t 0x40 1 (setTrib t { x with slipNow := true, tickRep := x.tickRep + 1 } s))
      else setTrib t { x with taken := aisFrame s t } s

/-- TSI_TAKE for every enabled framer. -/
def tsiTake (s : State) : State := ((List.range 256).filter (trbOn s)).foldl takeOne s

/-! ### Egress framing (R264, R265, R268, R275) -/

/-- Bit `i` (0 first) of a byte in order of transmission. -/
def txBit (b : Byte) (i : Nat) : Bool := b.getLsbD (7 - i)

/-- TS0 of an egress E1 frame. -/
def ts0Bits (crc4 rai : Bool) (x : Trib) : List Bool :=
  let n := x.txNo % 16
  let b1 := if !crc4 then true
    else if n % 2 = 0 then (x.txCrc / 2 ^ (3 - n % 8 / 2)) % 2 == 1
    else if n ≤ 11 then ([false, false, true, false, true, true] : List Bool).getD (n / 2) false
    else !(x.ebits.getD 0 false)
  if n % 2 = 0 then b1 :: [false, false, true, true, false, true, true] else b1 :: true :: rai :: List.replicate 5 true

/-- The F bit of an egress T1 frame. -/
def t1FBit (rai : Bool) (x : Trib) : Bool :=
  let n := x.txNo % 24
  if n % 4 = 3 then fps.getD (n / 4) false
  else if n % 4 = 1 then (x.txCrc / 2 ^ (5 - n / 4)) % 2 == 1
  else
    let k := x.txNo / 2
    if rai then decide (k % 16 < 8) else ([false, true, true, true, true, true, true, false] : List Bool).getD (k % 8) false

/-- The framer after sending a frame: its CRC block and its place in the multiframe.
DEDUCED, unsafe (log entry 53). -/
def txAdvance (type : Nat) (bits : List Bool) (x : Trib) : Trib :=
  let n := x.txNo
  let x1 := { x with txNo := (n + 1) % 96 }
  if type = 2 then
    let blk := x.txBlock ++ (true :: bits.drop 1)
    if n % 24 = 23 then { x1 with txBlock := [], txCrc := crc6 blk } else { x1 with txBlock := blk }
  else if type = 0 then
    let blk := x.txBlock ++ (if n % 2 = 0 then false :: bits.drop 1 else bits)
    let x2 := if n % 16 = 13 || n % 16 = 15 then { x1 with ebits := x1.ebits.drop 1 } else x1
    if n % 8 = 7 then { x2 with txBlock := [], txCrc := crc4 blk } else { x2 with txBlock := blk }
  else x1

/-- One egress tributary frame: payload by timeslot, or AIS. Answers its bits, whether it is AIS, and the framer after it. -/
def egressFrame (s : State) (t : Nat) (payload : Option Bytes) : List Bool × Bool × Trib :=
  let x := tribOf s t
  let ctl := getReg s (trbReg t 4)
  let type := trbType s t
  let n := frameBits s t
  match (if bit ctl 31 then none else payload) with
  | none =>
    let bits := List.replicate n true
    (bits, true, txAdvance type bits x)
  | some p =>
    let rai := bit ctl 30 || ingressAis x.rep
    let bits := if type = 2 then t1FBit rai x :: msbBits p
      else ts0Bits (type == 0) rai (if x.rep = 2 then { x with ebits := [] } else x) ++ msbBits (p.drop 1)
    (bits, false, txAdvance type bits x)

/-- A slot of an outbound frame: COUNT, STATUS and DATA. DEDUCED, unsafe (log entry 53). -/
def slotBytes (count status : Nat) (bits : List Bool) : Bytes := by8 count :: by8 status :: bitsBytes 34 bits

/-- The data symbols 1 to 1,157 of an outbound highway frame (R263); K28.5 stands before them, K29.7 and fill after. -/
def hwyFrameBytes (tick : Tick) (h : Nat) (slots : List Bytes) : Bytes :=
  let body := beBytes 2 (tick.toNat % 65536) ++ [by8 h] ++ slots.flatten
  body ++ beBytes 2 (crc16 body)

end Sys2Proof.Machine
end

