-- ==== Sys2Proof/Machine/Bun.lean ====
section
/-! DEFINITION. The connection memory and its swaps (R282-R287), APS (R277-R281), circuit bundles: configuration, assembly,
reception, playout and loss (R288-R301), and the outbound highway frames (R263-R265). -/

namespace Sys2Proof.Machine

/-! ### Connection memory -/

/-- The page of a direction (0 encrypt, 1 decrypt) that is active, and the standby one, by number. -/
def tsiActive (s : State) (d : Nat) : Nat := 2 * d + s.tsi.active.getD d 0
def tsiStandby (s : State) (d : Nat) : Nat := 2 * d + (1 - s.tsi.active.getD d 0)

/-- An entry of a page. -/
def tsiAt (s : State) (page n : Nat) : Word := spGet 0 (s.tsi.pages.getD page []) n

def entTrib (w : Word) : Nat := fld w 23 16
def entTs (w : Word) : Nat := fld w 4 0

/-- Whether an entry names a timeslot that is valid for a framer type (R282, R284). -/
def tsValid (type ts : Nat) : Bool := if type = 2 then decide (ts < 24) else ts != 0

/-- A standby page that a TSI_SWAP must not make active (R284). -/
def tsiBad (s : State) (d : Nat) : Bool :=
  let es := ((s.tsi.pages.getD (tsiStandby s d) []).map (·.2)).filter (fun w => bit w 31)
  es.any (fun w => !tsValid (trbType s (entTrib w)) (entTs w)) ||
    (d == 1 && decide ((es.map (fun w => (entTrib w, entTs w))).eraseDups.length < es.length))

/-- TSI_SWAP judged at acceptance (R27, R28); its page has been checked when the order was taken (R284). -/
def tsiSwapReq (ord : Option Nat) (d : Nat) (target : Tick) (s : State) : State :=
  let q := s.tsi.swap.getD d []
  if !(decide (2 ≤ tdiff target (now s)) && decide (tdiff target (now s) ≤ 2 ^ 31 - 1)) then endOpt ord .arg 0 s
  else if q.any (fun x => x.1 == target) then endOpt ord .busy 0 s
  else { s with tsi := { s.tsi with swap := s.tsi.swap.set d (q ++ [(target, ord)]) } }

/-- The swap of a direction due at the boundary (R17 action 3, R284). -/
def tsiSwapOne (s : State) (d : Nat) : State :=
  let q := s.tsi.swap.getD d []
  match q.find? (fun x => x.1 == now s) with
  | some x =>
    let t := { s.tsi with swap := s.tsi.swap.set d (q.erase x), active := s.tsi.active.set d (1 - s.tsi.active.getD d 0) }
    let g := { s.grt with tsi := s.grt.tsi.set d true }
    endOpt x.2 .ok 0 (event (pg .tsi) 0 (bump (pg .tsi) (0x200 + 8 * d) 1 { s with tsi := t, grt := g }))
  | none => s

/-- The swaps due at the boundary, one for each direction. -/
def tsiBoundary (s : State) : State := tsiSwapOne (tsiSwapOne s 0) 1

/-- Pending swaps of a direction end without effect (R285). -/
def tsiCancelDir (reason d : Nat) (s : State) : State :=
  let q := s.tsi.swap.getD d []
  if q.isEmpty then s
  else q.foldl (fun s x => event (pg .tsi) 1 (abortOpt x.2 reason s)) { s with tsi := { s.tsi with swap := s.tsi.swap.set d [] } }

def tsiCancelAll (reason : Nat) (s : State) : State := tsiCancelDir reason 1 (tsiCancelDir reason 0 s)

/-- Whether a write to the standby page of a direction is ignored, with reason SWAP_PENDING (R283). -/
def tsiLocked (s : State) (d : Nat) : Bool := !(s.tsi.swap.getD d []).isEmpty || s.tsi.copy.getD d false

/-- TSI_WDATA: the standby entry at TSI_WIDX is written, and the index moves on (R282, R283). -/
def tsiWrite (m : Master) (v : Word) (s : State) : State :=
  let a := ra (pg .tsi) 0x110
  let w := getReg s a
  let d := fld w 31 31
  let n := fld w 12 0
  if tsiLocked s d then regErr m (ra (pg .tsi) 0x114) 0x40 s
  else
    let page := tsiStandby s d
    let t := s.tsi.pages.set page (spSet 0 (s.tsi.pages.getD page []) n (v &&& 0x80FF001F))
    setReg { s with tsi := { s.tsi with pages := t } } a (setFld w 12 0 (n + 1))

/-- TSI_COPY.GO: a copy of the active page begins (R283). -/
def tsiCopyGo (m : Master) (v : Word) (s : State) : State :=
  let d := fld v 31 31
  if !bit v 0 then s
  else if tsiLocked s d then regErr m (ra (pg .tsi) 0x120) 0x40 s
  else { s with tsi := { s.tsi with copy := s.tsi.copy.set d true } }

/-- TSI_COPY_DONE: the running copy of a direction ends. -/
def tsiCopyEnd (d : Nat) (s : State) : State :=
  if s.tsi.copy.getD d false then
    { s with tsi := { s.tsi with copy := s.tsi.copy.set d false,
                                 pages := s.tsi.pages.set (tsiStandby s d) (s.tsi.pages.getD (tsiActive s d) []) } }
  else s

/-- TSI_RIDX: the entry it names is loaded into TSI_RDATA (R283). -/
def tsiRead (v : Word) (s : State) : State :=
  let d := fld v 31 31
  let page := if bit v 30 then tsiStandby s d else tsiActive s d
  { s with tsi := { s.tsi with rdata := tsiAt s page (fld v 12 0) } }

/-! ### APS (R277-R281) -/

def apsOf (s : State) (n : Nat) : Aps := s.aps.getD n Aps.init
def apsA (s : State) (n : Nat) : Word := cfgReg s (ra (pg .aps) (0x400 + 8 * n))
def apsWork (s : State) (n : Nat) : Nat := fld (apsA s n) 7 0
def apsProt (s : State) (n : Nat) : Nat := fld (apsA s n) 23 16
def apsEn (s : State) (n : Nat) : Bool := bit (apsA s n) 31

/-- The enabled group whose WORK, or whose PROT, a tributary is. -/
def groupOfWork (s : State) (t : Nat) : Option Nat := (List.range 128).find? (fun n => apsEn s n && apsWork s n == t)
def groupOfProt (s : State) (t : Nat) : Option Nat := (List.range 128).find? (fun n => apsEn s n && apsProt s n == t)

/-- The tributary that stands for `t` at the take (R278). -/
def selected (s : State) (t : Nat) : Nat :=
  match groupOfWork s t with
  | some n => if (apsOf s n).sel then apsProt s n else t
  | none => t

/-- Errored CRC blocks of a framer in the last 8,000 ticks reach a threshold (R279). -/
def sdHere (s : State) (t thr : Nat) : Bool := thr != 0 && trbType s t != 1 && decide (thr ≤ ((tribOf s t).errs.map (·.2)).sum)

/-- Whether a group's framers differ in TYPE. -/
def apsCfgBad (s : State) (n : Nat) : Bool := apsEn s n && trbType s (apsWork s n) != trbType s (apsProt s n)

/-- The requests of a group as bits by their code of APS_STAT (R279). -/
def apsRequests (s : State) (n : Nat) : Nat :=
  let b := cfgReg s (ra (pg .aps) (0x404 + 8 * n))
  let cmd := regFld s (ra (pg .aps) (0x404 + 8 * n)) 31 29
  let w := apsWork s n
  let p := apsProt s n
  if !apsEn s n then 0
  else b2n (cmd == 1) * 2 + b2n (sigFail (tribOf s p).rep) * 4 + b2n (cmd == 2) * 8 + b2n (cmd == 3) * 16 +
    b2n (sigFail (tribOf s w).rep) * 32 + b2n (sdHere s p (fld b 15 0)) * 64 + b2n (sdHere s w (fld b 15 0)) * 128 +
    b2n (cmd == 4) * 256 + b2n (cmd == 5) * 512

/-- The deciding request of a mask: the lowest code present, 0 for none. -/
def apsDecide (m : Nat) : Nat := ((List.range 10).find? (fun k => k != 0 && m.testBit k)).getD 0

/-- The selection a request gives (true for PROT); none keeps the present one. -/
def apsSelect (req : Nat) (sel : Bool) : Bool :=
  if req = 0 then sel else req == 3 || req == 5 || req == 7 || req == 8

/-- One group at the boundary: requests of the tick before last decide (R281). -/
def apsOne (s : State) (n : Nat) : State :=
  let x := apsOf s n
  let asked := if s.dev.mode = .twinEmit then x.next ||| s.twin.peerAps.getD n 0 else x.next
  let bad := apsCfgBad s n
  let new : Aps :=
    if !apsEn s n then Aps.init
    else if !x.on then { sel := false, req := 0, cfgErr := bad, next := apsRequests s n, on := true }
    else if bad then { sel := false, req := 0, cfgErr := true, next := apsRequests s n, on := true }
    else
      let r := apsDecide asked
      { sel := apsSelect r x.sel, req := r, cfgErr := false, next := apsRequests s n, on := true }
  let s1 := { s with aps := s.aps.set n new }
  if x.on && new.on && x.sel != new.sel then event (pg .aps) 0 (bump (pg .aps) 0x200 1 s1) else s1

/-- Every group that is or was enabled. DEDUCED, unsafe (log entry 54). -/
def apsBoundary (s : State) : State := ((List.range 128).filter (fun n => apsEn s n || (apsOf s n).on)).foldl apsOne s

/-! ### Bundle entries (R288-R290) -/

def bcDir (c : List Word) : Nat := fld (c.getD 0 0) 30 30
def bcEn (c : List Word) : Bool := bit (c.getD 0 0) 31
def bcPeriod (c : List Word) : Nat := 2 ^ fld (c.getD 0 0) 29 28
def bcPhase (c : List Word) : Nat := fld (c.getD 0 0) 27 25
def bcSa (c : List Word) : Nat := fld (c.getD 0 0) 20 0
def bcWire (c : List Word) : Nat := fld (c.getD 1 0) 31 16
def bcFirst (c : List Word) : Nat := fld (c.getD 1 0) 12 0
def bcRepeatMax (c : List Word) : Nat := fld (c.getD 2 0) 31 28
def bcSubst (c : List Word) : Nat := fld (c.getD 2 0) 25 24
def bcK (c : List Word) : Nat := fld (c.getD 2 0) 22 16
def bcSlots (c : List Word) : Nat := fld (c.getD 2 0) 10 0
def bcOffset (c : List Word) : Nat := fld (c.getD 3 0) 16 0

/-- The staged configuration BUN_CFG0 to BUN_CFG7. -/
def bunStaged (s : State) : List Word := (List.range 8).map (fun k => getReg s (ra (pg .bun) (0x140 + 4 * k)))

/-- Whether an entry counts as enabled: EN is 1, or it still runs to the end of its period. -/
def bunBusy (x : Bun) : Bool := bcEn x.cfg || x.active

/-- Enabled entries other than `b`. -/
def bunOthers (s : State) (b : Nat) : List (List Word) := (s.buns.filter (fun p => p.1 != b && bunBusy p.2)).map (·.2.cfg)

/-- Whether two connection ranges overlap. -/
def bunOverlap (c d : List Word) : Bool := decide (bcFirst c < bcFirst d + bcSlots d) && decide (bcFirst d < bcFirst c + bcSlots c)

/-- The playout store an entry uses. -/
def bunStore (c : List Word) : Nat := if bcDir c = 1 then bcSlots c * (bcK c + bcPeriod c) else 0

/-- The rules of R289 that do not depend on EN. -/
def bunShape (c : List Word) : Bool :=
  let p := bcPeriod c
  decide (1 ≤ bcSlots c) && decide (bcSlots c ≤ 1024) && decide (bcFirst c + bcSlots c ≤ 8192) && decide (bcSlots c * p ≤ 1920) &&
  decide (bcPhase c < p) &&
  (if bcDir c = 1 then decide (p ≤ bcK c) && decide (bcK c ≤ 64) && bcSubst c != 3
   else decide (4000 ≤ bcOffset c) && decide (bcOffset c ≤ 100000))

/-- The rules of R289 for EN = 1. DEDUCED, unsafe (log entry 55). -/
def bunFits (s : State) (b : Nat) (c : List Word) : Bool :=
  let o := bunOthers s b
  let e := workSa s (bcSa c)
  let same := o.filter (fun d => bcDir d == bcDir c)
  !same.any (bunOverlap c) && e.st == 1 && e.dir == bcDir c &&
  (if bcDir c = 0 then !same.any (fun d => bcSa d == bcSa c)
   else !same.any (fun d => bcSa d == bcSa c && bcWire d == bcWire c) &&
     decide (bunStore c + (o.map bunStore).sum ≤ 1048576))

/-- BUN_CMD.WRITE (R289, R290). -/
def bunWriteCmd (m : Master) (s : State) : State :=
  let b := regFld s (ra (pg .bun) 0x120) 9 0
  let x := bunOf s b
  let c := bunStaged s
  let cmd := ra (pg .bun) 0x124
  if bunBusy x then
    if !bcEn c && setBit (c.getD 0 0) 31 (bcEn x.cfg) :: c.drop 1 == x.cfg then
      setBun b { x with cfg := c, change := if bcEn x.cfg then some (false, now s) else x.change } s
    else regErr m cmd 0x40 s
  else if !bunShape c || (bcEn c && !bunFits s b c) then regErr m cmd 0x06 s
  else pmChanged (256 + b) false (setBun b { Bun.init with cfg := c, change := if bcEn c then some (true, now s) else none } s)

/-- BUN_ST0 to BUN_ST7 of an entry. -/
def bunStatus (x : Bun) : List Word :=
  [wd (b2n x.active * 2 ^ 31 + b2n x.synced * 2 ^ 30 + b2n x.substing * 2 ^ 29 + x.repeats % 16), x.lastTick, wd x.ageLast, wd x.ageMax,
   wd x.marginMin, wd x.statusOr, 0, 0]

/-- BUN_CMD.READ (R288). -/
def bunReadCmd (s : State) : State :=
  let x := bunOf s (regFld s (ra (pg .bun) 0x120) 9 0)
  let s1 := (List.range 8).foldl (fun s k => setReg s (ra (pg .bun) (0x140 + 4 * k)) (x.cfg.getD k 0)) s
  { s1 with bunSt := bunStatus x }

/-- SYNCED of an entry changes. -/
def setSynced (b : Nat) (v : Bool) (s : State) : State :=
  if (bunOf s b).synced = v then s else event (pg .bun) 2 (modBun b (fun x => { x with synced := v }) s)

/-- An enable or disable that takes effect at a period start (R290). -/
def bunChangeOne (s : State) (b : Nat) : State :=
  let x := bunOf s b
  let start := (now s).toNat % bcPeriod x.cfg == bcPhase x.cfg
  match x.change with
  | some (true, t) =>
    if start && decide (2 ≤ tdiff (now s) t) then
      pmChanged (256 + b) true (setBun b { Bun.init with cfg := x.cfg, active := true } s)
    else s
  | some (false, t) =>
    if start && decide (1 ≤ tdiff (now s) t) then
      let s1 := setSynced b false s
      pmChanged (256 + b) true (modBun b (fun x =>
        { x with active := false, change := none, substing := false, repeats := 0, takes := [], held := [], lost := [] }) s1)
    else s
  | none => s

/-- Entries in use, by number. -/
def bunNums (s : State) (p : Bun → Bool) : List Nat := (s.buns.filter (fun e => p e.2)).map (·.1)

/-- The enables and disables due at the boundary. -/
def bunChanges (s : State) : State := (bunNums s (fun x => x.change.isSome)).foldl bunChangeOne s

/-! ### Assembly (R286, R291-R294) -/

/-- The byte a connection of the encrypt page reads at the take (R278, R286).
DEDUCED, unsafe (log entry 53). -/
def encByte (s : State) (w : Word) : Byte :=
  let t := entTrib w
  if !bit w 31 || !trbOn s t || !trbOn s (selected s t) || !tsValid (trbType s t) (entTs w) then by8 (cfgFld s (ra (pg .tsi) 0x104) 7 0)
  else if (groupOfProt s t).isSome then 0xFF
  else byteAt (tribOf s (selected s t)).taken (entTs w)

/-- The connection entries of a bundle. -/
def bunEntries (s : State) (c : List Word) : List Word :=
  (List.range (bcSlots c)).map (fun j => tsiAt s (tsiActive s (bcDir c)) (bcFirst c + j))

/-- Ascending insertion without repeats. -/
def insNat (n : Nat) : List Nat → List Nat
  | [] => [n]
  | x :: r => if n < x then n :: x :: r else if n = x then x :: r else x :: insNat n r

/-- The tributaries a range names, ascending, at most 32 (R293). -/
def bunTribs (es : List Word) : List Nat := ((es.filter (fun w => bit w 31)).foldl (fun l w => insNat (entTrib w) l) []).take 32

/-- The status byte of a tributary at a take (R293). -/
def tribStatus (s : State) (t : Nat) : Nat :=
  let x := tribOf s (selected s t)
  b2n (sigFail x.rep) * 128 + b2n (x.rep == 1) * 64 + b2n x.slipNow * 32 + b2n (selected s t != t) * 16

/-- The take of one transmit bundle. -/
def bunTakeOne (s : State) (b : Nat) : State :=
  let x := bunOf s b
  let es := bunEntries s x.cfg
  let tk : BunTake := { bytes := es.map (encByte s), status := (bunTribs es).map (fun t => (t, tribStatus s t)) }
  let old := if (now s).toNat % bcPeriod x.cfg = bcPhase x.cfg then [] else x.takes
  setBun b { x with takes := old ++ [tk] } s

/-- Every active transmit bundle takes its bytes, then this tick's slips are forgotten. -/
def bunTakes (s : State) : State :=
  let s1 := (bunNums s (fun x => x.active && bcDir x.cfg == 0)).foldl bunTakeOne s
  { s1 with tribs := (s1.tribs.map (fun p => (p.1, { p.2 with slipNow := false }))).filter (fun p => decide (p.2 ≠ Trib.init)) }

/-- OR of the status bytes of a tributary over takes. -/
def statusOf (takes : List BunTake) (t : Nat) : Nat :=
  takes.foldl (fun a k => match k.status.find? (fun q => q.1 == t) with | some q => a ||| q.2 | none => a) 0

/-- The bundle header (R293). -/
def bunHeader (c : List Word) (t0 : Tick) (takes : List BunTake) : Bytes :=
  let ts := (takes.foldl (fun l k => k.status.foldl (fun l q => insNat q.1 l) l) []).take 32
  [by8 (0x10 + fld (c.getD 0 0) 29 28 * 4), 0] ++ beBytes 2 (bcWire c) ++ beBytes 4 t0.toNat ++ beBytes 2 (bcSlots c) ++
    [by8 ts.length, 0] ++ ts.flatMap (fun t => [by8 t, by8 (statusOf takes t)])

/-- A bundle frame without its FCS (R292). -/
def bunFrame (s : State) (c : List Word) (t0 : Tick) (takes : List BunTake) : Bytes :=
  let w5 := c.getD 5 0
  let tag := if bit w5 28 then [0x81, 0x00] ++ beBytes 2 (7 * 2 ^ 13 + fld w5 27 16) else []
  padMin (beBytes 2 (fld w5 15 0) ++ beBytes 4 (c.getD 4 0).toNat ++
    beBytes 2 (regFld s (ra (pg .bun) 0x108) 15 0) ++ beBytes 4 (getReg s (ra (pg .bun) 0x104)).toNat ++ tag ++
    beBytes 2 (cfgFld s (ra (pg .bun) 0x100) 15 0) ++ bunHeader c t0 takes ++ takes.flatMap (·.bytes))

/-- Meridian time of the present boundary, and of the boundary of another tick near it. -/
def tickStart (s : State) : Nat := s.time.mer / tickUnit * tickUnit
def merOfTick (s : State) (t : Tick) : Nat := ((tickStart s : Int) + (t - now s).toInt * (tickUnit : Int)).toNat

/-- Let time pass to a Meridian time within the tick. -/
def advanceMer (t : Nat) (s : State) : State :=
  if t ≤ s.time.mer then s else reap (advanceTo (s.time.clk + cdiv (t - s.time.mer) (perClock s.time.rate)) s)

/-- The bundle frame reaches its sequence point under its SA, and goes on to admission (R294). -/
def bunSequence (f : Frame) (s : State) : State :=
  let i := f.sa
  let c := carrier s i
  let f1 := { f with sa := c, gen := (saOf s c).gen, dest := recLine (saOf s c).record }
  if (saOf s i).st = 0 || (saOf s c).st = 0 || (saOf s c).dir != 0 || !saUsable s (saOf s c) then reject f 0x08 s
  else if (saOf s c).st = 2 && (saOf s c).faultSeq then reject f1 0x0D s
  else
    let d := seqDraw c s
    match d.1 with
    | none => reject f1 0x0C d.2
    | some n =>
      let s0 := if c = i then d.2 else bump (pg .ecl) 0x220 1 d.2
      let t := tagSelect (pg .bun) 2 { f1 with field := some n } s0
      let s1 := addFrame t.1 t.2
      let id := t.2.frames.nextId
      match frameOf s1 id with
      | some g => reachAdmission id (digestAdd g s1)
      | none => s1

/-- BUNDLE_ASSEMBLY: at OFFSET minus 2,000 ns of its launch tick a transmit bundle is assembled (R291). -/
def bunAssemble (b : Nat) (s : State) : State :=
  let x := bunOf s b
  let p := bcPeriod x.cfg
  if !(traffic s && x.active && bcDir x.cfg == 0 && x.takes.length == p && (now s).toNat % p == (bcPhase x.cfg + p - 1) % p) then s
  else
    let t0 := now s - wd (p - 1)
    let ofs := bcOffset x.cfg
    let s1 := advanceMer (tickStart s + (ofs - 2000) * nsUnit) (setBun b { x with takes := [] } s)
    let f := Frame.fresh .enc 16 (bunFrame s x.cfg t0 x.takes) s1.time.mer (now s)
    bunSequence { f with kind := .bundle, cls := 0, sa := bcSa x.cfg, launch := some (256 + b, tickStart s + ofs * nsUnit), bundle := b, btick := t0 } s1

/-! ### Reception (R296, R298, R316) -/

/-- A received bundle's fields: VERSION, PERIOD, BUNDLE_ID, TICK, SLOT_COUNT, statuses and payload. -/
structure BunRx where
  ok : Bool
  period : Nat
  wire : Nat
  tick : Tick
  slots : Nat
  status : List Nat
  payload : Bytes
deriving DecidableEq, Repr

/-- The bundle in a released frame: the header stands after the EtherType. -/
def readBundle (f : Bytes) : BunRx :=
  let o := etOff f + 2
  let b := f.drop o
  let n := (byteAt b 10).toNat
  let p := 2 ^ ((byteAt b 0).toNat / 4 % 4)
  let slots := beAt b 8 2
  let sts := (List.range n).map (fun j => (byteAt b (13 + 2 * j)).toNat)
  { ok := (byteAt b 0).toNat / 16 == 1 && decide (12 + 2 * n + slots * p ≤ b.length), period := p, wire := beAt b 2 2, tick := wd (beAt b 4 4),
    slots := slots, status := sts, payload := slice b (12 + 2 * n) (slots * p) }

/-- The active receive bundles of an SA. -/
def bunsOfSa (s : State) (i : Nat) : List Nat := bunNums s (fun x => x.active && bcDir x.cfg == 1 && bcSa x.cfg == i)

/-- A discarded received bundle: its counter, DISCARD and the bin of R304. DEDUCED, unsafe (log entry 55). -/
def bunDiscard (f : Frame) (reason off : Nat) (pm : Bool) (s : State) : State :=
  let s1 := event (pg .bun) 1 (bump (pg .bun) off 1 (discard f reason s))
  if pm then pmAdd (256 + f.bundle) 2 1 s1 else s1

/-- The deadline of a bundle (R297, R316): `own` says that this twin's own decrypt path released it. -/
def bunDeadline (s : State) (c : List Word) (t0 : Tick) (own : Bool) : Nat :=
  merOfTick s (t0 + wd (bcK c)) - (if own && s.dev.mode == .twinEmit then 5000 else 1000) * nsUnit

/-- Checks 4 to 6 of R296: the reason and its counter. -/
def bunTimely (s : State) (x : Bun) (t0 : Tick) (own : Bool) : Option (Nat × Nat) :=
  let ahead := tdiff t0 (now s)
  if 2 ≤ ahead && ahead ≤ 2 ^ 31 - 1 then some (0x62, 0x228)
  else if x.held.any (fun h => h.tick == t0) || x.done.contains t0 then some (0x63, 0x230)
  else if bunDeadline s x.cfg t0 own < s.time.mer then some (0x64, 0x220)
  else none

/-- `n` chunks of `k` bytes. -/
def chunks (k : Nat) : Nat → Bytes → List Bytes
  | 0, _ => []
  | n + 1, b => slice b 0 k :: chunks k n (b.drop k)

/-- The frame that stands for a received bundle of entry `b` in the records. -/
def bunHeldFrame (s : State) (b : Nat) : Frame :=
  let e := saOf s (bcSa (bunOf s b).cfg)
  { Frame.fresh .dec 0 [] s.time.mer (now s) with kind := .bundle, cls := recCls e.record, sa := bcSa (bunOf s b).cfg,
                                                  dest := recPlain e.record, bundle := b }

/-- A bundle is held, with its age and margin (R298). -/
def bunHoldIt (b : Nat) (t0 : Tick) (own : Bool) (port field status : Nat) (payload : Bytes) (s : State) : State :=
  let x := bunOf s b
  let age := min 0x7FFFFF ((s.time.mer - merOfTick s t0) / nsUnit)
  let margin := min 0x7FFFFF ((bunDeadline s x.cfg t0 own - s.time.mer) / nsUnit)
  let y := { x with held := x.held ++ [⟨t0, chunks (bcSlots x.cfg) (bcPeriod x.cfg) payload, port, field⟩], lastTick := t0, ageLast := age,
                    ageMax := max x.ageMax age, marginMin := min x.marginMin margin, statusOr := status }
  accrue (256 + b) (fun p => { p with lo := if p.lo = 0 then margin / 1000 + 1 else min p.lo (margin / 1000 + 1), hi := max p.hi (age / 1000) })
    (setBun b y s)

/-- A bundle forward (R316): bundle number, TICK, the status bytes behind their count, and the payload.
DESIGN CHOICE, unsafe (log entry 57). -/
def bunForwardBytes (b : Nat) (x : BunRx) : Bytes :=
  beBytes 2 b ++ beBytes 4 x.tick.toNat ++ [by8 x.status.length] ++ x.status.map by8 ++ x.payload

/-- OR of status bytes (BUN_ST5). -/
def orAll (l : List Nat) : Nat := l.foldl (· ||| ·) 0

/-- A released frame of a bundle's SA with BUN_ETYPE is checked and held (R296); it counts as emitted. -/
def bunReceive (f : Frame) (inner : Bytes) (s : State) : State :=
  let r := readBundle inner
  let g := { f with kind := .bundle, dest := recPlain (saOf s f.sa).record }
  let ids := bunsOfSa s f.sa
  let any := ids.headD 0
  if !r.ok then bunDiscard { g with bundle := any } 0x60 0x240 true s
  else match ids.find? (fun b => bcWire (bunOf s b).cfg == r.wire) with
    | none => bunDiscard { g with bundle := r.wire % 2048 } 0x61 0x238 false s
    | some b =>
      let x := bunOf s b
      let g := { g with bundle := b, btick := r.tick }
      if r.period != bcPeriod x.cfg || r.slots != bcSlots x.cfg || r.tick.toNat % bcPeriod x.cfg != bcPhase x.cfg then
        bunDiscard g 0x60 0x240 true s
      else match bunTimely s x r.tick true with
        | some (reason, off) => bunDiscard g reason off true s
        | none =>
          let s1 := bunHoldIt b r.tick true f.port (f.field.getD 0) (orAll r.status) r.payload (endTag f 0 (dropFrame f.id s))
          if s.dev.mode = .twinEmit then bump (pg .twn) 0x240 1 (oldSend 3 (bunForwardBytes b r) s1) else s1

/-- A forwarded bundle that fails a check is discarded as one of the twin's own (R296, R316): a record, its counter and its bin. Its
record has port 0 and no field. DESIGN CHOICE, unsafe (log entry 57). -/
def forwardFail (b reason off : Nat) (s : State) : State :=
  let f := bunHeldFrame s b
  pmAdd (256 + b) 2 1 (event (pg .bun) 1 (bump (pg .bun) off 1 (fail (frameErr s f reason 0) s)))

/-- BUNDLE_FORWARD_RX: a bundle of the partner is checked by 4 to 6 of R296, and held (R316). -/
def bunForwarded (bytes : Bytes) (s : State) : State :=
  match oldReceive 3 bytes s with
  | (some p, s1) =>
    let b := beAt p 0 2
    let t0 := wd (beAt p 2 4)
    let x := bunOf s1 b
    let n := (byteAt p 6).toNat
    if s.dev.mode != .twinEmit || !x.active || bcDir x.cfg != 1 then s1
    else match bunTimely s1 x t0 false with
      | some (reason, off) => forwardFail b reason off s1
      | none => bunHoldIt b t0 false 0 0 (orAll ((slice p 7 n).map (·.toNat))) (slice p (7 + n) (bcSlots x.cfg * bcPeriod x.cfg)) s1
  | (none, s1) => s1

/-! ### Playout and loss (R287, R297, R299-R301) -/

/-- A receive bundle is lost. -/
def bunLose (b : Nat) (t0 : Tick) (s : State) : State :=
  pmAdd (256 + b) 1 1 (event (pg .bun) 0 (bump (pg .bun) 0x218 1 (modBun b (fun x => { x with lost := x.lost ++ [t0] }) s)))

/-- BUNDLE_DEADLINE: the deadline of the bundle that would first play in the next tick (R299). -/
def bunMiss (b : Nat) (s : State) : State :=
  let x := bunOf s b
  let t0 := now s + 1 - wd (bcK x.cfg)
  if x.active && bcDir x.cfg == 1 && x.synced && !(s.dev.mode == .drain) && t0.toNat % bcPeriod x.cfg == bcPhase x.cfg &&
      !x.held.any (fun h => h.tick == t0) && !x.lost.contains t0 then
    bunLose b t0 (advanceMer (nextBoundary s - 1000 * nsUnit) s)
  else s

/-- What a bundle plays in a tick: its bytes, and whether a held bundle supplied them. -/
def bunPlayHeld (b : Nat) (i p : Nat) (t0 : Tick) (l : List Bytes) (s : State) : State :=
  let s1 := if i = 0 then setSynced b true (pmAdd (256 + b) 0 1 (bump (pg .bun) 0x210 1 s)) else s
  modBun b (fun x =>
    { x with played := l.getD i [], substing := false, repeats := 0, held := if i + 1 = p then x.held.filter (fun h => h.tick != t0) else x.held,
             done := if i + 1 = p then t0 :: x.done.filter (fun t => decide (tdiff t0 t < 2 ^ 31)) else x.done }) s1

/-- A tick of a lost bundle (R299): the bytes, with the repeats counted at the first tick of the bundle.
DEDUCED, unsafe (log entry 55). -/
def bunPlayLost (b i : Nat) (t0 : Tick) (s : State) : Bytes × State :=
  let s0 := if i = 0 && !(bunOf s b).lost.contains t0 then bunLose b t0 s else s
  let x := bunOf s0 b
  let c := x.cfg
  let n := bcSlots c
  let can := bcSubst c == 1 && decide (x.repeats < bcRepeatMax c)
  let covered := if i = 0 then can else x.lost.contains t0
  let y := if i = 0 then { x with repeats := if can then x.repeats + 1 else x.repeats, lost := if can then [t0] else [] } else x
  let bytes := if bcSubst c = 2 then List.replicate n (by8 (cfgFld s (ra (pg .tsi) 0x104) 7 0))
    else if bcSubst c = 1 && covered then slice x.played 0 n else List.replicate n 0xFF
  (bytes, pmAdd (256 + b) 3 1 (setBun b { y with substing := true } s0))

/-- One bundle plays its share of the tick: bytes, and whether they stand for nothing held. -/
def bunPlayOne (b : Nat) (s : State) : (Bytes × Bool) × State :=
  let x := bunOf s b
  let c := x.cfg
  let p := bcPeriod c
  let i := (((now s).toNat + 2 ^ 32 - bcK c) + p - bcPhase c) % p
  let t0 := now s - wd (bcK c + i)
  match x.held.find? (fun h => h.tick == t0) with
  | some h => ((h.bytes.getD i [], false), bunPlayHeld b i p t0 h.bytes s)
  | none =>
    if s.dev.mode = .drain || !x.synced then ((List.replicate (bcSlots c) 0xFF, true), s)
    else
      let r := bunPlayLost b i t0 s
      ((r.1, true), r.2)

/-- A byte played into a timeslot: tributary, timeslot, byte, and whether it is 0xFF by substitution. -/
abbrev Played := Nat × Nat × Byte × Bool

/-- Every active receive bundle plays. -/
def bunPlay (s : State) : List Played × State :=
  (bunNums s (fun x => x.active && bcDir x.cfg == 1)).foldl (fun a b =>
    let c := (bunOf a.2 b).cfg
    let r := bunPlayOne b a.2
    let es := bunEntries a.2 c
    let ps := (List.range (bcSlots c)).filterMap (fun j =>
      let w := es.getD j 0
      if bit w 31 && trbOn s (entTrib w) && tsValid (trbType s (entTrib w)) (entTs w) then
        some (entTrib w, entTs w, byteAt r.1.1 j, r.1.2 && byteAt r.1.1 j == 0xFF)
      else none)
    (a.1 ++ ps, r.2)) ([], s)

/-- The timeslots of a tributary for the tick: nothing stands for AIS (R287, R300). -/
def tribPayload (s : State) (ps : List Played) (t : Nat) : Option Bytes :=
  let mine := ps.filter (fun p => p.1 == t)
  if mine.isEmpty || mine.all (fun p => p.2.2.2) then none
  else
    let n := if trbType s t = 2 then 24 else 32
    some (mine.foldl (fun l p => l.set p.2.1 p.2.2.1) (List.replicate n (by8 (cfgFld s (ra (pg .tsi) 0x104) 7 0))))

/-- The egress signal of one framer in the tick: its bits, whether it is AIS, and the state after it. -/
def tribTx (ps : List Played) (a : List (Nat × List Bool × Bool) × State) (t : Nat) : List (Nat × List Bool × Bool) × State :=
  let r := egressFrame a.2 t (tribPayload a.2 ps t)
  (a.1 ++ [(t, r.1, r.2.1)], setTrib t r.2.2 a.2)

/-- The slot of a tributary in the outbound frame (R264, R265, R278). -/
def txSlot (s : State) (sig : List (Nat × List Bool × Bool)) (t : Nat) : Bytes :=
  let on := trbOn s t
  let n := frameBits s t
  let ais := slotBytes (n - 128) 192 (List.replicate n true)
  let quiet := slotBytes (n - 128) 64 (List.replicate n true)
  let of := fun (u : Nat) => match sig.find? (fun x => x.1 == u) with
    | some x => slotBytes (x.2.1.length - 128) (128 + b2n x.2.2 * 64) x.2.1
    | none => ais
  if !on then slotBytes 0xFF 0 []
  else
    let one := fun (n : Nat) (isProt : Bool) =>
      let w := apsWork s n
      if bit (apsA s n) 30 || (apsOf s n).sel == isProt then of w else quiet
    match groupOfWork s t, groupOfProt s t with
    | some n, _ => one n false
    | none, some n => one n true
    | none, none => of t

/-- TSI_PLAYOUT and the outbound highway frames of the tick. Timeslots are played in the traffic modes and in DRAIN; in every
other mode each tributary carries AIS. -/
def circuitTx (s : State) : State :=
  let r := if traffic s || s.dev.mode == .drain then bunPlay s else ([], s)
  let ts := (List.range 256).filter (trbOn s)
  let q := ts.foldl (tribTx r.1) ([], r.2)
  (List.range 8).foldl (fun s h =>
    if hwyRuns s h then hwySend h (hwyFrameBytes (now s) h ((List.range 32).map (fun k => txSlot s q.1 (32 * h + k)))) s else s) q.2

/-- A Meridian step empties every playout store; held bundles receive records (R29, R301). -/
def bunEmpty (s : State) : State :=
  (bunNums s (fun x => bcDir x.cfg == 1)).foldl (fun s b =>
    let x := bunOf s b
    let f := bunHeldFrame s b
    let rec1 := fun (s : State) (h : HeldBun) => fail (frameErr s { f with port := h.port, field := some h.field } 0x64 0) s
    let s1 := x.held.foldl (fun s h => bump (pg .bun) 0x220 1 (rec1 s h)) s
    setSynced b false (modBun b (fun x => { x with held := [], lost := [], repeats := 0, substing := false }) s1)) s

end Sys2Proof.Machine
end

