-- ==== Sys2Proof/Machine/Sha2.lean ====
section
/-! DEFINITION. SHA-256, SHA-384 and SHA-512 (FIPS 180-4), HMAC, and the key derivation of R429. -/

namespace Sys2Proof.Machine

def sha256K : List Nat :=
  [0x428A2F98, 0x71374491, 0xB5C0FBCF, 0xE9B5DBA5, 0x3956C25B, 0x59F111F1, 0x923F82A4, 0xAB1C5ED5] ++
  [0xD807AA98, 0x12835B01, 0x243185BE, 0x550C7DC3, 0x72BE5D74, 0x80DEB1FE, 0x9BDC06A7, 0xC19BF174] ++
  [0xE49B69C1, 0xEFBE4786, 0x0FC19DC6, 0x240CA1CC, 0x2DE92C6F, 0x4A7484AA, 0x5CB0A9DC, 0x76F988DA] ++
  [0x983E5152, 0xA831C66D, 0xB00327C8, 0xBF597FC7, 0xC6E00BF3, 0xD5A79147, 0x06CA6351, 0x14292967] ++
  [0x27B70A85, 0x2E1B2138, 0x4D2C6DFC, 0x53380D13, 0x650A7354, 0x766A0ABB, 0x81C2C92E, 0x92722C85] ++
  [0xA2BFE8A1, 0xA81A664B, 0xC24B8B70, 0xC76C51A3, 0xD192E819, 0xD6990624, 0xF40E3585, 0x106AA070] ++
  [0x19A4C116, 0x1E376C08, 0x2748774C, 0x34B0BCB5, 0x391C0CB3, 0x4ED8AA4A, 0x5B9CCA4F, 0x682E6FF3] ++
  [0x748F82EE, 0x78A5636F, 0x84C87814, 0x8CC70208, 0x90BEFFFA, 0xA4506CEB, 0xBEF9A3F7, 0xC67178F2]

def sha512K : List Nat :=
  [0x428A2F98D728AE22, 0x7137449123EF65CD, 0xB5C0FBCFEC4D3B2F, 0xE9B5DBA58189DBBC] ++
  [0x3956C25BF348B538, 0x59F111F1B605D019, 0x923F82A4AF194F9B, 0xAB1C5ED5DA6D8118] ++
  [0xD807AA98A3030242, 0x12835B0145706FBE, 0x243185BE4EE4B28C, 0x550C7DC3D5FFB4E2] ++
  [0x72BE5D74F27B896F, 0x80DEB1FE3B1696B1, 0x9BDC06A725C71235, 0xC19BF174CF692694] ++
  [0xE49B69C19EF14AD2, 0xEFBE4786384F25E3, 0x0FC19DC68B8CD5B5, 0x240CA1CC77AC9C65] ++
  [0x2DE92C6F592B0275, 0x4A7484AA6EA6E483, 0x5CB0A9DCBD41FBD4, 0x76F988DA831153B5] ++
  [0x983E5152EE66DFAB, 0xA831C66D2DB43210, 0xB00327C898FB213F, 0xBF597FC7BEEF0EE4] ++
  [0xC6E00BF33DA88FC2, 0xD5A79147930AA725, 0x06CA6351E003826F, 0x142929670A0E6E70] ++
  [0x27B70A8546D22FFC, 0x2E1B21385C26C926, 0x4D2C6DFC5AC42AED, 0x53380D139D95B3DF] ++
  [0x650A73548BAF63DE, 0x766A0ABB3C77B2A8, 0x81C2C92E47EDAEE6, 0x92722C851482353B] ++
  [0xA2BFE8A14CF10364, 0xA81A664BBC423001, 0xC24B8B70D0F89791, 0xC76C51A30654BE30] ++
  [0xD192E819D6EF5218, 0xD69906245565A910, 0xF40E35855771202A, 0x106AA07032BBD1B8] ++
  [0x19A4C116B8D2D0C8, 0x1E376C085141AB53, 0x2748774CDF8EEB99, 0x34B0BCB5E19B48A8] ++
  [0x391C0CB3C5C95A63, 0x4ED8AA4AE3418ACB, 0x5B9CCA4F7763E373, 0x682E6FF3D6B2B8A3] ++
  [0x748F82EE5DEFB2FC, 0x78A5636F43172F60, 0x84C87814A1F0AB72, 0x8CC702081A6439EC] ++
  [0x90BEFFFA23631E28, 0xA4506CEBDE82BDE9, 0xBEF9A3F7B2C67915, 0xC67178F2E372532B] ++
  [0xCA273ECEEA26619C, 0xD186B8C721C0C207, 0xEADA7DD6CDE0EB1E, 0xF57D4F7FEE6ED178] ++
  [0x06F067AA72176FBA, 0x0A637DC5A2C898A6, 0x113F9804BEF90DAE, 0x1B710B35131C471B] ++
  [0x28DB77F523047D84, 0x32CAAB7B40C72493, 0x3C9EBE0A15C9BEBC, 0x431D67C49C100D4C] ++
  [0x4CC5D4BECB3E42B6, 0x597F299CFC657E2A, 0x5FCB6FAB3AD6FAEC, 0x6C44198C4A475817]

def sha256Init : List Nat :=
  [0x6A09E667, 0xBB67AE85, 0x3C6EF372, 0xA54FF53A, 0x510E527F, 0x9B05688C, 0x1F83D9AB, 0x5BE0CD19]

def sha512Init : List Nat :=
  [0x6A09E667F3BCC908, 0xBB67AE8584CAA73B, 0x3C6EF372FE94F82B, 0xA54FF53A5F1D36F1] ++
  [0x510E527FADE682D1, 0x9B05688C2B3E6C1F, 0x1F83D9ABFB41BD6B, 0x5BE0CD19137E2179]

def sha384Init : List Nat :=
  [0xCBBB9D5DC1059ED8, 0x629A292A367CD507, 0x9159015A3070DD17, 0x152FECD8F70E5939] ++
  [0x67332667FFC00B31, 0x8EB44A8768581511, 0xDB0C2E0D64F98FA7, 0x47B5481DBEFA4FA4]

/-- The parameters in which the two widths of SHA-2 differ. -/
structure Sha2Par where
  w : Nat
  rounds : Nat
  k : List Nat
  big0 : Nat × Nat × Nat
  big1 : Nat × Nat × Nat
  small0 : Nat × Nat × Nat
  small1 : Nat × Nat × Nat
  deriving DecidableEq, Repr

def sha256Par : Sha2Par := ⟨32, 64, sha256K, (2, 13, 22), (6, 11, 25), (7, 18, 3), (17, 19, 10)⟩
def sha512Par : Sha2Par := ⟨64, 80, sha512K, (28, 34, 39), (14, 18, 41), (1, 8, 7), (19, 61, 6)⟩

/-- Rotate right in `w` bits. -/
def rotr (w n x : Nat) : Nat := (x / 2 ^ n) ||| (x * 2 ^ (w - n) % 2 ^ w)

def shaBig (w : Nat) (r : Nat × Nat × Nat) (x : Nat) : Nat := rotr w r.1 x ^^^ rotr w r.2.1 x ^^^ rotr w r.2.2 x
def shaSmall (w : Nat) (r : Nat × Nat × Nat) (x : Nat) : Nat := rotr w r.1 x ^^^ rotr w r.2.1 x ^^^ (x / 2 ^ r.2.2)

/-- One round; the message schedule is a sliding window of 16 words, oldest first. -/
def shaRounds (p : Sha2Par) : List Nat → List Nat → List Nat → List Nat
  | [], _, st => st
  | k :: ks, win, st =>
    let m := 2 ^ p.w
    let g := fun i => st.getD i 0
    let e := g 4
    let ch := (e &&& g 5) ^^^ ((m - 1 - e) &&& g 6)
    let t1 := (g 7 + shaBig p.w p.big1 e + ch + k + win.getD 0 0) % m
    let maj := (g 0 &&& g 1) ^^^ (g 0 &&& g 2) ^^^ (g 1 &&& g 2)
    let t2 := (shaBig p.w p.big0 (g 0) + maj) % m
    let nw := (shaSmall p.w p.small1 (win.getD 14 0) + win.getD 9 0 + shaSmall p.w p.small0 (win.getD 1 0) + win.getD 0 0) % m
    shaRounds p ks (win.drop 1 ++ [nw]) [(t1 + t2) % m, g 0, g 1, g 2, (g 3 + t1) % m, g 4, g 5, g 6]

def shaWords (n : Nat) : Nat → Bytes → List Nat
  | 0, _ => []
  | k + 1, bs => beNat (bs.take n) :: shaWords n k (bs.drop n)

def shaBlocks (p : Sha2Par) : Nat → Bytes → List Nat → List Nat
  | 0, _, st => st
  | k + 1, bs, st =>
    if bs.isEmpty then st
    else
      let n := p.w / 8
      let r := shaRounds p p.k (shaWords n 16 bs) st
      shaBlocks p k (bs.drop (16 * n)) (List.zipWith (fun a b => (a + b) % 2 ^ p.w) st r)

/-- The padded message of FIPS 180-4. -/
def shaPad (p : Sha2Par) (msg : Bytes) : Bytes :=
  let blk := 2 * p.w
  let lenB := p.w / 4
  let z := (blk - (msg.length + 1 + lenB) % blk) % blk
  msg ++ [0x80] ++ zeros z ++ beBytes lenB (msg.length * 8)

def sha2 (p : Sha2Par) (init : List Nat) (outLen : Nat) (msg : Bytes) : Bytes :=
  let m := shaPad p msg
  ((shaBlocks p (m.length / (2 * p.w) + 1) m init).flatMap (beBytes (p.w / 8))).take outLen

def sha256 (msg : Bytes) : Bytes := sha2 sha256Par sha256Init 32 msg
def sha384 (msg : Bytes) : Bytes := sha2 sha512Par sha384Init 48 msg
def sha512 (msg : Bytes) : Bytes := sha2 sha512Par sha512Init 64 msg

/-- HMAC over a hash with block length `blk`. -/
def hmac (h : Bytes → Bytes) (blk : Nat) (key msg : Bytes) : Bytes :=
  let k := if key.length > blk then h key else key
  let k := slice k 0 blk
  h (k.map (· ^^^ 0x5C) ++ h (k.map (· ^^^ 0x36) ++ msg))

def hmacSha384 (key msg : Bytes) : Bytes := hmac sha384 128 key msg

/-- The label of a derivation as ASCII bytes. -/
def ascii (s : String) : Bytes := s.toList.map (fun c => by8 c.toNat)

/-- The counter-mode KDF of SP 800-108 with HMAC-SHA-384 (R429): counter, label, zero byte, context, output length. -/
def kdf (key : Bytes) (label : String) (ctx : Bytes) (bits : Nat) : Bytes :=
  let one := fun i => hmacSha384 key (beBytes 4 i ++ ascii label ++ [0] ++ ctx ++ beBytes 4 bits)
  (((List.range (cdiv bits 384)).flatMap (fun i => one (i + 1)))).take (bits / 8)

end Sys2Proof.Machine
end

