-- ==== Sys2Proof/Machine/Ec.lean ====
section
/-! DEFINITION. The public-key arithmetic of the PKE (R443-R446) and the attestation key of R429 and R430: short-Weierstrass
curves, X25519 (RFC 7748), Ed25519 (RFC 8032), RSA and Miller-Rabin. -/

namespace Sys2Proof.Machine

/-! ### Modular arithmetic -/

/-- The bits of a number, most significant first. -/
def bitsOf (n : Nat) : List Bool := (List.range (Nat.log2 n + 1)).reverse.map n.testBit

/-- b^e mod m. -/
def powMod (b e m : Nat) : Nat := (bitsOf e).foldl (fun a x => if x then a * a % m * b % m else a * a % m) (1 % m)

/-- The inverse modulo a prime, and subtraction modulo m. -/
def invMod (a p : Nat) : Nat := powMod a (p - 2) p
def subMod (a b m : Nat) : Nat := (a + (m - b % m)) % m

/-! ### Short-Weierstrass curves -/

/-- A point: `none` is the point at infinity. -/
abbrev Point := Option (Nat × Nat)

/-- y² = x³ + ax + b, with both coordinates below p. -/
def onCurve (c : Curve) (x y : Nat) : Bool :=
  decide (x < c.p) && decide (y < c.p) && y * y % c.p == (x * x % c.p * x + c.a * x + c.b) % c.p

/-- The third point of a line with slope `l`. -/
def chord (c : Curve) (l x1 y1 x2 : Nat) : Point :=
  let x := subMod (subMod (l * l % c.p) x1 c.p) x2 c.p
  some (x, subMod (l * subMod x1 x c.p % c.p) y1 c.p)

/-- Addition of points. -/
def ecAdd (c : Curve) : Point → Point → Point
  | none, q => q
  | p, none => p
  | some (x1, y1), some (x2, y2) =>
    if x1 = x2 then
      if (y1 + y2) % c.p = 0 then none
      else chord c ((3 * x1 * x1 + c.a) % c.p * invMod (2 * y1) c.p % c.p) x1 y1 x2
    else chord c (subMod y2 y1 c.p * invMod (subMod x2 x1 c.p) c.p % c.p) x1 y1 x2

/-- k times a point. -/
def ecMul (c : Curve) (k : Nat) (p : Point) : Point :=
  (bitsOf k).foldl (fun a x => if x then ecAdd c (ecAdd c a a) p else ecAdd c a a) none

/-- The base point. -/
def Curve.base (c : Curve) : Point := some (c.gx, c.gy)

/-- The curves of FIPS 186. -/
def p256 : Curve :=
  { p := 0xFFFFFFFF00000001000000000000000000000000FFFFFFFFFFFFFFFFFFFFFFFF
    a := 0xFFFFFFFF00000001000000000000000000000000FFFFFFFFFFFFFFFFFFFFFFFC
    b := 0x5AC635D8AA3A93E7B3EBBD55769886BC651D06B0CC53B0F63BCE3C3E27D2604B
    gx := 0x6B17D1F2E12C4247F8BCE6E563A440F277037D812DEB33A0F4A13945D898C296
    gy := 0x4FE342E2FE1A7F9B8EE7EB4A7C0F9E162BCE33576B315ECECBB6406837BF51F5
    n := 0xFFFFFFFF00000000FFFFFFFFFFFFFFFFBCE6FAADA7179E84F3B9CAC2FC632551
    h := 1 }

def p384 : Curve :=
  { p := 2 ^ 384 - 2 ^ 128 - 2 ^ 96 + 2 ^ 32 - 1
    a := 2 ^ 384 - 2 ^ 128 - 2 ^ 96 + 2 ^ 32 - 4
    b := 0xB3312FA7E23EE7E4988E056BE3F82D19181D9C6EFE8141120314088F5013875AC656398D8A2ED19D2A85C8EDD3EC2AEF
    gx := 0xAA87CA22BE8B05378EB1C71EF320AD746E1D3B628BA79B9859F741E082542A385502F25DBF55296C3A545E3872760AB7
    gy := 0x3617DE4A96262C6F5D9E98BF9292DC29F8F41DBD289A147CE9DA3113B5F0B8C00A60B1CE1D7E819D7A431D7C90EA0E5F
    n := 0xFFFFFFFFFFFFFFFFFFFFFFFFFFFFFFFFFFFFFFFFFFFFFFFFC7634D81F4372DDF581A0DB248B0A77AECEC196ACCC52973
    h := 1 }

def p521 : Curve :=
  { p := 2 ^ 521 - 1
    a := 2 ^ 521 - 4
    b := 0x0051953EB9618E1C9A1F929A21A0B68540EEA2DA725B99B315F3B8B489918EF109E156193951EC7E937B1652C0BD3BB1BF073573DF883D2C34F1EF451FD46B503F00
    gx := 0x00C6858E06B70404E9CD9E3ECB662395B4429C648139053FB521F828AF606B4D3DBAA14B5E77EFE75928FE1DC127A2FFA8DE3348B3C1856A429BF97E7E31C2E5BD66
    gy := 0x011839296A789A3BC0045C8A5FB42C7D1BD998F54449579B446817AFBD17273E662C97EE72995EF42640C550B9013FAD0761353C7086A272C24088BE94769FD16650
    n := 2 ^ 521 - 0x5AE79787C40D069948033FEB708F65A2FC44A36477663B851449048E16EC79BF7
    h := 1 }

/-! ### ECDSA -/

/-- A signature (r, s) of hash number `e` under `d` with per-signature `k`. -/
def ecdsaSign (c : Curve) (d e k : Nat) : Nat × Nat :=
  let r := match ecMul c k c.base with
    | some (x, _) => x % c.n
    | none => 0
  (r, invMod k c.n * ((e + r * d) % c.n) % c.n)

/-- Whether (r, s) is a signature of `e` under Q. -/
def ecdsaOk (c : Curve) (qx qy e r s : Nat) : Bool :=
  if r = 0 || s = 0 || c.n ≤ r || c.n ≤ s then false
  else
    let w := invMod s c.n
    match ecAdd c (ecMul c (e * w % c.n) c.base) (ecMul c (r * w % c.n) (some (qx, qy))) with
    | some (x, _) => x % c.n == r
    | none => false

/-! ### Curve25519 and Ed25519 -/

def q25519 : Nat := 2 ^ 255 - 19

/-- One step of the Montgomery ladder of RFC 7748 on (x2, z2, x3, z3). -/
def ladder (u : Nat) (b : Bool) (s : Nat × Nat × Nat × Nat) : Nat × Nat × Nat × Nat :=
  let q := q25519
  let sw := fun (t : Nat × Nat × Nat × Nat) => if b then (t.2.2.1, t.2.2.2, t.1, t.2.1) else t
  let t := sw s
  let a := t.1 + t.2.1
  let bb := subMod t.1 t.2.1 q
  let aa := a * a % q
  let bs := bb * bb % q
  let e := subMod aa bs q
  let da := subMod t.2.2.1 t.2.2.2 q * a % q
  let cb := (t.2.2.1 + t.2.2.2) * bb % q
  let x3 := (da + cb) * (da + cb) % q
  let dm := subMod da cb q
  sw (aa * bs % q, e * ((aa + 121665 * e) % q) % q, x3, u * (dm * dm % q) % q)

/-- X25519 of a scalar and a u-coordinate as numbers. -/
def x25519 (k u : Nat) : Nat :=
  let k1 := k % 2 ^ 254 / 8 * 8 + 2 ^ 254
  let u1 := u % 2 ^ 255 % q25519
  let s := ((List.range 255).reverse).foldl (fun s i => ladder u1 (k1.testBit i) s) (1, 0, u1, 1)
  s.1 * invMod s.2.1 q25519 % q25519

/-- The constant d, the base point and the order of Ed25519. -/
def edD : Nat := subMod 0 (121665 * invMod 121666 q25519) q25519
def edBase : Nat × Nat :=
  (0x216936D3CD6E53FEC0A4E231FDD6DC5C692CC7609525A7B2C9562D608F25D51A,
   0x6666666666666666666666666666666666666666666666666666666666666658)
def edL : Nat := 2 ^ 252 + 27742317777372353535851937790883648493

/-- Addition on the twisted Edwards curve. -/
def edAdd (p r : Nat × Nat) : Nat × Nat :=
  let q := q25519
  let t := edD * (p.1 * r.1 % q) % q * (p.2 * r.2 % q) % q
  ((p.1 * r.2 + p.2 * r.1) % q * invMod (1 + t) q % q, (p.2 * r.2 + p.1 * r.1) % q * invMod (subMod 1 t q) q % q)

/-- k times a point. -/
def edMul (k : Nat) (p : Nat × Nat) : Nat × Nat :=
  (bitsOf k).foldl (fun a x => if x then edAdd (edAdd a a) p else edAdd a a) (0, 1)

/-- The 32 bytes of a point, and the point 32 bytes encode. -/
def edEnc (p : Nat × Nat) : Bytes := leBytes 32 (p.2 + p.1 % 2 * 2 ^ 255)
def edDec (b : Bytes) : Option (Nat × Nat) :=
  let v := leNat b
  let y := v % 2 ^ 255
  let q := q25519
  if q ≤ y then none
  else
    let x2 := subMod (y * y) 1 q * invMod (edD * (y * y % q) + 1) q % q
    let r := powMod x2 ((q + 3) / 8) q
    let x := if r * r % q = x2 then r else r * powMod 2 ((q - 1) / 4) q % q
    if x * x % q != x2 || (x == 0 && v / 2 ^ 255 % 2 == 1) then none
    else some (if x % 2 = v / 2 ^ 255 % 2 then x else q - x, y)

/-- The secret scalar and prefix of a seed. -/
def edSecret (seed : Bytes) : Nat × Bytes :=
  let h := sha512 seed
  (leNat (h.take 32) % 2 ^ 254 / 8 * 8 + 2 ^ 254, h.drop 32)

/-- Ed25519 signatures. -/
def edSign (seed msg : Bytes) : Bytes :=
  let s := edSecret seed
  let a := edEnc (edMul s.1 edBase)
  let r := leNat (sha512 (s.2 ++ msg)) % edL
  let rb := edEnc (edMul r edBase)
  let k := leNat (sha512 (rb ++ a ++ msg)) % edL
  rb ++ leBytes 32 ((r + k * s.1) % edL)
def edVerify (pub sig msg : Bytes) : Bool :=
  match edDec pub, edDec (sig.take 32) with
  | some a, some r =>
    let k := leNat (sha512 (sig.take 32 ++ pub ++ msg)) % edL
    let s := leNat (sig.drop 32)
    decide (s < edL) && edMul s edBase == edAdd r (edMul k a)
  | _, _ => false

/-! ### RSA and primality -/

/-- c^d mod n by the Chinese remainder theorem. -/
def rsaCrt (p q dp dq qinv c : Nat) : Nat :=
  let m1 := powMod c dp p
  let m2 := powMod c dq q
  m2 + qinv * subMod m1 m2 p % p * q

/-- Whether squaring `x` up to `n` more times reaches m - 1. -/
def mrSquares (m : Nat) : Nat → Nat → Bool
  | 0, x => x == m - 1
  | n + 1, x => x == m - 1 || mrSquares m n (x * x % m)

/-- The number of times 2 divides `n`, within `k`. -/
def twoPower : Nat → Nat → Nat
  | 0, _ => 0
  | k + 1, n => if n % 2 = 0 then 1 + twoPower k (n / 2) else 0

/-- One round of Miller-Rabin with witness `a`. -/
def mrRound (m a : Nat) : Bool :=
  let r := twoPower (Nat.log2 m) (m - 1)
  let x := powMod a ((m - 1) / 2 ^ r) m
  x == 1 || mrSquares m (r - 1) x

/-- 64 rounds, the witness of round i being free. -/
def isPrime (m : Nat) (wit : Nat → Nat) : Bool :=
  if m < 4 then decide (2 ≤ m)
  else m % 2 == 1 && (List.range 64).all (fun i => mrRound m (wit i % (m - 3) + 2))

/-- The conditions of LOAD_CURVE (R444). -/
def curveOk (c : Curve) (wit : Nat → Nat) : Bool :=
  decide (c.p < 2 ^ 521) && isPrime c.p wit && decide (c.a < c.p) && decide (c.b < c.p) && decide (c.gx < c.p) &&
  decide (c.gy < c.p) && (4 * c.a * c.a * c.a + 27 * c.b * c.b) % c.p != 0 && onCurve c c.gx c.gy && isPrime c.n wit &&
  c.n != c.p && (ecMul c c.n c.base).isNone &&
  (let t := max (c.h * c.n) (c.p + 1) - min (c.h * c.n) (c.p + 1)
   decide (t * t ≤ 4 * c.p))

/-! ### Identity (R429, R430) -/

/-- The attestation key. -/
def dAtt : Nat := beNat (kdf ((List.range 32).map Config.dus) "DX32 ATTEST" [] 384) % (p384.n - 1) + 1

/-- The attestation public key, x then y. -/
def attPub : Bytes :=
  match ecMul p384 dAtt p384.base with
  | some (x, y) => beBytes 48 x ++ beBytes 48 y
  | none => zeros 96

/-- DEVICE_ID as its 8 bytes, and as a number. -/
def devIdBytes : Bytes := (sha384 attPub).take 8
def devId : Nat := beNat devIdBytes

/-- x coordinate of d_att × Q, 48 bytes. -/
def attShared (qx qy : Nat) : Bytes :=
  match ecMul p384 dAtt (some (qx, qy)) with
  | some (x, _) => beBytes 48 x
  | none => zeros 48

end Sys2Proof.Machine
end

