-- ==== Sys2Proof/Machine/Learn.lean ====
section
/-! DEFINITION. Learning and its notices (R131-R134), the Survey sweeper's visits and ageing (R135-R139) and Survey compare
(R140-R142). -/

namespace Sys2Proof.Machine

/-! ### Working image of the Gazetteer -/

/-- The seeds of the working image. -/
def workSeed0 (s : State) : Word := getReg s (ra (pg .gaz) 0x100)
def workSeed1 (s : State) : Word := getReg s (ra (pg .gaz) 0x104)

/-- The working image's entry of a match string. -/
def workFind (s : State) (kind port key : Nat) : Option (Nat × GazEntry) :=
  gazFind s.gaz.work (workSeed0 s) (workSeed1 s) kind port key

/-- Replace the working image; one edit. -/
def setWork (t : GazTab) (s : State) : State := { s with gaz := { s.gaz with work := t, edits := s.gaz.edits + 1 } }

/-- Insert a new entry (R124): whether it found a place. DESIGN CHOICE, unsafe (log entry 41). -/
def gazInsert (e : GazEntry) (s : State) : Bool × State :=
  match gazPlace s.gaz.work (workSeed0 s) (workSeed1 s) e with
  | some (t, moves) => (true, bump (pg .gaz) 0x220 moves (setWork t s))
  | none => (false, event (pg .gaz) 0 (bump (pg .gaz) 0x218 1 s))

/-- The slots of the working image that hold a match string: both candidate buckets are searched. -/
def slotsOf (s : State) (kind port key : Nat) : List Nat :=
  (candidates (workSeed0 s) (workSeed1 s) kind port key).filter (fun n =>
    match slotGet s.gaz.work n with
    | some e => e.has kind port key
    | none => false)

/-- Write every slot that holds a match string. -/
def putSlots (kind port key : Nat) (e : Option GazEntry) (s : State) : State :=
  setWork ((slotsOf s kind port key).foldl (fun t n => slotSet t n e) s.gaz.work) s

/-! ### Notices (R132) -/

/-- The number a match string stands for. -/
def matchNum (kind port key : Nat) : Nat := kind * 2 ^ 132 + port * 2 ^ 128 + key

/-- Whether the holdoff of a match string and type lets a notice be written. -/
def holdoffPast (s : State) (type m : Nat) : Bool :=
  match s.lrn.recent.find? (fun r => r.1 == type && r.2.1 == m) with
  | some r => decide (regFld s (ra (pg .lrn) 0x100) 31 16 < tdiff (now s) r.2.2)
  | none => true

/-- The notices of the first 4,096 match strings among them. -/
def tracked (l : List (Nat × Nat × Tick)) : List (Nat × Nat × Tick) :=
  let strs := (l.map (·.2.1)).eraseDups.take 4096
  l.filter (fun r => strs.contains r.2.1)

/-- Remember a notice, newest first; with more than 4,096 match strings the one noticed longest ago is forgotten.
DESIGN CHOICE, unsafe (log entry 97). -/
def noteRecent (type m : Nat) (s : State) : State :=
  let rest := s.lrn.recent.filter (fun r => !(r.1 == type && r.2.1 == m))
  { s with lrn := { s.lrn with recent := tracked ((type, m, now s) :: rest) } }

/-- The 32 bytes of a notice. -/
def noticeBytes (type kind port key sa : Nat) (t : Tick) : Bytes :=
  leBytes 4 (type * 2 ^ 24 + kind * 2 ^ 20 + port * 2 ^ 16) ++ leBytes 4 sa ++ leBytes 4 t.toNat ++ zeros 4 ++ leBytes 16 key

/-- A notice of an observation or removal of tick `t` is written to the ring, given to the learning agent, or lost. -/
def notice (type kind port key sa : Nat) (t : Tick) (s : State) : State :=
  let m := matchNum kind port key
  let b := noticeBytes type kind port key sa t
  if !holdoffPast s type m then s
  else if bit (getReg s (ra (pg .lrn) 0x100)) 0 then bump (pg .lrn) 0x200 1 (emit (.agent 2 .plain port b none) (noteRecent type m s))
  else if (s.lrn.prod + 8192 - s.lrn.cons) % 8192 = 8191 then event (pg .lrn) 1 (bump (pg .lrn) 0x208 1 s)
  else
    let base := (getReg s (ra (pg .lrn) 0x104)).toNat / 4096 * 4096
    let s1 := (writeBar2 .record (base + 32 * s.lrn.prod) b (noteRecent type m s)).2
    bump (pg .lrn) 0x200 1 { s1 with lrn := { s1.lrn with prod := (s1.lrn.prod + 1) % 8192 } }

/-! ### Observation (R131, R133, R134) -/

/-- The enabled LRN_TRUNK entry that names a plain port whose profile learns (R133). -/
def trunkOf (s : State) (port : Nat) : Option Nat :=
  if !bit (cfgReg s (ra (pg .gaz) (0x180 + 4 * port))) 22 then none
  else (List.range 4).find? (fun i =>
    let r := cfgReg s (ra (pg .lrn) (0x110 + 4 * i))
    bit r 31 && fld r 27 24 == port)

/-- Two events for one match string, of one kind. -/
def sameEvent (a b : LearnEvent) : Bool := a.aged == b.aged && a.kind == b.kind && a.port == b.port && a.key == b.key

/-- Learn and ageing events that wait for their commit, those of this twin's tick lists among them. -/
def listEvents (l : List ListItem) : List LearnEvent := l.filterMap (fun x => match x with | .learn e => some e | _ => none)
def waitingEvents (s : State) : List LearnEvent := s.lrn.pend ++ s.twin.lists.flatMap (fun l => listEvents l.own)

/-- Add an item to this twin's tick list of the present tick (R311). -/
def listAdd (it : ListItem) (s : State) : State :=
  match s.twin.lists.find? (fun l => l.tick == now s) with
  | some _ =>
    { s with twin := { s.twin with lists := s.twin.lists.map (fun l => if l.tick = now s then { l with own := l.own ++ [it] } else l) } }
  | none =>
    let l : TickList := { tick := now s, own := [it], acked := false, peer := none, exclOwn := false, exclPeer := false }
    { s with twin := { s.twin with lists := s.twin.lists ++ [l] } }

/-- This twin's number (SYS_STRAP.TWIN_ID). -/
def twinId (s : State) : Nat := s.dev.strap / 2 % 2

/-- LRN_PEND: this twin's trunk observations that wait for their commit. DESIGN CHOICE, unsafe (log entry 97). -/
def learnPend (s : State) : Nat := (waitingEvents s).countP (fun e => !e.aged && e.twin == twinId s)

/-- An event that no one commits (R134). -/
def eventLost (s : State) : State := event (pg .lrn) 3 (bump (pg .lrn) 0x230 1 s)

/-- Queue a learn or ageing event: for the next boundary, or in TWIN_EMIT in the tick list (R134, R138); between F and T of a
realignment it is lost (R334). Only trunk observations fill the queue of 4,096. -/
def queueEvent (aged : Bool) (kind port key sa : Nat) (s : State) : State :=
  let e : LearnEvent := { aged := aged, port := port, key := key, kind := kind, sa := sa, tick := now s, due := now s + 1, twin := twinId s }
  if s.twin.alignFixed then eventLost s
  else if (waitingEvents s).any (sameEvent e) then s
  else if !aged && decide (4096 ≤ learnPend s) then eventLost s
  else if s.dev.mode = .twinEmit then listAdd (.learn e) s
  else { s with lrn := { s.lrn with pend := s.lrn.pend ++ [e] } }

/-- The learning observation of a frame released to a plain port under a receive SA. An SA in FAULT can still be the paired one;
an entry whose ACTION is not TX_SA counts as one with another SA; a record with PAIR_EN = 0 has no paired SA sourced at Pn.
DESIGN CHOICE, unsafe (log entry 97). -/
def observe (port : Nat) (rec : List Word) (inner : Bytes) (s : State) : State :=
  let prof := cfgReg s (ra (pg .gaz) (0x180 + 4 * port))
  if !(recLearn rec && bit prof 22 && !(byteAt inner 6).getLsbD 0) then s
  else
    let key := outerVid inner * 2 ^ 48 + beAt inner 6 6
    let sa := recPair rec
    let p := workSa s sa
    if !(recPairEn rec && p.st != 0 && p.dir == 0 && recPlain p.record == port) then
      notice 4 1 port key sa (now s) (bump (pg .lrn) 0x220 1 s)
    else match workFind s 1 port key, trunkOf s port with
      | some (_, e), t =>
        if e.action = 0 && e.sa = sa then s
        else match t with
          | none => notice 2 1 port key sa (now s) s
          | some _ => if e.dyn then queueEvent false 1 port key sa s else notice 6 1 port key sa (now s) (bump (pg .lrn) 0x228 1 s)
      | none, some _ => queueEvent false 1 port key sa s
      | none, none => notice 1 1 port key sa (now s) s

/-! ### Commit at clock 0 (R23, R133, R134, R138) -/

/-- An entry is removed by ageing (R136). -/
def ageOut (kind port key sa : Nat) (s : State) : State :=
  notice 5 kind port key sa (now s) (bump (pg .lrn) 0x238 1 (bump (pg .swp) 0x208 1 (putSlots kind port key none s)))

/-- A learned install on a trunk port, or its refusal at LIMIT. -/
def learnInstall (i : Nat) (e : LearnEvent) (s : State) : Bool × State :=
  let r := cfgReg s (ra (pg .lrn) (0x110 + 4 * i))
  let n : GazEntry := { kind := 1, port := e.port, key := e.key, dyn := true, age := true, hit := false, stale := false, action := 0,
                        cls := fld r 29 28, sa := e.sa }
  match workFind s 1 e.port e.key with
  | some (_, old) =>
    if !old.dyn || old.sa = e.sa then (false, s) else (true, bump (pg .lrn) 0x210 1 (putSlots 1 e.port e.key (some n) s))
  | none =>
    if fld r 20 0 ≤ learnedCount s.gaz.work e.port then
      let s1 := bump (pg .lrn) 0x218 1 s
      if s.lrn.atLimit.contains e.port then (false, s1)
      else
        (false, event (pg .lrn) 2 (notice 3 1 e.port e.key e.sa e.tick { s1 with lrn := { s1.lrn with atLimit := e.port :: s1.lrn.atLimit } }))
    else
      let q := gazInsert n { s with lrn := { s.lrn with atLimit := s.lrn.atLimit.filter (· != e.port) } }
      (q.1, if q.1 then bump (pg .lrn) 0x210 1 q.2 else q.2)

/-- Commit one event: whether it made an edit. -/
def learnOne (e : LearnEvent) (s : State) : Bool × State :=
  if e.aged then
    (match workFind s e.kind e.port e.key with
     | some (_, x) => (true, ageOut e.kind e.port e.key x.sa s)
     | none => (false, s))
  else match trunkOf s e.port with
    | some i => learnInstall i e s
    | none => (false, s)

/-- Commit events in order while fewer than 512 edits are made; the others stay, in order. -/
def learnLoop : List LearnEvent → Nat → List LearnEvent → State → List LearnEvent × State
  | [], _, keep, s => (keep.reverse, s)
  | e :: r, n, keep, s =>
    if 512 ≤ n then learnLoop r n (e :: keep) s
    else
      let q := learnOne e s
      learnLoop r (if q.1 then n + 1 else n) keep (if q.1 then { q.2 with grt := { q.2.grt with learn := q.2.grt.learn + 1 } } else q.2)

/-- The learning events due at the boundary: ageing removals ahead of installs. -/
def learnCommit (s : State) : State :=
  let due := s.lrn.pend.filter (fun e => isDue (now s) e.due)
  let late := s.lrn.pend.filter (fun e => !isDue (now s) e.due)
  let q := learnLoop (due.filter (·.aged) ++ due.filter (fun e => !e.aged)) 0 [] s
  { q.2 with lrn := { q.2.lrn with pend := q.1 ++ late } }

/-! ### Sweeper visits (R135-R139) -/

/-- A record enters the mismatch FIFO, or is lost (SWP page). -/
def misRecord (type index : Nat) (s : State) : State :=
  if s.swp.mis.length < 256 then
    bump (pg .swp) 0x228 1 { s with swp := { s.swp with mis := s.swp.mis ++ [(type, index, now s)] } }
  else event (pg .swp) 3 (bump (pg .swp) 0x230 1 s)

/-- Whether the present sweep is an ageing sweep (R135). -/
def ageing (s : State) : Bool :=
  let r := getReg s (ra (pg .swp) 0x100)
  bit r 31 && (now s).toNat / 128 % 2 ^ fld r 3 0 == 0

/-- The ageing part of a visit (R136-R138); `hit` says that a data-path hit sets HIT in the clock of the test, which keeps an
entry that was about to go (R137). A joiner removes nothing: it takes its partner's removals (R333).
DESIGN CHOICE, safe (log entry 42). DESIGN CHOICE, unsafe (log entry 97). -/
def ageVisit (slot : Nat) (hit : Bool) (s : State) : State :=
  match slotGet s.gaz.work slot with
  | none => s
  | some e =>
    let put := fun (x : GazEntry) => { s with gaz := { s.gaz with work := slotSet s.gaz.work slot (some x) } }
    if !(ageing s && e.age) then s
    else if e.hit then put { e with hit := false, stale := false }
    else if !e.stale then put { e with stale := true }
    else if hit then bump (pg .swp) 0x210 1 (put { e with hit := true })
    else if s.dev.mode = .twinJoin then s
    else if s.twin.alignFixed then eventLost s
    else if s.dev.mode = .twinEmit then (if twinId s = 0 then queueEvent true e.kind e.port e.key e.sa s else s)
    else ageOut e.kind e.port e.key e.sa s

/-- SWEEPER_VISIT: the slots of a tick are visited in ascending order, each once; `bad` says that its check code fails. -/
def sweeperVisit (slot : Nat) (bad hit : Bool) (s : State) : State :=
  let lo := (now s).toNat % 128 * 16384
  if slot < lo || lo + 16384 ≤ slot || slot < s.swp.visited then s
  else
    let s1 := bump (pg .swp) 0x200 1 { s with swp := { s.swp with visited := slot + 1 } }
    if bad then
      event (pg .swp) 2 (misRecord 4 slot (bump (pg .swp) 0x218 1
        { s1 with gaz := { s1.gaz with work := slotSet s1.gaz.work slot none } }))
    else ageVisit slot hit s1

/-! ### Survey compare (R140-R142) -/

/-- The result of comparing a shadow record with the working image: skipped, equal, missing or different. -/
def shadowCompare (s : State) (b : Bytes) : Option Nat :=
  let w4 := wd (leNat (slice b 16 4))
  let w5 := wd (leNat (slice b 20 4))
  let key := leNat (slice b 0 16)
  match workFind s (fld w4 7 4) (fld w4 3 0) key with
  | none => some 1
  | some (_, e) =>
    if e.dyn || e.action != fld w5 25 24 || e.cls != fld w5 22 21 || e.sa != fld w5 20 0 || e.age != bit w4 9 then some 2 else none

/-- Whether a shadow record is valid. -/
def shadowValid (b : Bytes) : Bool := bit (wd (leNat (slice b 16 4))) 8

/-- One record of a pass. A record that cannot be read counts as skipped. DEDUCED, unsafe (log entry 43). -/
def compareOne (base : Nat) (s : State) (i : Nat) : State :=
  let r := readBar2 .record (base + 32 * i) 32 s
  match r.1 with
  | none => r.2
  | some b =>
    if !shadowValid b then r.2
    else
      let s1 := bump (pg .swp) 0x220 1 { r.2 with swp := { r.2.swp with survey := r.2.swp.survey.map (fun v => { v with seen := v.seen + 1 }) } }
      match shadowCompare s1 b with
      | some _ =>
        let due := now s + wd (regFld s (ra (pg .swp) 0x104) 7 0)
        { s1 with swp := { s1.swp with recheck := s1.swp.recheck ++ [(i, base, due)] } }
      | none => s1

/-- SURVEY_COMPARE_TICK: a running pass reads its next 16,384 records, once in a tick. -/
def surveyTick (s : State) : State :=
  match s.swp.survey with
  | some v =>
    if !v.active || v.count ≤ v.next || v.doneTick = some (now s) then s
    else
      let n := min 16384 (v.count - v.next)
      let s1 := { s with swp := { s.swp with survey := some { v with next := v.next + n, doneTick := some (now s) } } }
      ((List.range n).map (fun i => v.next + i)).foldl (compareOne v.base) s1
  | none => s

/-- SURVEY_RECHECK: a mismatched record whose delay has passed is read and compared afresh. -/
def surveyRecheck (rec : Nat) (s : State) : State :=
  match s.swp.recheck.find? (fun x => x.1 == rec && isDue (now s) x.2.2) with
  | none => s
  | some x =>
    let r := readBar2 .record (x.2.1 + 32 * rec) 32 { s with swp := { s.swp with recheck := s.swp.recheck.erase x } }
    match r.1 with
    | some b =>
      if !shadowValid b then r.2
      else match shadowCompare r.2 b with
        | some type => misRecord type rec r.2
        | none => r.2
    | none => r.2

/-- SURVEY_PASS_END: a pass that has read every record ends (R142). DEDUCED, unsafe (log entry 43). -/
def surveyPassEnd (s : State) : State :=
  match s.swp.survey with
  | some v =>
    if !v.active || v.next < v.count then s
    else
      let static := gazCount s.gaz.work - gazDynCount s.gaz.work
      let left := if v.rep then some { v with ord := none, active := false, next := 0, seen := 0 } else none
      let s1 := { s with swp := { s.swp with survey := left, passSeen := v.seen, passStatic := static, passEdits := s.gaz.edits } }
      let s2 := endOpt v.ord .ok 0 s1
      if v.seen != static then event (pg .swp) 1 (misRecord 3 0 s2) else s2
  | none => s

/-- The boundary's part of a compare: a stop takes effect, and a pass begins at a tick with T mod 128 = 0.
DEDUCED, unsafe (log entry 43). -/
def surveyBoundary (s : State) : State :=
  match s.swp.survey with
  | some v =>
    if v.stop && v.rep then endOpt v.ord .ok 0 { s with swp := { s.swp with survey := none } }
    else if !v.active && (now s).toNat % 128 == 0 then
      { s with swp := { s.swp with survey := some { v with active := true, next := 0, seen := 0 } }, gaz := { s.gaz with edits := 0 } }
    else s
  | none => s

/-- SURVEY_START (R140). -/
def surveyStart (ord : Nat) (base count : Nat) (rep : Bool) (s : State) : State :=
  if s.swp.survey.isSome then endOrder ord .busy 0 s
  else
    { s with swp := { s.swp with survey := some { ord := some ord, base := base, count := count, rep := rep, active := false, next := 0,
                                                  seen := 0, stop := false, doneTick := none } } }

end Sys2Proof.Machine
end

