-- ==== Sys2Proof/Machine/Chores.lean ====
section
/-! DEFINITION. The chore queue (R18-R25) and the items it commits: SA installs, imports, rewrites, erases and pins
(R147, R153-R158, R170, R171, R218, R225), Gazetteer edits (R126) and Contour edits (R128, R129). -/

namespace Sys2Proof.Machine

/-! ### The queue -/

/-- The part of the queue an item enters (R22). -/
def chorePart (agent : Bool) (twin : Nat) : Nat := (if agent then 2 else 0) + twin

/-- Items in a part. -/
def partLen (s : State) (p : Nat) : Nat := s.grt.queue.countP (fun c => c.part == p)

/-- Accept an item (R21). -/
def enqueue (part : Nat) (ord : Option Nat) (body : ChoreBody) (s : State) : State :=
  { s with grt := { s.grt with queue := s.grt.queue ++ [{ part := part, ord := ord, tick := now s, body := body, stalled := false }] } }

/-- STALL, once for each item whose age at the head reaches GRT_STALL_THR (R90). -/
def stallCheck (s : State) : State :=
  let thr := regFld s (ra (pg .grt) 0x120) 15 0
  match s.grt.queue with
  | c :: r =>
    if thr != 0 && !c.stalled && decide (thr ≤ tdiff (now s) c.tick) then
      event (pg .grt) 1 { s with grt := { s.grt with queue := { c with stalled := true } :: r } }
    else s
  | [] => s

/-- The kinds of item by budget: 0 SA, 1 Gazetteer, 2 Contour. -/
def choreKind : ChoreBody → Nat
  | .gaz _ => 1
  | .con _ => 2
  | _ => 0

/-- Whether the budget of a kind has room in this tick (R18, R23). -/
def budgetLeft (s : State) (k : Nat) : Bool :=
  if k = 0 then decide (s.grt.sa < 1024) else if k = 1 then decide (s.grt.gaz + s.grt.learn < 2048) else decide (s.grt.con < 64)

/-- Take one item from a budget. -/
def spend (k : Nat) (s : State) : State :=
  { s with grt := { s.grt with sa := s.grt.sa + (if k = 0 then 1 else 0), gaz := s.grt.gaz + (if k = 1 then 1 else 0),
                               con := s.grt.con + (if k = 2 then 1 else 0) } }

/-- What becomes of the head item: it does not fit and stops the queue for the tick (R21), it waits for a fill, or it is
carried out with a status. -/
inductive ChoreRes
  | stop (s : State)
  | fill (s : State)
  | take (st : Status) (s : State)

/-! ### Security associations -/

/-- The image at a BAR2 offset as an install reads it: 256 bytes, or 128 for an import under DX08 behaviour 2 (R147, R171). -/
def readImage (off : Nat) (imp : Bool) (s : State) : Option (List Word) × State :=
  if imp && behaviour s 2 then
    let r := readBar2 (.tircy 0) off 128 s
    (r.1.map from128, r.2)
  else
    let r := readBar2 (.tircy 0) off 256 s
    (r.1.map (bytesToWords 64), r.2)

/-- The ARG conditions of an install or import (R156, R170, R171, R225). -/
def installArg (s : State) (i : Nat) (img : List Word) (imp : Bool) : Bool :=
  (workSa s i).st != 0 || imageBad s img ||
  (imp && recDir img == 0 && (isLegacy (recSuite img) || behaviour s 2 || recNat img 62 2 != devId))

/-- The BUSY condition: a wide window without a free extended slot (R156). -/
def installBusy (s : State) (img : List Word) : Bool :=
  recDir img == 1 && decide (256 < recWin img) && (extFree s).isNone

/-- The gate of R156 and R218 on the counter a transmit SA binds to: SPENT, or a stale counter's advance to wait for (in a
realignment, BUSY, R334); `none` lets the item go on. -/
def bindGate (s : State) (c : Nat) : Option ChoreRes :=
  let a := almOf s c
  if a.spent then some (.take .spent s)
  else if a.stale then
    if s.twin.alignFixed then some (.take .busy s) else some (.stop (almRequest c (a.epoch + 1) s))
  else none

/-- Commit an install (R154-R156, R170). -/
def installGo (i : Nat) (img : List Word) (key : Bytes) (imp : Bool) (s : State) : State :=
  let h := if imp then recNat img 60 2 else 0
  let e := newEntry s (workSa s i) img key imp (almOf s (recAlm img)).epoch h
  pendSa i (.install e) s

/-- An install or import whose image has been read (R156). -/
def installItem (i : Nat) (img : List Word) (key : Option Bytes) (imp : Bool) (s : State) : ChoreRes :=
  if installArg s i img imp then .take .arg s
  else if installBusy s img then .take .busy s
  else
    match (if recDir img = 0 then bindGate s (recAlm img) else none) with
    | some r => r
    | none =>
      match key with
      | none => .take .auth s
      | some k => .take .ok (installGo i img k imp s)

/-- The ARG conditions of a rewrite (R157); `k` is the new key, if it unwrapped. -/
def rewriteArg (s : State) (i : Nat) (img : List Word) (k : Option Bytes) : Bool :=
  let e := workSa s i
  let old := e.record
  let tx := e.dir == 0
  e.st == 0 || e.closed || recDir img != e.dir || recSuite img != recSuite old || (tx && recPlain img != recPlain old) ||
  recMerged img != recMerged old || (!tx && decide (256 < recWin img) != decide (256 < recWin old)) || imageBad s img ||
  (tx && recAlm img != recAlm old && k == some (recKey old))

/-- Commit a rewrite (R155, R157). -/
def rewriteGo (i : Nat) (img : List Word) (key : Bytes) (s : State) : State :=
  let e := workSa s i
  let words := newRecord img key ((e.gen + 1) % 256) false (now s + 1)
  let moved := e.dir == 0 && recAlm img != recAlm e.record
  let led := if moved then some ((almOf s (recAlm img)).epoch * 2 ^ 40) else none
  pendSa i (.rewrite words led) (markStale e s)

/-- A rewrite whose image has been read (R157, R234): it does not fit while the retirement pool is full (R155). -/
def rewriteItem (i : Nat) (img : List Word) (key : Option Bytes) (s : State) : ChoreRes :=
  if rewriteArg s i img key then .take .arg s
  else
    let e := workSa s i
    match (if e.dir == 0 && recAlm img != recAlm e.record then bindGate s (recAlm img) else none) with
    | some r => r
    | none =>
      match key with
      | none => .take .auth s
      | some k => if 2048 ≤ retiredUsed s then .stop s else .take .ok (rewriteGo i img k s)

/-- An erase (R158): stale marks are tested at commit (R218), and pending Eclipse items are aborted at their tick (R235). -/
def eraseItem (i : Nat) (s : State) : ChoreRes :=
  let e := workSa s i
  if e.st = 0 then .take .arg s else .take .ok (eclDoom i (pendSa i .erase (markStale e s)))

/-- A pin (R153): it commits once the record is resident. -/
def pinItem (i : Nat) (s : State) : ChoreRes :=
  let e := workSa s i
  if e.st = 0 || (e.dir == 1 && decide (256 < recWin e.record)) then .take .arg s
  else if e.pinned then .take .ok s
  else if 16384 ≤ pinnedCount s then .take .busy s
  else if e.resident then .take .ok (pendSa i (.pin e.slot) s)
  else if (saOf s i).st = 1 then .fill (startFill i s)
  else if e.st = 2 then .take .fault s
  else match takeSlot s with
    | (some n, s1) => .take .ok (pendSa i (.pin n) s1)
    | (none, s1) => .fill s1

/-- An unpin (R153): the record is written back. -/
def unpinItem (i : Nat) (s : State) : ChoreRes :=
  let e := workSa s i
  if e.st = 0 then .take .arg s
  else if !e.pinned then .take .ok s
  else .take .ok (bump (pg .orb) 0x210 1 (writeRec i { saOf s i with pinned := false } (pendSa i .unpin s)))

/-! ### Gazetteer edits (R126) -/

/-- ACTION TX_SA names a transmit SA installed with the port as its source (R159). An SA in FAULT counts as not installed here.
DESIGN CHOICE, unsafe (log entry 97). -/
def txSaOk (s : State) (sa port : Nat) : Bool :=
  let e := workSa s sa
  e.st == 1 && e.dir == 0 && recPlain e.record == port

/-- The key can stand in a match string of its kind (R117). -/
def keyFits (a : GazEditArgs) : Bool := decide (a.key ≤ keyMask a.kind) && (a.key &&& keyMask a.kind) == a.key && !(rxKind a.kind && a.port != 0)

/-- The result checks of an ADD or MODIFY. -/
def gazResultOk (s : State) (a : GazEditArgs) : Bool :=
  !(a.age && rxKind a.kind) && a.cls != 3 && (a.action == 3) == rxKind a.kind &&
  (a.action != 0 || txSaOk s a.sa a.port) &&
  (a.action != 3 || (let e := workSa s a.sa; e.st == 1 && e.dir == 1))

/-- The entry an edit makes. -/
def editEntry (a : GazEditArgs) : GazEntry :=
  { kind := a.kind, port := a.port, key := a.key, dyn := false, age := a.age, hit := false, stale := false, action := a.action,
    cls := a.cls, sa := a.sa }

/-- One Gazetteer edit. A MODIFY takes AGE from its operands and keeps HIT and STALE. DESIGN CHOICE, unsafe (log entry 97). -/
def gazItem (a : GazEditArgs) (s : State) : ChoreRes :=
  if 3 ≤ a.op || !validKind a.kind || !keyFits a then .take .arg s
  else match workFind s a.kind a.port a.key with
    | none =>
      if a.op != 0 || !gazResultOk s a then .take .arg s
      else match gazInsert (editEntry a) s with
        | (true, s1) => .take .ok s1
        | (false, s1) => .take .busy s1
    | some (_, e) =>
      if a.op = 0 then .take .arg s
      else if a.op = 2 then .take .ok (putSlots a.kind a.port a.key none s)
      else if !gazResultOk s a then .take .arg s
      else .take .ok (putSlots a.kind a.port a.key (some { editEntry a with hit := e.hit, stale := e.stale }) s)

/-! ### Contour edits (R128, R129) -/

/-- The priority an edit names (R127). -/
def conPrio (a : ConEditArgs) : Nat := if a.prioAuto then onesIn a.mask else a.prio

/-- The result checks: CLASS, and ACTION RX_SA or a TX_SA that R159 does not allow. -/
def conResultOk (s : State) (a : ConEditArgs) : Bool :=
  a.cls != 3 && a.action != 3 && (a.action != 0 || txSaOk s a.sa (a.value / 2 ^ 152 % 16))

/-- The masks of the kind field, and of the port field with TX_SA, are all ones. -/
def conMaskOk (a : ConEditArgs) : Bool :=
  a.mask / 2 ^ 156 % 16 == 15 && (a.action != 0 || a.mask / 2 ^ 152 % 16 == 15)

/-- A refused edit raises EDIT_FAIL. -/
def conFail (s : State) : ChoreRes := .take .arg (event (pg .con) 0 s)

/-- One Contour edit. -/
def conItem (a : ConEditArgs) (s : State) : ChoreRes :=
  let p := conPrio a
  let e : ConEntry := { value := a.value, mask := a.mask, prio := p, action := a.action, cls := a.cls, sa := a.sa }
  let put := fun (r : List ConEntry × Nat) => bump (pg .con) 0x210 r.2 { s with con := { s.con with work := r.1 } }
  if a.op = 0 then
    if (conGroup s.con.work p).any (conOverlap e) || !conMaskOk a || !conResultOk s a || decide (65536 ≤ s.con.work.length) then conFail s
    else .take .ok (put (conInsert s.con.work e))
  else match s.con.work.find? (fun x => x.named a.value a.mask p) with
    | none => conFail s
    | some x =>
      if a.op = 2 then .take .ok (put (conDelete s.con.work x))
      else if a.op = 1 && conResultOk s a && conMaskOk a then
        .take .ok (put (s.con.work.map (fun y => if y = x then e else y), 0))
      else conFail s

/-! ### Committing the head (R19-R21, R25) -/

/-- Carry out an item's body. DESIGN CHOICE, unsafe (log entry 46). -/
def choreBody (b : ChoreBody) (s : State) : ChoreRes :=
  match b with
  | .install i off slot imp =>
    (match readImage off imp s with
     | (some img, s1) => installItem i img (imageKey s slot img) imp s1
     | (none, s1) => .take .fault s1)
  | .rewrite i off slot =>
    (match readImage off false s with
     | (some img, s1) => rewriteItem i img (imageKey s slot img) s1
     | (none, s1) => .take .fault s1)
  | .erase i => eraseItem i s
  | .pin i => pinItem i s
  | .unpin i => unpinItem i s
  | .gaz a => gazItem a s
  | .con a => conItem a s
  | .installImg i img key imp => installItem i img key imp s
  | .rewriteImg i img key => rewriteItem i img key s

/-- An item as the digest of committed items takes it (R324). -/
def choreBytes : ChoreBody → Bytes
  | .install i _ _ imp => by8 (1 + b2n imp) :: beBytes 3 i
  | .rewrite i _ _ => 3 :: beBytes 3 i
  | .erase i => 4 :: beBytes 3 i
  | .pin i => 5 :: beBytes 3 i
  | .unpin i => 6 :: beBytes 3 i
  | .gaz a => 7 :: matchStr a.kind a.port a.key ++ [by8 a.op, by8 a.action, by8 a.cls, by8 (b2n a.age)] ++ beBytes 3 a.sa
  | .con a => 8 :: beBytes 20 a.value ++ beBytes 20 a.mask ++ [by8 a.op, by8 a.action, by8 a.cls, by8 (conPrio a)] ++ beBytes 3 a.sa
  | .installImg i img _ imp => by8 (1 + b2n imp) :: beBytes 3 i ++ (wordsToBytes img).take 64
  | .rewriteImg i img _ => 3 :: beBytes 3 i ++ (wordsToBytes img).take 64

/-- A committed item joins the count and the CRC-32C of its tick's (R324). -/
def choreCount (b : ChoreBody) (s : State) : State :=
  let n := s.twin.chores
  { s with twin := { s.twin with chores := (n.1 + 1, crcOn n.2 (choreBytes b)) } }

/-- The SA an item is about. -/
def choreSa : ChoreBody → Nat
  | .install i _ _ _ => i
  | .rewrite i _ _ => i
  | .erase i => i
  | .pin i => i
  | .unpin i => i
  | .gaz a => a.sa
  | .con a => a.sa
  | .installImg i _ _ _ => i
  | .rewriteImg i _ _ => i

/-- An item of this twin's MKA agent that ends with another status than OK fails its key change (R238). -/
def choreFailed (c : Chore) (st : Status) (s : State) : State :=
  let sa := choreSa c.body
  let ours := c.ord.isNone && decide (2 ≤ c.part) && c.part % 2 == twinId s
  if ours && st != .ok && mkaBreak sa s != s then agentFailed 0 sa s else s

/-- The head has been carried out: it leaves the queue, and its order ends after the tick (R25). -/
def choreTaken (c : Chore) (st : Status) (s : State) : State :=
  let s1 := spend (choreKind c.body) { s with grt := { s.grt with queue := s.grt.queue.drop 1 } }
  let s2 := choreCount c.body s1
  let s3 := if c.part % 2 = 1 - twinId s then bump (pg .twn) 0x220 1 s2 else s2
  stallCheck (commitOrder c.ord st 0 (choreFailed c st s3))

/-- No further item is taken in this tick (R21). -/
def choreStop (s : State) : State := { s with grt := { s.grt with stop := true } }

/-- CHORE_ITEM_COMMIT: the item at the head, at clock `clk`, if the tick still takes items (R20, R21). -/
def choreCommit (clk : Nat) (s0 : State) : State :=
  let s := advanceTo clk s0
  match s.grt.queue with
  | [] => s
  | c :: _ =>
    if !s.time.run || s.grt.stop || decide (179999 < clk) || decide (179999 < s.time.clk) then s
    else if !budgetLeft s (choreKind c.body) then choreStop s
    else match choreBody c.body s with
      | .stop s1 => choreStop s1
      | .fill s1 => s1
      | .take st s1 => choreTaken c st s1

/-- AGENT_CHORE_ITEM: an agent's item outside an MKA key change enters its part, or its twin's tick list, or the agent waits
(R22, R311, R312). -/
def agentRoom (s : State) : Bool :=
  let p := chorePart true (twinId s)
  let listed := (s.twin.lists.flatMap (·.own)).countP (fun x => match x with | .chore true _ _ => true | _ => false)
  decide (partLen s p + listed < 4096)

/-- Place an agent's item: whether it found room. -/
def agentItem (b : ChoreBody) (s : State) : Bool × State :=
  if !agentRoom s || s.dev.mode == .twinJoin || s.twin.held then (false, s)
  else if modeIn [.twinEmit, .twinHold] s then (true, listAdd (.chore true none b) s)
  else (true, enqueue (chorePart true (twinId s)) none b s)

/-! ### The boundary of the SA store (R154, R155, R158, R218) -/

/-- A superseded generation goes to the retirement pool while a frame holds it (R155). -/
def retireGen (i : Nat) (e : SaEntry) (s : State) : State :=
  if heldGen s i e.gen then { s with orb := { s.orb with pool := s.orb.pool ++ [(i, e.gen, e.record)] } } else s

/-- An erase reaches the data path: frames that hold the SA end with SA_ERASED, their pipelines are zeroed, and its memory is wiped
(R158, R196). -/
def eraseNow (i : Nat) (s : State) : State :=
  let e := saOf s i
  let held := s.frames.list.filter (fun f => frameHolds f && f.sa == i)
  let ended := held.foldl (fun s f => endBad f 0x22 0 s) s
  let s1 := (held.flatMap (·.gang)).foldl (fun s p => modPipe p Pipe.zeroed s) ended
  let s2 := setSa i (erasedSa e) s1
  let s3 := dropFill i { s2 with orb := { s2.orb with pool := s2.orb.pool.filter (fun p => p.1 != i) } }
  eclFree i (wipeHome i e.extSlot s3)

/-- One change reaches the data path. -/
def saApplyOne (s : State) (p : Nat × SaChange) : State :=
  let e := saOf s p.1
  let put := fun (s : State) => modSa p.1 (fun x => applyChange x p.2) s
  match p.2 with
  | .erase => eraseNow p.1 (markStale e s)
  | .rewrite _ _ =>
    let s1 := put (retireGen p.1 e (markStale e s))
    if (saOf s1 p.1).resident then s1 else writeHome p.1 s1
  | .install _ => writeHome p.1 (put s)
  | _ => put s

/-- Every change of the tick that ends, in commit order. -/
def saBoundary (s : State) : State :=
  prunePool (s.orb.pend.foldl saApplyOne { s with orb := { s.orb with pend := [] } })

end Sys2Proof.Machine
end

