-- ==== Sys2Proof/Machine/Tx.lean ====
section
/-! DEFINITION. From admission to the wire: fills, dispatch to gangs, the verification of received frames, egress in class
order, Transit launch, and the ways a frame ends on the way (R14, R15, R99, R104, R150-R152, R160-R164, R191-R194, R200,
R206, R241-R258, R309). -/

namespace Sys2Proof.Machine

/-! ### Admission and fills -/

/-- FRAME_ADMIT: the first waiting Polar frame that may be admitted, else the first other one (R104, R249).
DEDUCED, unsafe (log entry 36). -/
def frameAdmit (d : Dir) (s : State) : State :=
  let w := (slotWaiters s d).filter (fun f => mayAdmit s d f.cls)
  match firstOf (w.filter (fun f => f.cls == 0)) with
  | some f => admitFrame f.id s
  | none => match firstOf w with
    | some f => admitFrame f.id s
    | none => s

/-- A line fails its tag twice (R367). DESIGN CHOICE, unsafe (log entry 66). -/
def tagFail (m : Master) (l : Nat) (s : State) : State :=
  let a := lineAddr s l
  declareAlarm 9 (captureErr (pg .seal) 0x0A (mCls m) 0 (wd a) (wd (a / 2 ^ 32))
    (event (pg .seal) 0 (bump (pg .mem (chanOf l)) 0x218 1 (bump (pg .seal) 0x218 1 (poison a s)))))

/-- The frames that wait for an SA's fill. -/
def fillWaiters (s : State) (i : Nat) : List Frame := s.frames.list.filter (fun f => f.stage == .context && f.sa == i)

/-- An SA goes to FAULT over a read of its record or its extended slot; the failure is counted and raised (R152).
DESIGN CHOICE, unsafe (log entry 46). -/
def recordFault (i : Nat) (s : State) : State :=
  event (pg .orb) 0 (bump (pg .orb) 0x218 1 (modSa i (fun e => if e.st = 0 || e.faultSeq then e else { e with st := 2 }) s))

/-- A fill fails (R152). -/
def fillFail (i : Nat) (s : State) : State :=
  let s1 := recordFault i (nextFill i s)
  (fillWaiters s1 i).foldl (fun s f => contextFail f s) s1

/-- The record a fill takes from the home copy in place of the one last held. -/
def filled (e : SaEntry) (rec : List Word) : SaEntry := { e with record := (rec64 rec).set 3 0 }

/-- Whether the record of a home copy fits its directory entry (R152). -/
def fillFits (e : SaEntry) (rec : List Word) : Bool := recGen rec == e.gen && recDir rec == e.dir

/-- A fill whose record is good takes a slot, and the frames that waited go on; with no slot free it waits. -/
def fillDone (i : Nat) (rec : List Word) (s : State) : State :=
  let t := takeSlot s
  match t.1 with
  | none => t.2
  | some slot =>
    let s1 := makeResident i slot (modSa i (fun e => filled e rec) (nextFill i t.2))
    (fillWaiters s1 i).foldl (fun s f => fetchContext f.id s) s1

/-- A bus error as the master sees it (R367). DESIGN CHOICE, safe (log entry 72). -/
def busError (m : Master) (s : State) : State := emit (if m == .host then .completerAbort else .busError) s

/-- A bus integrity error in returned data, found at the master's port (R395). -/
def portIntegrity (m : Master) (addr : Nat) (s : State) : State :=
  let u := pg .bdy (unitOf m).1
  busError m (declareAlarm 10 (captureErr u 0x08 (mCls m) 0 (wd addr) (wd (addr / 2 ^ 32 % 65536)) (bump u 0x230 1 s)))

/-- ORBIT_FILL_DONE: a line whose tag fails (R152, R367), or whose data fails the bus integrity check at Orbit's port (R395), fails
the fill. -/
def orbitFill (i : Nat) (x : FillEnd) (s : State) : State :=
  if !s.orb.fills.contains i then s
  else match x with
  | .tag => fillFail i (tagFail .orbit (homeAddr i) s)
  | .integ => fillFail i (portIntegrity .orbit (homeAddr i) s)
  | .passed =>
    let r := sealRead .orbit (homeAddr i) 256 s
    match r.1 with
    | none => fillFail i r.2
    | some b =>
      if fillFits (saOf s i) (bytesToWords 64 b) then fillDone i (bytesToWords 64 b) r.2 else fillFail i r.2

/-! ### Dispatch (R191-R194) -/

/-- The bytes a frame encrypts or decrypts (R191). -/
def cryptBytes (f : Frame) : Nat :=
  let r := f.ctx
  if f.dir == .enc then encBytes r (frameLen f)
  else if beAt f.bytes 12 2 = 0x88E5 then (secData (readSecTag f.bytes) f.bytes).1.length - offsetBytes (recOffset r)
  else match ipInfo f.bytes with
    | some i => (espBytes i (recUdp r) f.bytes).length - 32
    | none => 0

/-- AES blocks of a frame (R191), and its gang size (R192). -/
def frameBlocks (f : Frame) : Nat := cdiv (cryptBytes f) 16 + 1
def gangSize (s : State) (f : Frame) : Nat :=
  max 1 (min (min (gangTable (portRate s .line (linePortOf f))) (cdiv (cryptBytes f) 16)) (livePipes s (dirNum f.dir)).length)

/-- Whether a received frame fails a check before decryption (R178, R188). -/
def rxCheck (f : Frame) : Option Nat :=
  if beAt f.bytes 12 2 = 0x88E5 then macsecCheck f.ctx f.bytes
  else match ipInfo f.bytes with
    | some i => espCheck f.ctx i (espKind i f.bytes == some true) f.bytes
    | none => some 0x01

/-- Whether a received copy comes from Twin B (R163). -/
def fromTwinB (f : Frame) : Bool :=
  recMerged f.ctx &&
  (if beAt f.bytes 12 2 = 0x88E5 then (readSecTag f.bytes).sci == recSciB f.ctx
   else match ipInfo f.bytes with
    | some i => (byteAt (espBytes i (recUdp f.ctx) f.bytes) 8).getLsbD 7
    | none => false)

/-- The number a received frame has (R179, R189), with H as it stands at dispatch. -/
def rxNumber (s : State) (f : Frame) : Nat :=
  let r := f.ctx
  let h := (saOf s f.sa).ledger
  if beAt f.bytes 12 2 = 0x88E5 then
    let n := (readSecTag f.bytes).pn
    if isLegacy (recSuite r) then n else recoverPn h (recWin r) n
  else match ipInfo f.bytes with
    | some i =>
      let e := espBytes i (recUdp r) f.bytes
      if isLegacy (recSuite r) then beAt e 4 4
      else if recMerged r then beAt e 8 8 % 2 ^ 63
      else recoverPn h (recWin r) (beAt e 4 4)
    | none => 0

/-- Blocks that member `i` of a gang of `g` issues; the first also issues J0. -/
def memberBlocks (blocks g i : Nat) : Nat := ((blocks - 1) + (g - 1 - i)) / g + (if i = 0 then 1 else 0)

/-- One member of a gang starts on a frame: the counters of its page. -/
def gangStart (f : Frame) (g : Nat) (s : State) (m : Nat × Nat) : State :=
  let p := pg .pipe m.1
  let n := memberBlocks (frameBlocks f) g m.2
  let polar := b2n (f.cls == 0)
  let s1 := bump p 0x218 (b2n (decide (1 < g))) (bump p 0x210 n (bump p 0x208 polar (bump p 0x200 1 s)))
  pmcEvent p 6 polar (pmcEvent p 5 1 (pmcEvent p 4 n s1))

/-- A frame's first block brings its key into the round-key registers of a member, and its GHASH state starts (R196). -/
def keyLoad (s : State) (r : List Word) (p : Nat) (x : Pipe) : Pipe :=
  { x with keyReg := recKey r, ghash := (List.range 16).map (Config.ghashState s.time.cyc p), freedAt := none }

/-- A frame is dispatched to a gang, or a received one fails its checks. -/
def dispatchFrame (f : Frame) (s : State) : State :=
  match (if f.dir == .dec then rxCheck f else none) with
  | some r => discard f r s
  | none =>
    let g := gangSize s f
    let ps := (freePipes s (dirNum f.dir)).take g
    let s1 := (ps.zip (List.range g)).foldl (gangStart f g) s
    let t := tagSelect (pg .pipe (ps.headD 0)) 5 f s1
    let twinB := twinId s == 1
    let x := { t.1 with stage := .gang, gang := ps, doneAt := s.time.cyc + cdiv (frameBlocks f) g + 20 }
    let y := if f.dir == .enc then { x with result := sealFrame f.ctx twinB (twinMode s) (f.field.getD 0) f.bytes }
      else { x with field := some (rxNumber s f) }
    modFrame f.id (fun _ => y) (ps.foldl (fun s p => modPipe p (keyLoad s f.ctx p) s) t.2)

/-- Live pipelines free, or held by a Polar frame or a frame of at most 16 blocks (R194). -/
def expressOpen (s : State) (d : Nat) : Nat :=
  (livePipes s d).countP (fun p => !(s.frames.list.any (fun f => f.gang.contains p && f.cls != 0 && decide (16 < frameBlocks f))))

/-- DISPATCH: the first Polar frame that is ready, else the first Tropic or Comet frame, if enough pipelines are free (R194);
a decrypt frame is dispatched once it has been received whole (R12). -/
def dispatchOne (d : Dir) (s : State) : State :=
  let w := s.frames.list.filter (fun f => f.dir == d && f.stage == .ready && (d == .enc || arrived s f))
  let free := (freePipes s (dirNum d)).length
  match w.find? (fun f => f.cls == 0) with
  | some f => if gangSize s f ≤ free then dispatchFrame f s else s
  | none => match w.head? with
    | some f =>
      let g := gangSize s f
      let room := decide (frameBlocks f ≤ 16) || decide (xres s d + g ≤ expressOpen s (dirNum d))
      if g ≤ free && room then dispatchFrame f s else s
    | none => s

/-! ### Faults of a pipeline (R200) -/

/-- A disagreement in a live pipeline: its frames end, it is retired, and the occulted one runs its short set (R200, R203).
Every member of a frame's gang counts the frame among its ended ones. DEDUCED, unsafe (log entry 48). -/
def liveFault (p unit stage : Nat) (s : State) : State :=
  let fs := s.frames.list.filter (fun f => f.gang.contains p)
  let parity := b2n (unit != 3)
  let s1 := pmcEvent (pg .pipe p) 8 parity (event (pg .pipe p) 3 (bump (pg .pipe p) 0x230 parity s))
  let s2 := fs.foldl (fun s f => f.gang.foldl (fun s m => bump (pg .pipe m) 0x220 1 s) (endBad f 0x23 p s)) s1
  startShort (pipeDir p) (retire p (if unit = 3 then 0x11 else 0x10) stage unit s2)

/-- PIPE_FAULT: `unit` 0 a stage, 1 the key lane, 2 GHASH, 3 the comparators; outside live service it fails the test under
way (R202). A pipeline that still finishes its frames is in live service. DEDUCED, unsafe (log entry 48). -/
def pipeFaultAt (p unit stage : Nat) (s : State) : State :=
  let x := pipeOf s p
  if x.role = 0 || pipeBusy s p then liveFault p unit stage s
  else if x.role ≤ 2 && x.running then
    modPipe p (fun x => { x with bad := true, failCode := if x.failCode = 0 then 0x08 else x.failCode })
      (pmcEvent (pg .pipe p) 8 (b2n (unit != 3)) s)
  else s

/-! ### A gang finishes (R160-R164, R190, R193, R206, R296, R309) -/

/-- The gang of a frame is free. -/
def releaseGang (f : Frame) (s : State) : State :=
  f.gang.foldl pipeFreed (modFrame f.id (fun f => { f with gang := [] }) s)

/-- The plaintext of a received frame that verifies. -/
def openFrame (f : Frame) : Option Bytes :=
  let p := f.field.getD 0
  if beAt f.bytes 12 2 = 0x88E5 then macsecOpen f.ctx (fromTwinB f) p f.bytes
  else match ipInfo f.bytes with
    | some i => espOpen f.ctx p (espBytes i (recUdp f.ctx) f.bytes)
    | none => none

/-- A peer's first frame accepted under a new receive SA (R238). -/
def mkaAccepted (sa : Nat) (s : State) : State :=
  { s with ecl := { s.ecl with mka := s.ecl.mka.map (fun c => { c with peers := c.peers.map (fun p =>
      if p.new = sa && p.firstAt.isNone then { p with firstAt := some (now s) } else p) }) } }

/-- The R-TAG of R309: after the source MAC and up to two tags. -/
def insertRtag (f : Bytes) (p : Nat) : Bytes := f.take (etOff f) ++ [0xF1, 0xC1, 0, 0] ++ beBytes 2 p ++ f.drop (etOff f)

/-- A verified and accepted frame is taken for playout or released to its plain port. -/
def releaseRx (f : Frame) (inner : Bytes) (s : State) : State :=
  let s1 := mkaAccepted f.sa (saCount f.sa 1 inner.length (saCount f.sa 0 1 s))
  if etherType inner == cfgFld s (ra (pg .bun) 0x100) 15 0 && !(bunsOfSa s f.sa).isEmpty then bunReceive f inner s1
  else
    let out := if twinMode s && recRtag f.ctx then insertRtag inner (f.field.getD 0) else inner
    observe f.dest f.ctx inner (modFrame f.id (fun f => { f with stage := .queued, result := padMin out }) s1)

/-- The read of an SA's extended slot (R161): whether it succeeds. The slot holds what was last written with the record, so the bits
on die serve. DEDUCED, unsafe (log entry 44). -/
def slotRead (i : Nat) (s : State) : Bool × State :=
  match (saOf s i).extSlot with
  | some n => let r := sealRead .orbit (extAddr n) 512 s; (r.1.isSome, r.2)
  | none => (true, s)

/-- The replay check of a verified frame under its own generation's parameters (R155, R160-R164): it has its SA until the check is
done. A frame whose extended slot cannot be read ends as one whose fill fails does. DEDUCED, unsafe (log entry 44). -/
def replayFrame (f : Frame) (inner : Bytes) (s : State) : State :=
  let p := f.field.getD 0
  let e := saOf s f.sa
  let r := replayCheck e f.ctx (fromTwinB f) p
  let x := if readsSlot e f.ctx p then slotRead f.sa s else (true, s)
  if isLegacy (recSuite f.ctx) && isMacsec (recSuite f.ctx) && p == 0 then discard f 0x43 (saCount f.sa 4 1 s)
  else if !x.1 then contextFail f (recordFault f.sa x.2)
  else
    let s1 := modSaHome f.sa (fun _ => { r.2 with record := usedNow s r.2.record }) x.2
    match r.1 with
    | .accept => releaseRx f inner s1
    | .replay => discard f 0x42 (saCount f.sa 3 1 s1)
    | .late => discard f 0x43 (saCount f.sa 4 1 s1)
    | .elided => endTag f 0 (dropFrame f.id (saCount f.sa 5 1 s1))

/-- A received frame is opened and verified. -/
def verifyRx (f : Frame) (low : Nat) (s : State) : State :=
  match openFrame f with
  | none => event (pg .pipe low) 4 (bump (pg .pipe low) 0x228 1 (discard f 0x41 (saCount f.sa 2 1 s)))
  | some pt =>
    if beAt f.bytes 12 2 = 0x88E5 then replayFrame f pt s
    else
      let q := espInner pt
      if q.1 != 0 then discard f q.1 s else replayFrame f q.2 s

/-- GANG_FINISH: `icvFault` says that the comparators of the lowest member disagree (R193). -/
def gangEnd (id clk : Nat) (icvFault : Bool) (s : State) : State :=
  let s1 := frameTime clk s
  match frameOf s1 id with
  | none => s1
  | some f =>
    let low := f.gang.headD 0
    if f.gang.isEmpty || s1.time.cyc < f.doneAt then s1
    else if f.dir == .enc then
      if f.receiving then
        (match f.bad with
         | some r => endBad f r 0 s1
         | none => s1)
      else modFrame id (fun f => { f with stage := if f.stage == .gang then .queued else f.stage }) (releaseGang f s1)
    else if icvFault then liveFault low 3 0 s1
    else verifyRx { f with gang := [] } low (releaseGang f s1)

/-! ### Egress (R14, R99, R241-R250, R253, R258) -/

/-- Meridian time of `n` bytes at a rate in tenths of Gb/s. -/
def timeAt (rate10 n : Nat) : Nat := if rate10 = 0 then 0 else n * 80 * nsUnit / rate10

/-- The rate at which a frame's bytes come to its line port, in tenths of Gb/s: the plain port's, or that of a gang which has fewer
members than R192 gives the frame because fewer pipelines are live. -/
def feedRate (s : State) (f : Frame) : Nat :=
  let plain := portRate s .plain f.port * 10
  let g := f.gang.length
  let full := min (gangTable (portRate s .line f.dest)) (cdiv (cryptBytes f) 16)
  if f.stage == .gang && decide (g < full) then min plain (g * 2048) else plain

/-- The condition of R14 on what has been received: the rest of the frame arrives no later than the line port needs it. -/
def arrivalOk (s : State) (f : Frame) : Bool :=
  let line := portRate s .line f.dest * 10
  let feed := feedRate s f
  decide (line ≤ feed) || decide (f.rxAt + timeAt feed (frameLen f) ≤ s.time.mer + timeAt line (frameLen f))

/-- Whether a frame can be emitted now (R12, R14, R111, R187). -/
def frameReady (s : State) (f : Frame) : Bool :=
  match f.kind with
  | .control => f.stage == .queued
  | .clear => f.stage == .queued && arrived s f
  | .bundle => f.stage == .queued || (f.stage == .gang && isMacsec (recSuite f.ctx))
  | .sa =>
    if f.dir == .dec then f.stage == .queued
    else if isMacsec (recSuite f.ctx) then (f.stage == .queued || f.stage == .gang) && (arrived s f || arrivalOk s f)
    else f.stage == .queued && arrived s f

/-- Whether some egress port of a frame is up. -/
def egressUp (s : State) (f : Frame) : Bool := (emitPorts s f).any (egOpen s (outSide f.dir))

/-- A frame meets an egress that is down (R99, R307). -/
def egressDown (f : Frame) (s : State) : State :=
  discard f 0x24 ((emitPorts s f).foldl (fun s p => portBump (outSide f.dir) p 0x268 1 s) s)

/-- Instants held on the egress ports of a frame: the launch instants of frames not yet begun that are still to come. -/
def heldInstants (s : State) (d : Dir) (ps : List Nat) : List Nat :=
  (s.frames.list.filter (fun f => f.dir == d && f.stage != .emitting && (emitPorts s f).any ps.contains)).filterMap
    (fun f => match f.launch with
      | some l => if s.time.mer ≤ l.2 then some l.2 else none
      | none => none)

/-- The bytes the guard must fit: all that is left of the frame, or a fragment where preemption can cut one (R108). -/
def guardBytes (s : State) (f : Frame) : Nat :=
  let side := outSide f.dir
  let frag := minFrag s side f.dest
  if f.cls != 0 && (emitPorts s f).all (preemptActive s side) && decide (frag + 64 ≤ leftOf f) then frag else leftOf f

/-- The launch guard (R253): what would begin now ends, with 20 B, before every instant held on its ports. -/
def mayBegin (s : State) (f : Frame) : Bool :=
  (heldInstants s f.dir (emitPorts s f)).all (fun i =>
    decide (s.time.mer + lineTime (portRate s (outSide f.dir) f.dest) (guardBytes s f + 20) ≤ i))

/-- The Polar load meter of an egress port after `n` bytes and 20 B begun at `t` (R258), in eighths of a byte. -/
def meterAfter (s : State) (side : Side) (p n t : Nat) : Nat :=
  let x := portOf s side p
  (x.meter - (t - x.meterAt) * portRate s side p / (4 * nsUnit)) + (n + 20) * 8

/-- What R258 keeps of a Polar frame whose emission begins at `t`: the load of each of its ports, whether it meets the conditions, and
the latency of an immediate one, from its last bit in to its first bit out. DEDUCED, unsafe (log entry 93). -/
def polarBegin (f : Frame) (t : Nat) (s : State) : State :=
  let side := outSide f.dir
  let n := f.result.length + 4
  let ps := emitPorts s f
  let inside := polarConds s f && ps.all (fun p => decide (meterAfter s side p n t ≤ 2200 * 8))
  let s1 := ps.foldl (fun s p => modPort side p (fun x => { x with meter := meterAfter s side p n t, meterAt := t }) s) s
  let s2 := if inside then s1 else polarOutside s1
  if f.launch.isSome || f.kind == .bundle then s2
  else
    let d := dirNum f.dir
    let lat := egressStamp s f t - (ingressStamp s f + (f.rxEnd - f.rxAt))
    let s3 := { s2 with frames := { s2.frames with
                  polarMax := s2.frames.polarMax.set d (max (s2.frames.polarMax.getD d 0) (min 65535 (lat / nsUnit))) } }
    if inside && decide ((if d = 0 then 1200 else 1600) * nsUnit < lat) then event (pg .sch) 0 (bump (pg .sch) 0x410 1 s3) else s3

/-- A PTP event message among the frames an agent sends. -/
def ptpEvent (f : Frame) : Bool := f.kind == .control && beAt f.result 12 2 == 0x88F7 && decide ((byteAt f.result 14).toNat % 16 < 4)

/-- A Meridian time as a PTP timestamp: 48 bits of seconds and 32 of nanoseconds.
PRESUMED, unsafe (log entry 39). -/
def ptpTime (t : Nat) : Bytes := beBytes 6 (t / nsUnit / 1000000000) ++ beBytes 4 (t / nsUnit % 1000000000)

/-- What a Pdelay_Resp answers: its requestingPortIdentity and its sequenceId (R345). -/
def respKey (f : Bytes) : Bytes := slice f 58 10 ++ slice f 44 2

/-- One-step operation on a Sync message: originTimestamp is written (R345). -/
def stampSync (t : Nat) (f : Bytes) : Bytes := f.take 48 ++ ptpTime t ++ f.drop 58

/-- One-step operation on a Pdelay_Resp: correctionField, in units of 2^-16 ns, is raised by the residence time since the ingress
timestamp of its Pdelay_Req (R345). -/
def stampResp (rx t : Nat) (f : Bytes) : Bytes := f.take 22 ++ beBytes 8 (beAt f 22 8 + (t - rx) * 2 ^ 16 / nsUnit) ++ f.drop 30

/-- An egress timestamp is kept for the agent while there is room (R343). -/
def keepStamp (f : Frame) (t : Nat) (s : State) : State :=
  if s.mer.stamps.length < 256 then { s with mer := { s.mer with stamps := s.mer.stamps ++ [(outSide f.dir, f.dest, t / 2 ^ 31)] } }
  else event (pg .mer) 5 (bump (pg .mer) 0x328 1 s)

/-- The egress timestamp of an event message (R343): written into a Sync or a Pdelay_Resp in one-step operation, else kept for the agent.
PRESUMED, unsafe (log entry 39). -/
def stampTx (f : Frame) (t0 : Nat) (s : State) : Frame × State :=
  let t := egressStamp s f t0
  let type := (byteAt f.result 14).toNat % 16
  let one := bit (getReg s (ra (pg .mer) 0x100)) 8
  let mine := fun (x : Nat × Bytes × Nat) => x.1 == portNum (outSide f.dir) f.dest && x.2.1 == respKey f.result
  if !ptpEvent f then (f, s)
  else if one && type = 0 then ({ f with result := stampSync t f.result }, s)
  else if one && type = 3 then
    match s.mer.reqs.find? mine with
    | some x => ({ f with result := stampResp x.2.2 t f.result }, { s with mer := { s.mer with reqs := s.mer.reqs.filter (fun x => !mine x) } })
    | none => (f, s)
  else (f, keepStamp f t s)

/-- A frame's emission begins at Meridian time `t`. -/
def beginTx (f0 : Frame) (t : Nat) (s0 : State) : State :=
  let q := stampTx f0 t s0
  let f := q.1
  let s := q.2
  let side := outSide f.dir
  let n := f.result.length + 4
  let s1 := if f.cls = 0 then polarBegin f t s else s
  let s2 := if f.cls = 1 then modPort side f.dest (fun x => { x with credit := x.credit - ((n + 20) * 8 : Nat) }) s1 else s1
  let down := (emitPorts s f).filter (fun p => !egOpen s side p)
  let s3 := down.foldl (fun s p => portBump side p 0x268 1 s) s2
  let g := tagPointAt s3 7 f
  modFrame f.id (fun _ => { g with stage := .emitting, txAt := t, fragAt := some t, sent := 0,
                                   endAt := t + lineTime (portRate s side f.dest) (n + 20) }) s3

/-- A preempted frame goes on with its next fragment (R250). -/
def resumeTx (f : Frame) (s : State) : State :=
  modFrame f.id (fun x => { x with fragAt := some s.time.mer,
                                   endAt := s.time.mer + lineTime (portRate s (outSide f.dir) f.dest) (leftOf x + 20) }) s

/-- Take leading frames of a queue that are due for discard by age (R246) or meet an egress that is down (R99). -/
def pruneQueue (d : Dir) (dest cls : Nat) : Nat → State → State
  | 0, s => s
  | k + 1, s =>
    match classQueue s d dest cls with
    | [] => s
    | f :: _ =>
      let lim := if cls = 1 then cfgFld s (ra (pg .sch) 0x10C) 31 16 else cfgFld s (ra (pg .sch) 0x10C) 15 0
      if cls != 0 && decide (lim ≤ f.age) then
        pruneQueue d dest cls k (event (pg .sch) 2 (bump (pg .sch) 0x428 1 (discard f 0x27 s)))
      else if !egressUp s f then pruneQueue d dest cls k (egressDown f s)
      else s

/-- The choice between Tropic and Comet by deficit round robin (R243). -/
def drrPick (d : Dir) (dest : Nat) (tr co : Frame) (s : State) : State :=
  let side := outSide d
  let r := cfgReg s (ra (pg .sch) (0x200 + 4 * egressNum d dest))
  let nt : Int := (tr.result.length + 4 : Nat)
  let nc : Int := (co.result.length + 4 : Nat)
  let x := portOf s side dest
  let qt : Int := (fld r 23 16 * 256 : Nat)
  let qc : Int := (fld r 31 24 * 256 : Nat)
  let topUp := fun (t c : Int) => if nt ≤ t || nc ≤ c then (t, c) else (t + qt, c + qc)
  let r := (List.range 65).foldl (fun a _ => topUp a.1 a.2) (x.defTropic, x.defComet)
  if nt ≤ r.1 then beginTx tr s.time.mer (modPort side dest (fun x => { x with defTropic := r.1 - nt, defComet := r.2 }) s)
  else beginTx co s.time.mer (modPort side dest (fun x => { x with defTropic := r.1, defComet := r.2 - nc }) s)

/-- Start the next Tropic or Comet frame, in the order of R243. -/
def beginOther (d : Dir) (dest : Nat) (s : State) : State :=
  let side := outSide d
  let ok := fun (f : Frame) => frameReady s f && mayBegin s f && wireFree s f
  let tr := (classQueue s d dest 1).head?.filter ok
  let co := (classQueue s d dest 2).head?.filter ok
  let held := ((classQueue s d dest 1).head?.toList ++ (classQueue s d dest 2).head?.toList).any (fun f => frameReady s f && !mayBegin s f)
  let c := creditNow s d dest
  let s1 := modPort side dest (fun x => { x with credit := c, credAt := s.time.mer }) s
  match tr, co with
  | some t, some k => if 0 ≤ c then beginTx t s.time.mer s1 else drrPick d dest t k s1
  | some t, none => beginTx t s.time.mer (modPort side dest (fun x => { x with defTropic := 0, defComet := 0 }) s1)
  | none, some k => beginTx k s.time.mer (modPort side dest (fun x => { x with defTropic := 0, defComet := 0 }) s1)
  | none, none => if held then bump (pg .trn) 0x220 1 s1 else s1

/-- The direction whose frames leave at a side. -/
def dirOut : Side → Dir
  | .line => .enc
  | .plain => .dec


/-- Late tolerance in ns of a timed frame, and whether a late frame is discarded at once. -/
def lateRule (s : State) (n : Nat) : Nat × Bool :=
  if 256 ≤ n then (regFld s (ra (pg .bun) 0x10C) 15 0, false)
  else (cfgFld s (ra (pg .trn) (0x404 + 8 * n)) 31 17, bit (cfgReg s (ra (pg .trn) (0x400 + 8 * n))) 30)

/-- A launched frame is counted: on time or late. -/
def countLaunch (f : Frame) (n : Nat) (late : Bool) (s : State) : State :=
  if 256 ≤ n then
    let b := n - 256
    let s1 := modBun b (fun x => { x with lastTick := f.btick }) s
    if late then pmAdd n 2 1 (bump (pg .bun) 0x208 1 s1) else pmAdd n 0 1 (bump (pg .trn) 0x200 1 (bump (pg .bun) 0x200 1 s1))
  else if late then event (pg .trn) 0 (bump (pg .trn) 0x208 1 s) else bump (pg .trn) 0x200 1 s

/-- A late frame is discarded (R254, R295). -/
def lateDiscard (f : Frame) (n : Nat) (s : State) : State :=
  let s1 := discard f 0x28 s
  if 256 ≤ n then event (pg .bun) 1 s1 else event (pg .trn) 0 (event (pg .trn) 1 (bump (pg .trn) 0x210 1 s1))

/-- Whether an earlier frame of the same entry still waits (R254). -/
def launchBehind (s : State) (f : Frame) (n : Nat) : Bool :=
  s.frames.list.any (fun x => match x.launch with
    | some l => l.1 == n && decide (x.id < f.id) && x.stage != .emitting
    | none => false)

/-- A frame whose launch instant has come, or is less than 2 ns away: begun on time, begun late, discarded, or left to wait (R253,
R254). DEDUCED, unsafe (log entry 55). -/
def launchAt (f : Frame) (n at_ : Nat) (s : State) : State :=
  if decide (s.time.mer + 2 * nsUnit < at_) || launchBehind s f n || f.stage == .emitting then s
  else if !egressUp s f then egressDown f s
  else
    let go := if frameReady s f then clearWire s f.dir (emitPorts s f) (some at_) else none
    let rule := lateRule s n
    match go with
    | some (t, s1) =>
      if t ≤ at_ + 2 * nsUnit then countLaunch f n false (beginTx f t s1)
      else if rule.2 || decide (at_ + rule.1 * nsUnit < t) then lateDiscard f n s
      else countLaunch f n true (beginTx f t s1)
    | none =>
      if s.time.mer < at_ then s
      else if rule.2 || decide (at_ + rule.1 * nsUnit < s.time.mer) then lateDiscard f n s
      else if 256 ≤ n then s else event (pg .trn) 0 s

/-- TRANSIT_LAUNCH: a timed frame or bundle at its instant. -/
def launchFrame (id clk : Nat) (s : State) : State :=
  let s1 := frameTime clk s
  match frameOf s1 id with
  | none => s1
  | some f => match f.launch with
    | none => s1
    | some (n, at_) => launchAt f n at_ s1

/-! ### EGRESS_BEGIN (R243) -/

/-- The timed frames and bundles of a port whose launch instants have come, the earliest first (item 2 of R243). -/
def dueLaunch (s : State) (d : Dir) (p : Nat) : Option (Frame × Nat × Nat) :=
  (s.frames.list.filter (fun f => f.dir == d && f.stage != .emitting && (emitPorts s f).contains p)).foldl (fun b f =>
    match f.launch with
    | some (n, i) => if i ≤ s.time.mer && (match b with | some (_, _, j) => decide (i < j) | none => true) then some (f, n, i) else b
    | none => b) none

/-- Items 1 and 2 of R243: a PFC frame, then a timed frame or bundle whose instant has come. -/
def egressFirst (side : Side) (port : Nat) (s : State) : State :=
  let s1 := match side with
    | .plain => pfcFlush port s
    | .line => s
  match dueLaunch s1 (dirOut side) port with
  | some (f, n, i) => launchAt f n i s1
  | none => s1

/-- Whether the wire of a port is free. -/
def portFree (s : State) (side : Side) (p : Nat) : Bool :=
  (onWire s (dirOut side) p).isEmpty && decide ((portOf s side p).pfcEnd ≤ s.time.mer)

/-- Items 4 and 5 of R243, on a free wire: a preempted frame goes on before another preemptable one begins (R108, R250). -/
def egressRest (side : Side) (port : Nat) (s : State) : State :=
  if !portFree s side port then s
  else match suspended s (dirOut side) port with
    | some f => if !wireFree s f then s else if mayBegin s f then resumeTx f s else bump (pg .trn) 0x220 1 s
    | none => beginOther (dirOut side) port s

/-- EGRESS_BEGIN (R243). -/
def egressNext (side : Side) (port clk : Nat) (s : State) : State :=
  let d := dirOut side
  let s0 := frameTime clk s
  let s1 := egressFirst side port ([0, 1, 2].foldl (fun s c => pruneQueue d port c s.frames.list.length s) s0)
  match (classQueue s1 d port 0).head? with
  | some f =>
    if !frameReady s1 f then egressRest side port s1
    else if !mayBegin s1 f then egressRest side port (bump (pg .trn) 0x220 1 s1)
    else match clearWire s1 d (emitPorts s1 f) none with
      | some (t, s2) => beginTx f t s2
      | none => egressRest side port s1
  | none => egressRest side port s1

/-- A Meridian step discards every frame in a launch queue (R255). -/
def launchDiscard (s : State) : State :=
  (s.frames.list.filter (fun f => f.launch.isSome && f.stage != .emitting)).foldl (fun s f =>
    event (pg .trn) 2 (bump (pg .trn) 0x218 1 (discard f 0x29 s))) { s with frames := { s.frames with taken := [] } }

end Sys2Proof.Machine
end

