-- ==== Sys2Proof/Machine/Ports.lean ====
section
/-! DEFINITION. Ports (R91-R116): link up and down, priority flow control and preemption timers, PORT_MAP and PORT_EQ, and
the frames that agents send. -/

namespace Sys2Proof.Machine

/-- A side's ports in a group. -/
def groupPorts (g : Nat) : List Nat := (List.range 8).map (fun j => 8 * g + j)

/-! ### Link up and link down (R96-R99) -/

/-- Frames in reception on a port end as TRUNCATED, or for what already proves them bad (R98); a frame that its command has declared
good has come whole. DESIGN CHOICE, unsafe (log entry 33). -/
def cutReception (side : Side) (p : Nat) (s : State) : State :=
  (s.frames.list.filter (fun f => cameFrom side p f && inRx f)).foldl (fun s f =>
    if f.rxOpen then closeRx f s
    else match f.bad with
    | some r => endBad f r 0 s
    | none => event (portPage side p) 7 (portBump side p 0x238 1 (endBad f 0x05 0 s))) s

/-- Frames in emission on a port are cut off, unless another port of their pair goes on (R99, R307). -/
def cutEmission (side : Side) (p : Nat) (s : State) : State :=
  (s.frames.list.filter (fun f => outSide f.dir == side && f.stage == .emitting && (emitPorts s f).contains p)).foldl (fun s f =>
    let s1 := portBump side p 0x268 1 s
    if egressUp s1 f then s1 else discard f 0x24 s1) s

/-- A declaration that takes ingress, egress or both down (R97); `tx` is what the transmitter sends from then on, if that changes. A
failed verification outlasts it, until EN is written again (R108). ALIGNED is shown from LINK_UP to the fall of the ingress.
DESIGN CHOICE, unsafe (log entry 91). -/
def linkFall (side : Side) (p : Nat) (ingress egress : Bool) (tx : Option Nat) (s : State) : State :=
  let x := portOf s side p
  let s0 := reap s
  let s1 := modPort side p (fun x =>
    { x with ingUp := x.ingUp && !ingress, egUp := x.egUp && !egress, aligned := x.aligned && !ingress,
             verify := if x.verify = 3 then 3 else 0, verTries := if x.verify = 3 then x.verTries else 0,
             pfcWait := if egress then [] else x.pfcWait, pfcEnd := if egress then 0 else x.pfcEnd }) s0
  let s2 := if ingress then cutReception side p s1 else s1
  let s3 := if egress then cutEmission side p s2 else s2
  let s4 := match tx with
    | some v => setTx side p v s3
    | none => s3
  if linkUp x then event (portPage side p) 1 s4 else s4

/-- LINK_DOWN: `cond` 0 is a loss of signal, of alignment or a local fault, 1 a remote fault, 2 PORT_CTRL.ADMIN_DOWN. -/
def linkDownCmd (side : Side) (p cond : Nat) (s : State) : State :=
  let admin := bit (getReg s (ra (portPage side p) 0x108)) 1
  if !portOn s side p || (cond == 2 && !admin) then s
  else if cond = 1 then linkFall side p false true none s
  else linkFall side p true true (some (if cond = 2 then 2 else 1)) s

/-- A PORT_EQ in progress ends. -/
def eqEnd (side : Side) (p : Nat) (st : Status) (s : State) : State :=
  match (portOf s side p).eq with
  | some (o, _) => event (portPage side p) 6 (endOrder o st 0 (modPort side p (fun x => { x with eq := none, training := false }) s))
  | none => s

/-- 802.3br verification starts afresh where it is wanted (R108). -/
def verifyStart (s : State) (side : Side) (p : Nat) (x : Port) : Port :=
  let r := getReg s (ra (portPage side p) 0x11C)
  { x with verify := if bit r 31 && !bit r 30 then 1 else 0, verTries := 0 }

/-- As the link comes up, verification starts, unless it has failed since EN was last written (R108). -/
def verifyAtUp (s : State) (side : Side) (p : Nat) (x : Port) : Port := if x.verify = 3 then x else verifyStart s side p x

/-- LINK_UP (R96): the port was clean for UP_HOLD; ALIGNED is shown from here. DEDUCED, unsafe (log entry 35). DESIGN CHOICE, unsafe
(log entry 91). -/
def linkUpCmd (side : Side) (p : Nat) (s : State) : State :=
  let admin := bit (getReg s (ra (portPage side p) 0x108)) 1
  let x := portOf s side p
  if !portOn s side p || admin || linkUp x then s
  else
    let s1 := modPort side p (fun x => verifyAtUp s side p { x with ingUp := true, egUp := true, aligned := true, training := false }) s
    eqEnd side p .ok (event (portPage side p) 0 (setTx side p 0 s1))

/-! ### Flow control and preemption -/

/-- PFC_REFRESH: half of QUANTA has elapsed while the port is paused (R105). -/
def pfcAgain (side : Side) (p : Nat) (s : State) : State :=
  let x := portOf s side p
  let q := regFld s (ra (pg .plain p) 0x118) 15 0
  let due := x.pfcAt + lineTime (portRate s side p) (q * 32)
  if side == .line || !x.pfcWait.isEmpty || !portOn s side p || !x.xoff || !bit (getReg s (ra (pg .plain p) 0x118)) 31 then s
  else
    let s1 := advanceMer due s
    if s1.time.mer < due then s1 else sendPfc p q s1

/-- One attempt of this port's own verification (R108): its verify frame leaves, and is answered or not. -/
def verifyTry (side : Side) (p : Nat) (answered : Bool) (s0 : State) : State :=
  let x := portOf s0 side p
  if !portOn s0 side p || !linkUp x || x.verify != 1 then s0
  else
    let s := emit (.verify side p false) s0
    if answered then modPort side p (fun x => { x with verify := 2, verTries := x.verTries + 1 }) s
    else if x.verTries + 1 < 3 then modPort side p (fun x => { x with verTries := x.verTries + 1 }) s
    else event (portPage side p) 5 (modPort side p (fun x => { x with verify := 3, verTries := 3 }) s)

/-- A verify request of the link partner is answered, whatever PORT_PREEMPT holds (R109). -/
def verifyAnswer (side : Side) (p : Nat) (s : State) : State :=
  if portOn s side p && (portOf s side p).ingUp && egOpen s side p && !idleMode s then emit (.verify side p true) s else s

/-- PREEMPT_VERIFY: an attempt of this port, or a request of its partner (R108, R109). -/
def verifyStep (side : Side) (p : Nat) (v : Verify) (s : State) : State :=
  match v with
  | .unanswered => verifyTry side p false s
  | .answered => verifyTry side p true s
  | .request => verifyAnswer side p s

/-! ### PORT_MAP (R92, R101, R248) -/

/-- The staged mode and interface type of a group. -/
def stagedMode (s : State) (side : Side) (g : Nat) : Nat := regFld s (ra (portPage side (8 * g)) 0x100) 2 0
def stagedType (s : State) (side : Side) (g : Nat) : Nat := regFld s (ra (portPage side (8 * g)) 0x100) 9 8

/-- The sizes of a group as committed, or as the last accepted PORT_MAP leaves them. -/
def groupParts (s : State) (side : Side) (g : Nat) : List Nat :=
  match s.maps.reverse.find? (fun m => m.side == side && m.group == g) with
  | some m => (List.range 8).map (fun j => if modeRate m.mode j = 0 then 0 else m.parts.getD j 0)
  | none => (groupPorts g).map (fun p => if portOn s side p then (portOf s side p).part else 0)

/-- Whether the sizes of a PORT_MAP keep R101 and R248. -/
def partsOk (s : State) (side : Side) (g mode : Nat) (parts : List Nat) : Bool :=
  let on := (List.range 8).filter (fun j => modeRate mode j != 0)
  let total := (on.map (fun j => parts.getD j 0)).sum + (groupParts s side (1 - g)).sum
  on.all (fun j => decide (8 ≤ parts.getD j 0) && decide (2 * maxCells side ≤ parts.getD j 0 * 64 - polarQ s side (8 * g + j))) &&
    decide (total ≤ 1024)

/-- PORT_MAP taken: the staged values are read now, and the change waits for the boundary. -/
def portMapReq (ord : Nat) (side : Side) (g : Nat) (parts : List Nat) (s : State) : State :=
  let mode := stagedMode s side g
  if !partsOk s side g mode parts then endOrder ord .arg 0 s
  else
    let m : MapPend := { ord := ord, side := side, group := g, mode := mode, iftype := stagedType s side g, parts := parts }
    { s with maps := s.maps ++ [m] }

/-- Every TROPIC_RATE above the new rate of a port is lowered to it (R244). -/
def lowerRate (side : Side) (p : Nat) (s : State) : State :=
  let a := ra (pg .sch) (0x200 + 4 * (match side with | .line => p | .plain => 16 + p))
  let r := getReg s a
  let top := portRate s side p * 10
  if top < fld r 15 0 then setReg s a (setFld r 15 0 top) else s

/-- One port at the commit of a PORT_MAP; CR and KR links start their training, and PORT_EQ_SRC shows it from its start (R94).
DEDUCED, unsafe (log entry 35). DESIGN CHOICE, unsafe (log entry 94). -/
def commitPort (m : MapPend) (s : State) (j : Nat) : State :=
  let p := 8 * m.group + j
  let s1 := linkFall m.side p true true (some 2) s
  let on := modeRate m.mode j != 0
  let s2 := modPort m.side p (fun x =>
    { Port.init with mode := m.mode, iftype := m.iftype, part := if on then m.parts.getD j 0 else 0, eq := x.eq,
                     eqTrained := on && m.iftype != 0, training := on && m.iftype != 0 }) s1
  let s3 := if on then s2
    else
      let lo := ra (portPage m.side p) 0
      { s2 with ctrs := spKeep (fun a => decide (a < lo) || decide (lo + 0x1000 ≤ a)) s2.ctrs }
  lowerRate m.side p s3

/-- PORT_MAP orders commit at the boundary. -/
def mapBoundary (s : State) : State :=
  s.maps.foldl (fun s m => endOrder m.ord .ok 0 ((List.range 8).foldl (commitPort m) s)) { s with maps := [] }

/-! ### PORT_EQ (R115) -/

/-- PORT_EQ taken; C2M links perform no training, and PORT_EQ_SRC shows a training from its start (R94).
DEDUCED, unsafe (log entry 35). DESIGN CHOICE, unsafe (log entry 94). -/
def portEqReq (ord : Nat) (retrain : Bool) (side : Side) (p : Nat) (s : State) : State :=
  if !portOn s side p then endOrder ord .arg 0 s
  else if (portOf s side p).eq.isSome then endOrder ord .busy 0 s
  else modPort side p (fun x => { x with eq := some (ord, now s), eqTrained := retrain && x.iftype != 0,
                                                                            training := retrain && x.iftype != 0 }) (linkFall side p true true (some 2) s)

/-- PORT_EQ_TIMEOUT: 16,000 ticks have passed. -/
def portEqLimit (side : Side) (p : Nat) (s : State) : State :=
  match (portOf s side p).eq with
  | some (_, t) => if 16000 ≤ tdiff (now s) t then eqEnd side p .fault s else s
  | none => s

/-! ### Frames of agents (R113, R240, R343) -/

/-- Whether the agents of this twin may send a frame on a port: no MKPDU where the partner's MKA agent acts (R312), and PTP only of its
domain and on a port with PTP_TERM = 1 (R345). -/
def agentMay (s : State) (side : Side) (p : Nat) (bytes : Bytes) : Bool :=
  !(etherType bytes == 0x888E && twinMode s && !mkaActs s) &&
    (etherType bytes != 0x88F7 || (bit (cfgReg s (ra (portPage side p) 0x108)) 2 && ptpOurs s bytes))

/-- CONTROL_FRAME_TX: an agent hands a frame over; under the port's own address it goes to admission and joins the Tropic queue (R240,
R245, R249). -/
def controlTx (side : Side) (p : Nat) (bytes : Bytes) (s : State) : State :=
  if !portOn s side p || !(traffic s || controlOnly s) || !agentMay s side p bytes then s
  else if !macSet s side p then portBump side p 0x298 1 s
  else
    let b := padMin (bytes.take 6 ++ portMac s side p ++ bytes.drop 12)
    let f := { Frame.fresh (dirOut side) p b s.time.mer (now s) with kind := .control, cls := 1, dest := p, cells := cellsOf (b.length + 4) }
    reachAdmission s.frames.nextId (addFrame f s)

end Sys2Proof.Machine
end

