-- ==== Sys2Proof/Machine/Meridian.lean ====
section
/-! DEFINITION. Meridian (R338-R354, R397): the step, PPS capture, the servo's states and the adrift conditions, Trig outputs,
the real-time clock and writes of MER_RATE. -/

namespace Sys2Proof.Machine

/-! ### Trig outputs (R349-R351) -/

def trgReg (k off : Nat) : Nat := ra (pg .trg) (0x100 + 0x20 * k + off)
def trgOf (s : State) (k : Nat) : Trig := s.mer.trig.getD k Trig.init
def modTrg (k : Nat) (f : Trig → Trig) (s : State) : State :=
  { s with mer := { s.mer with trig := s.mer.trig.set k (f (trgOf s k)) } }

/-- START of an output as a Meridian time, its PERIOD and WIDTH. -/
def trgStart (s : State) (k : Nat) : Nat :=
  ((regFld s (trgReg k 8) 15 0 * 2 ^ 32 + (getReg s (trgReg k 4)).toNat) * 1000000000 + regFld s (trgReg k 12) 29 0) * nsUnit
def trgPeriod (s : State) (k : Nat) : Nat := (getReg s (trgReg k 0x10)).toNat * nsUnit
def trgWidth (s : State) (k : Nat) : Nat := (getReg s (trgReg k 0x14)).toNat * nsUnit

def trgArmed (s : State) (k : Nat) : Bool := bit (getReg s (trgReg k 0)) 31
def trgPeriodic (s : State) (k : Nat) : Bool := bit (getReg s (trgReg k 0)) 30

/-- ARM returns to 0. -/
def trgDisarm (k : Nat) (s : State) : State := setReg s (trgReg k 0) (setBit (getReg s (trgReg k 0)) 31 false)

/-- The output's pin, while it is driven. -/
def trgPin (k : Nat) (level : Bool) (s : State) : State :=
  if bit (getReg s (trgReg k 0)) 29 then emit (.pin (1 + k) level) s else s

/-- START is checked at arming or after a step: the next instant at least 1 us ahead, or a miss (R350, R351).
DEDUCED, unsafe (log entry 63). -/
def trgPlan (k : Nat) (s : State) : State :=
  let st := trgStart s k
  let lim := s.time.mer + 1000 * nsUnit
  if trgPeriodic s k then
    let per := trgPeriod s k
    let n := if st < lim then cdiv (lim - st) per else 0
    modTrg k (fun x => { x with missed := false, next := some (st + n * per) }) s
  else if st < lim then
    event (pg .trg) (4 + k) (trgDisarm k (modTrg k (fun x => { x with missed := true, next := none }) s))
  else modTrg k (fun x => { x with missed := false, next := some st }) s

/-- A pulse whose width has passed ends; a one-shot is then disarmed. -/
def trgEndOne (s : State) (k : Nat) : State :=
  let x := trgOf s k
  if x.pulsing && decide (x.endAt ≤ s.time.mer) then
    let s1 := trgPin k false (modTrg k (fun x => { x with pulsing := false }) s)
    if trgArmed s1 k && !trgPeriodic s1 k then trgDisarm k s1 else s1
  else s
def trgEnd (s : State) : State := (List.range 4).foldl trgEndOne s

/-- TRIG_PULSE: the next instant of an armed output comes; a pulse that ends within the tick is carried through. -/
def trgPulse (k : Nat) (s : State) : State :=
  let s0 := trgEnd s
  match (trgOf s0 k).next with
  | some t =>
    if !trgArmed s0 k then s0
    else
      let s1 := advanceMer t s0
      if s1.time.mer < t then s1
      else
        let nxt := if trgPeriodic s1 k then some (t + trgPeriod s1 k) else none
        let s2 := modTrg k (fun x => { x with pulsing := true, endAt := t + trgWidth s1 k, next := nxt }) s1
        trgPin k true (event (pg .trg) k (bump (pg .trg) (0x200 + 8 * k) 1 s2))
  | none => s0

/-- TRG_ARM: TRG_CTRL is written; ARM from 0 to 1 checks START, ARM = 0 stops further pulses. With OE set the
output is driven at its present level. -/
def trgArmWrite (k : Nat) (v : Word) (s : State) : State :=
  let was := trgArmed s k
  let s0 := setReg s (trgReg k 0) (v &&& 0xE0000000)
  let s1 := if bit v 29 && !bit (getReg s (trgReg k 0)) 29 then trgPin k (trgOf s k).pulsing s0 else s0
  if bit v 31 && !was then trgPlan k s1
  else if !bit v 31 then modTrg k (fun x => { x with next := none }) s1
  else s1

/-! ### Servo and the adrift conditions (R346, R347, R352) -/

/-- Whether ADRIFT holds. -/
def adriftNow (s : State) : Bool :=
  let thr := regFld s (ra (pg .mer) 0x124) 15 0
  let off := decide (thr < s.mer.offset.natAbs)
  (s.mer.servo == 1 && s.time.stepped && decide (8000 ≤ s.mer.stepAge) && off) || (s.mer.servo == 2 && off) ||
  ((s.mer.servo == 3 || s.mer.servo == 4) && decide (regFld s (ra (pg .mer) 0x128) 15 0 * 8000 < s.mer.since)) ||
  (cfgFld s (ra (pg .mer) 0x100) 1 0 == 1 && decide (thr < s.mer.ppsErr.natAbs))

/-- ADRIFT and PAIR_ADRIFT are brought up to date; the start and the end of ADRIFT enter the log.
DEDUCED, unsafe (log entry 64). -/
def adriftUpdate (s : State) : State :=
  let a := adriftNow s
  let pair := twinMode s && decide (regFld s (ra (pg .mer) 0x134) 15 0 < s.mer.pairOfs.natAbs)
  let s1 := { s with mer := { s.mer with adrift := a, pairAdrift := pair } }
  if a = s.mer.adrift then s1
  else logEvent 0x09 [wd (2 ^ 31 + b2n a)] (if a then bump (pg .mer) 0x318 1 s1 else s1)

/-- The servo enters a state. HOLDOVER and PAIR count as one for the time spent in them (R347). -/
def servoTo (st : Nat) (s : State) : State :=
  if s.mer.servo = st then s
  else
    let still := decide (3 ≤ s.mer.servo) && decide (3 ≤ st)
    logEvent 0x09 [wd st] (event (pg .mer) 4 { s with mer := { s.mer with servo := st, since := if still then s.mer.since else 0 } })

/-- What steers Meridian: MER_CTRL.SRC as committed (R339). -/
def merSrc (s : State) : Nat := cfgFld s (ra (pg .mer) 0x100) 1 0

/-- Whether the servo may steer to the partner (R354). -/
def pairOk (s : State) : Bool := twinMode s && bit (getReg s (ra (pg .mer) 0x100)) 4 && s.twin.peerServo == 2

/-- A tick of LOCKED operation at a rate joins the history, which goes back 64 s (R346). -/
def rateJoin (r : Int) : List (Int × Nat) → List (Int × Nat)
  | (q, n) :: l => if q = r then (q, n + 1) :: l else (r, 1) :: (q, n) :: l
  | [] => [(r, 1)]
def rateKeep : Nat → List (Int × Nat) → List (Int × Nat)
  | _, [] => []
  | 0, _ => []
  | k, (q, n) :: l => (q, min n k) :: rateKeep (k - n) l

/-- The mean rate of the history, in whole units towards 0. DEDUCED, unsafe (log entry 64). -/
def rateMean (l : List (Int × Nat)) : Int := Int.tdiv ((l.map (fun x => x.1 * (x.2 : Int))).sum) ((l.map (·.2)).sum : Nat)

/-- HOLDOVER holds the rate at the mean of the last 64 s of LOCKED operation; without any, it stays (R346). -/
def rateHold (s : State) : State :=
  if s.mer.rates.isEmpty then s
  else bump (pg .mer) 0x310 1 (setReg s (ra (pg .mer) 0x108) (BitVec.ofInt 32 (rateMean s.mer.rates)))

/-- The source is lost (R346): HOLDOVER, or PAIR where the partner is LOCKED (R354); with no source seen yet, nothing is. -/
def servoLost (s : State) : State :=
  if s.mer.servo != 1 && s.mer.servo != 2 then s else if pairOk s then servoTo 4 s else servoTo 3 (rateHold s)

/-- A measured offset in ns (R346): the source is present. The servo locks after 16 in a row within MER_ADRIFT_THR, and an offset beyond
it leaves LOCKED as it is, where it is ADRIFT (R347). DEDUCED, unsafe (log entry 64). -/
def servoMeasure (off : Int) (s : State) : State :=
  let o := max (-2 ^ 31) (min off (2 ^ 31 - 1))
  let good := if o.natAbs ≤ regFld s (ra (pg .mer) 0x124) 15 0 then s.mer.good + 1 else 0
  let s1 := { s with mer := { s.mer with offset := o, good := good } }
  adriftUpdate (if s.mer.servo = 2 then s1 else if s.mer.servo = 1 then (if 16 ≤ good then servoTo 2 s1 else s1)
    else servoTo 1 { s1 with mer := { s1.mer with good := min good 1 } })

/-- SERVO_CHANGE: what the PTP agent reports of its source (R346): a measurement against the master on a port (0-15 P0-P15, 16-31
L0-L15), whose offset, own less master in units of 2^-16 ns, does not yet hold the port's asymmetry; or, with no port, that
announceReceiptTimeout has passed. A measurement on a port with PTP_TERM = 1 has the port's constantAsymmetry taken off (R344);
under SRC = PPS the edges of PPS_IN measure. DEDUCED, unsafe (log entry 64). -/
def servoReport (source : Option Nat) (off : Int) (s : State) : State :=
  match source with
  | some port =>
    let page := if port < 16 then pg .plain port else pg .line (port - 16)
    let asym := (getReg s (ra (pg .mer) (0x180 + 4 * port))).toInt
    if merSrc s == 1 || !bit (cfgReg s (ra page 0x108)) 2 then s else servoMeasure (Int.tdiv (off - asym) 65536) s
  | none => if merSrc s == 0 then adriftUpdate (servoLost s) else s

/-- One tick more in the present state: a LOCKED tick joins the history; under SRC = PPS the source is lost with no edge for 2 s; and PAIR
ends with its partner's LOCKED state (R346, R354). -/
def servoTick (s : State) : State :=
  let m := s.mer
  let rates := if m.servo = 2 then rateKeep 512000 (rateJoin s.time.rate.toInt m.rates) else m.rates
  let s1 := { s with mer := { m with since := m.since + 1, stepAge := m.stepAge + 1, ppsAge := m.ppsAge + 1, rates := rates } }
  let s2 := if merSrc s == 1 && decide (16000 ≤ s1.mer.ppsAge) then servoLost s1 else s1
  adriftUpdate (if s2.mer.servo = 4 && !pairOk s2 then servoTo 3 (rateHold s2) else s2)

/-- Egress timestamps go to the PTP agent, which takes them once in a tick while it runs (R343).
DESIGN CHOICE, unsafe (log entry 99). -/
def stampsTake (s : State) : State :=
  if (s.hlt.agents[1]?).any (·.running) then
    s.mer.stamps.foldl (fun s x => emit (.stamp x.1 x.2.1 x.2.2) s) { s with mer := { s.mer with stamps := [] } }
  else s

/-! ### The step (R29, R340, R341) -/

/-- GRT CANCEL when tick-scheduled items are cancelled (R90). -/
def scheduled (s : State) : Bool := s.ecl.entries.any (fun e => !e.active) || !(s.tsi.swap.getD 0 []).isEmpty || !(s.tsi.swap.getD 1 []).isEmpty

/-- Every tick-scheduled item is cancelled for a reason. -/
def cancelScheduled (reason : Nat) (s : State) : State :=
  eventIf (scheduled s) (pg .grt) 2 (tsiCancelAll reason (eclCancelAll reason s))

/-- What the model keeps as a Meridian time and what measures a span that a step does not change moves with the step: emissions,
credits and meters of ports, pulses that have begun, and the waits for and between PPS edges.
DEDUCED, unsafe (log entry 63). -/
def merShift (old new : Nat) (s : State) : State :=
  let sh := fun (t : Nat) => t + new - old
  let port := fun (x : Port) => { x with pfcAt := sh x.pfcAt, credAt := sh x.credAt, meterAt := sh x.meterAt, pfcEnd := sh x.pfcEnd }
  { s with
    plainPorts := s.plainPorts.map port, linePorts := s.linePorts.map port,
    frames := { s.frames with list := s.frames.list.map (fun f => { f with rxAt := sh f.rxAt, rxEnd := sh f.rxEnd, fragAt := f.fragAt.map sh, txAt := sh f.txAt, endAt := sh f.endAt }) },
    mer := { s.mer with trig := s.mer.trig.map (fun x => { x with endAt := sh x.endAt }),
                        reqs := s.mer.reqs.map (fun x => (x.1, x.2.1, sh x.2.2)), step := s.mer.step.map (fun x => (x.1, x.2.1, sh x.2.2)), ppsLast := s.mer.ppsLast.map sh } }

/-- Meridian is stepped to a new time. DEDUCED, unsafe (log entry 63). -/
def stepMer (ord new : Nat) (s : State) : State :=
  let s0 := if s.time.clk = 0 then passClocks 1 s else s
  let s1 := bunEmpty (launchDiscard (cancelScheduled 0x80 (reap s0)))
  let s2 := pmSuspect (merShift s1.time.mer new { s1 with time := { s1.time with mer := new, stepped := true } })
  let s3 := (List.range 4).foldl (fun s k => if trgArmed s k && (trgOf s k).next.isSome then trgPlan k s else s) s2
  let s4 := adriftUpdate (servoTo 1 { s3 with mer := { s3.mer with offset := 0, since := 0, stepAge := 0, good := 0 } })
  endOrder ord .ok 0 (event (pg .mer) 3 (bump (pg .mer) 0x308 1 s4))

/-- The first Meridian time past the range of 48-bit seconds. -/
def merTop : Nat := 2 ^ 48 * 1000000000 * nsUnit

/-- MER_STEP taken: OFFSET mode steps at once, PPS mode waits for an edge (R340). `frac` is in 2^-16 ns. -/
def merStepReq (ord : Nat) (neg pps : Bool) (sec ns frac : Nat) (s : State) : State :=
  if pps then
    if neg || ns != 0 || frac != 0 || decide (2 ^ 48 ≤ sec) then endOrder ord .arg 0 s
    else { s with mer := { s.mer with step := s.mer.step ++ [(ord, sec, s.time.mer)] } }
  else
    let d := (sec * 1000000000 + ns) * nsUnit + frac * nsUnit / 2 ^ 16
    if 1000000000 ≤ ns then endOrder ord .arg 0 s
    else if (neg && decide (s.time.mer < d)) || (!neg && decide (merTop ≤ s.time.mer + d)) then endOrder ord .arg 0 s
    else stepMer ord (if neg then s.time.mer - d else s.time.mer + d) s

/-- PPS steps that wait end with FAULT: all of them, or those that have waited for 2 s (R340).
DEDUCED, unsafe (log entry 63). -/
def merStepEnd (all : Bool) (s : State) : State :=
  let late := fun (x : Nat × Nat × Nat) => all || decide (x.2.2 + 2000000000 * nsUnit ≤ s.time.mer)
  (s.mer.step.filter late).foldl (fun s x => endOrder x.1 .fault 0 s) { s with mer := { s.mer with step := s.mer.step.filter (fun x => !late x) } }

/-- MER_STEP_PPS_TIMEOUT: no edge for 2 s (R340). -/
def merStepLimit (s : State) : State := merStepEnd false s

/-- PPS_CAPTURE: a rising edge of PPS_IN (R348); in CONFIGURE and DIAGNOSTIC it completes a PPS step that has waited for less than
2 s (R340, R341). DEDUCED, unsafe (log entry 63). -/
def ppsEdge (s0 : State) : State :=
  let s := merStepLimit s0
  let recent := s.mer.ppsLast.any (fun t => decide (s.time.mer < t + 500000000 * nsUnit))
  if !bit (getReg s (ra (pg .mer) 0x14C)) 0 || recent then s
  else
    let ns := merNs s
    let r := ns % 1000000000
    let err : Int := if r < 500000000 then (r : Int) else (r : Int) - 1000000000
    let s1 := adriftUpdate { s with mer := { s.mer with ppsAt := some s.time.mer, ppsLast := some s.time.mer, ppsErr := err, ppsAge := 0 } }
    let s2 := event (pg .mer) 2 (bump (pg .mer) 0x320 1 (if merSrc s = 1 then servoMeasure err s1 else s1))
    if !modeIn [.configure, .diagnostic] s then s2
    else s.mer.step.foldl (fun s x => stepMer x.1 (x.2.1 * 1000000000 * nsUnit) s) { s2 with mer := { s2.mer with step := [] } }

/-- MER_RATE (R338, R339). -/
def merRateCmd (m : Master) (v : Word) (s : State) : State :=
  let a := ra (pg .mer) 0x108
  if m == .host && cfgFld s (ra (pg .mer) 0x100) 1 0 != 2 then regErr m a 0x40 s
  else if 3518437 < v.toInt.natAbs then regErr m a 0x06 s
  else bump (pg .mer) 0x310 1 (setReg s a v)

/-! ### The real-time clock (R397) -/

/-- RTC_LOAD: at a whole second of a stepped Meridian, while the main supplies are valid. The fraction is held in units of
1/4,096,000 s, 512 to a tick. -/
def rtcLoadNow (s : State) : State :=
  if s.dev.supply && s.time.stepped && s.time.run && tickStart s % (1000000000 * nsUnit) == 0 then
    { s with lun := { s.lun with rtcSec := wd (tickStart s / nsUnit / 1000000000), rtcFrac := 0, rtcSet := true } }
  else s

/-- The RTC runs on by one tick. DEDUCED, unsafe (log entry 64). -/
def rtcTick (s : State) : State :=
  let f := s.lun.rtcFrac + 512
  { s with lun := { s.lun with rtcFrac := f % 4096000, rtcSec := s.lun.rtcSec + wd (f / 4096000) } }

end Sys2Proof.Machine
end

