-- ==== Sys2Proof/Machine/Twin.lean ====
section
/-! DEFINITION. Twin pairs (R306-R336): the heartbeat, tick lists, receive checkpoints, emission digests, disagreement and
self-check, cross-checks, arbitration and realignment. -/

namespace Sys2Proof.Machine

/-! ### Mode triggers (R37, R38) -/

/-- A trigger falls due at the next boundary. DEDUCED, unsafe (log entry 17). -/
def trigger (target : Mode) (cause rank : Nat) (ord : Option Nat) (s : State) : State :=
  let t : ModeTrig := { target := target, cause := cause, rank := rank, ord := ord }
  if s.dev.trig.contains t then s else { s with dev := { s.dev with trig := s.dev.trig ++ [t] } }

/-- SYS_FAULT: HEALTH, BLOCK, ZEROIZED and NO_IMAGE. -/
def sysFault (s : State) : Nat :=
  b2n s.dev.health * 8 + b2n (s.legends.any (fun e => e.2.fault)) * 4 + b2n (s.dev.mode == .zeroized) * 2 + b2n s.dev.noImage

/-! ### Heartbeats (R320, R352, R353) -/

/-- The heartbeat of a tick: TWIN_ID, mode, TICK, SYS_FAULT, Meridian time, JOIN_PHASE; the servo's state
stands in bits 31:29 of the SYS_FAULT word (R354). DESIGN CHOICE, unsafe (log entry 57). -/
def heartbeatBytes (s : State) : Bytes :=
  [by8 (twinId s), by8 s.dev.mode.code] ++ beBytes 4 (now s).toNat ++ beBytes 4 (sysFault s + s.mer.servo % 8 * 2 ^ 29) ++
    beBytes 16 s.time.mer ++ [by8 s.twin.joinPhase]

/-- A heartbeat that counts: it carries the tick and arrives within 50 us of its boundary (R353). -/
def heartbeatTimely (s : State) (t : Tick) : Bool :=
  let b := merOfTick s t
  (t == now s || t == now s + 1) && decide (s.time.mer ≤ b + 50000 * nsUnit) && decide (b ≤ s.time.mer + 50000 * nsUnit)

/-- What a good heartbeat tells: mode, phase, servo and the one-way latency (R320, R352). A joiner whose phase falls back begins a
new copy (R333). -/
def heartbeatTake (p : Bytes) (s : State) : State :=
  let lat := (s.time.mer - beAt p 10 16) / nsUnit
  let mode := (byteAt p 1).toNat % 16
  let ofs := if twinMode s then (regFld s (ra (pg .mer) 0x130) 15 0 : Int) - lat else 0
  let t := s.twin
  let late := beAt p 2 4 != (now s).toNat
  let emits := mode == Mode.twinEmit.code || mode == Mode.twinHold.code
  let phase := (byteAt p 26).toNat % 4
  let again := decide (phase < t.peerPhase)
  { s with
      twin := { t with peerMode := mode, snapSent := t.snapSent && !again, bulk := if again then [] else t.bulk, peerTwin := (byteAt p 0).toNat % 2, present := true, peerPhase := phase, peerServo := (byteAt p 6).toNat / 32,
                       hbSeen := t.hbSeen || !late, hbNext := t.hbNext || late, latency := min lat 0xFFFF, missed := 0,
                       notEmit := if emits then 0 else t.notEmit + 1 }
      mer := { s.mer with pairOfs := ofs } }

/-- HEARTBEAT_RX. -/
def heartbeatRx (bytes : Bytes) (clk : Nat) (s0 : State) : State :=
  let s := advanceTo clk s0
  match oldReceive 1 bytes s with
  | (some p, s1) => if p.length == 27 && heartbeatTimely s1 (wd (beAt p 2 4)) then adriftUpdate (heartbeatTake p s1) else s1
  | (none, s1) => s1

/-- The heartbeat of a tick is sent; under a near-end loop it comes back (R320, R321).
DESIGN CHOICE, safe (log entry 12). DEDUCED, unsafe (log entry 60). -/
def heartbeatSend (s : State) : State :=
  let p := heartbeatBytes s
  let s1 := oldSend 1 p s
  if oldRuns s && oldNear s then
    let s2 := heartbeatTake p s1
    { s2 with twin := { s2.twin with latency := min Config.loopNs 0xFFFF } }
  else s1

/-- A realignment that can no longer take place is given up: TWIN_SWITCHBACK ends with a status.
DEDUCED, unsafe (log entry 61). -/
def alignCancel (st : Status) (s : State) : State :=
  if !s.twin.alignReq && !s.twin.alignFixed then s
  else endOpt s.twin.alignOrd st 0
    { s with twin := { s.twin with alignReq := false, alignFixed := false, alignOrd := none, held := false } }

/-- A twin that holds does not come to emit with a partner that is lost: a change that was due is logged as lost (R38). -/
def dropEmit (s : State) : State :=
  let due := s.dev.trig.filter (fun t => t.target == .twinEmit)
  due.foldl (fun s t => logEvent 0x01 [wd t.target.code, wd t.cause] s)
    (alignCancel .busy { s with dev := { s.dev with trig := s.dev.trig.filter (fun t => t.target != .twinEmit) } })

/-- The partner is declared lost (R37, R320): no join of it goes on. -/
def partnerLost (s : State) : State :=
  let s0 := if s.dev.mode = .twinHold then dropEmit s else s
  let s1 := event (pg .twn) 2 { s0 with twin := { s0.twin with present := false, peerPhase := 0, snapSent := false, bulk := [] } }
  if s.dev.mode = .twinEmit then trigger .twinHold 0x0D 4 none s1
  else if s.dev.mode = .twinJoin then trigger .configure 0x0D 4 none s1
  else s1

/-- The end of a tick: whether its heartbeat came (R317, R320). Runs at the boundary, before the mode changes. In the twin modes a
link that is switched off brings none. -/
def heartbeatEnd (s : State) : State :=
  let t := s.twin
  let next := fun (s : State) => { s with twin := { s.twin with hbSeen := s.twin.hbNext, hbNext := false } }
  if !oldRuns s && !twinMode s then next { s with twin := { t with hbRun := 0, present := false } }
  else if t.hbSeen then next { s with twin := { t with hbRun := min 2 (t.hbRun + 1) } }
  else
    let s1 := event (pg .old) 2 (bump (pg .old) 0x230 1 { s with twin := { t with hbRun := 0, missed := min 3 (t.missed + 1) } })
    next (if t.present && s1.twin.missed == 3 then partnerLost s1 else s1)

/-! ### Tick lists (R311-R313) -/

/-- The wrapped form of an item's image under the pair key; a key that does not unwrap marks the item (R311). -/
def sealImage (s : State) (img : List Word) (key : Option Bytes) : Bytes :=
  let w := match key, s.keys.pairKey with
    | some k, some pk => kwWrap pk k
    | _, _ => []
  by8 (b2n key.isSome) :: (wordsToBytes (rec64 img)).take 0x40 ++ w ++ zeros (0x28 - w.length) ++ ((wordsToBytes (rec64 img)).drop 0x68)

/-- An image and its key from the partner. -/
def openImage (s : State) (b : Bytes) : List Word × Option Bytes :=
  let img := bytesToWords 64 (slice b 1 256)
  let k := if byteAt b 0 = 1 then unwrapUnder s.keys.pairKey (recBytes img 0x40 (wrapLen (recSuite img))) else none
  (img, k)

/-- The fields of a Gazetteer and a Contour edit as bytes. -/
def gazArgBytes (a : GazEditArgs) : Bytes :=
  [by8 a.op, by8 a.kind, by8 a.port, by8 (b2n a.age), by8 a.action, by8 a.cls] ++ beBytes 3 a.sa ++ beBytes 16 a.key
def conArgBytes (a : ConEditArgs) : Bytes :=
  [by8 a.op, by8 a.action, by8 a.cls, by8 (b2n a.prioAuto), by8 a.prio] ++ beBytes 3 a.sa ++ beBytes 20 a.value ++ beBytes 20 a.mask
def gazArgOf (b : Bytes) : GazEditArgs :=
  { op := beAt b 0 1, kind := beAt b 1 1, port := beAt b 2 1, age := byteAt b 3 != 0, action := beAt b 4 1, cls := beAt b 5 1, sa := beAt b 6 3,
    key := beAt b 9 16 }
def conArgOf (b : Bytes) : ConEditArgs :=
  { op := beAt b 0 1, action := beAt b 1 1, cls := beAt b 2 1, prioAuto := byteAt b 3 != 0, prio := beAt b 4 1, sa := beAt b 5 3,
    value := beAt b 8 20, mask := beAt b 28 20 }

/-- A chore body as a message carries it: a code and its fields. -/
def bodyBytes (s : State) : ChoreBody → Bytes
  | .erase i => 1 :: beBytes 3 i
  | .pin i => 2 :: beBytes 3 i
  | .unpin i => 3 :: beBytes 3 i
  | .gaz a => 4 :: gazArgBytes a
  | .con a => 5 :: conArgBytes a
  | .installImg i img key imp => by8 (6 + b2n imp) :: beBytes 3 i ++ sealImage s img key
  | .rewriteImg i img key => 8 :: beBytes 3 i ++ sealImage s img key
  | .install _ _ _ _ => []
  | .rewrite _ _ _ => []

/-- The length of a body of a code, and the body. -/
def bodyLen (code : Nat) : Nat := if code ≤ 3 then 4 else if code = 4 then 26 else if code = 5 then 49 else 261
def bodyOf (s : State) (b : Bytes) : Option ChoreBody :=
  let code := (byteAt b 0).toNat
  let i := beAt b 1 3
  let p := openImage s (b.drop 4)
  match code with
  | 1 => some (.erase i)
  | 2 => some (.pin i)
  | 3 => some (.unpin i)
  | 4 => some (.gaz (gazArgOf (b.drop 1)))
  | 5 => some (.con (conArgOf (b.drop 1)))
  | 6 => some (.installImg i p.1 p.2 false)
  | 7 => some (.installImg i p.1 p.2 true)
  | 8 => some (.rewriteImg i p.1 p.2)
  | _ => none

/-- An item of a tick list as a message carries it. DESIGN CHOICE, unsafe (log entry 57). -/
def itemBytes (s : State) : ListItem → Bytes
  | .chore ag _ b => [1, by8 (b2n ag)] ++ bodyBytes s b
  | .ecl _ k sa new t f => [2, by8 k] ++ beBytes 3 sa ++ beBytes 3 new ++ beBytes 4 t.toNat ++ beBytes 8 f
  | .eclCancel _ k sa t => [3, by8 k] ++ beBytes 3 sa ++ beBytes 4 t.toNat
  | .tsi _ d t => [4, by8 d] ++ beBytes 4 t.toNat
  | .advance _ m t => 5 :: beBytes 2 m ++ beBytes 3 t
  | .renew _ c => [6, by8 c]
  | .arbitrate _ r => [7, by8 r]
  | .learn e => [8, by8 (b2n e.aged), by8 e.kind, by8 e.port] ++ beBytes 16 e.key ++ beBytes 3 e.sa ++ beBytes 4 e.tick.toNat

/-- An item and the bytes it takes. -/
def itemOf (s : State) (b : Bytes) : Option (ListItem × Nat) :=
  let at4 := fun (o : Nat) => wd (beAt b o 4)
  match (byteAt b 0).toNat with
  | 1 => (bodyOf s (b.drop 2)).map (fun x => (.chore (byteAt b 1 != 0) none x, 2 + bodyLen (byteAt b 2).toNat))
  | 2 => some (.ecl none (beAt b 1 1) (beAt b 2 3) (beAt b 5 3) (at4 8) (beAt b 12 8), 20)
  | 3 => some (.eclCancel none (beAt b 1 1) (beAt b 2 3) (at4 5), 9)
  | 4 => some (.tsi none (beAt b 1 1) (at4 2), 6)
  | 5 => some (.advance none (beAt b 1 2) (beAt b 3 3), 6)
  | 6 => some (.renew none (beAt b 1 1), 2)
  | 7 => some (.arbitrate none (beAt b 1 1), 2)
  | 8 => some (.learn { aged := byteAt b 1 != 0, kind := beAt b 2 1, port := beAt b 3 1, key := beAt b 4 16, sa := beAt b 20 3,
                        tick := at4 23, due := at4 23 + 2, twin := 1 - twinId s }, 27)
  | _ => none

/-- The items of a list. -/
def itemsOf (s : State) : Nat → Bytes → List ListItem
  | 0, _ => []
  | n + 1, b =>
    match itemOf s b with
    | some (x, len) => x :: itemsOf s n (b.drop len)
    | none => []

/-- The list record of a tick, and a change of it. -/
def listOf (s : State) (t : Tick) : Option TickList := s.twin.lists.find? (fun l => l.tick == t)
def modList (t : Tick) (f : TickList → TickList) (s : State) : State :=
  let fresh : TickList := { tick := t, own := [], acked := false, peer := none, exclOwn := false, exclPeer := false }
  let ls := if (listOf s t).isSome then s.twin.lists else s.twin.lists ++ [fresh]
  { s with twin := { s.twin with lists := ls.map (fun l => if l.tick = t then f l else l) } }

/-- A disagreement is found: it is declared at the next boundary (R327). -/
def disagree (cause detail : Nat) (t : Tick) (s : State) : State :=
  { s with twin := { s.twin with found := s.twin.found ++ [(cause, wd (2 ^ 31 + cause * 2 ^ 24 + detail), t)] } }

/-- TICK_LIST_RX: a partner's list, held whole and acknowledged, its acknowledgement of ours, or its word that it has excluded a
list of its own; where that one is held whole, the acknowledgement did not come through (R313).
DESIGN CHOICE, unsafe (log entry 57). -/
def tickListRx (bytes : Bytes) (s : State) : State :=
  match oldReceive 5 bytes s with
  | (some p, s1) =>
    let t := wd (beAt p 1 4)
    if s.dev.mode != .twinEmit then s1
    else if byteAt p 0 = 0 then
      (match listOf s1 t with
       | some l =>
         if l.exclPeer then s1
         else oldSend 5 (1 :: beBytes 4 t.toNat) (modList t (fun l => { l with peer := some (itemsOf s1 p.length (p.drop 5)) }) s1)
       | none =>
         oldSend 5 (1 :: beBytes 4 t.toNat) (modList t (fun l => { l with peer := some (itemsOf s1 p.length (p.drop 5)) }) s1))
    else match listOf s1 t with
      | some l =>
        if byteAt p 0 = 1 then (if l.exclOwn then s1 else modList t (fun l => { l with acked := true }) s1)
        else if l.peer.isSome && !l.exclPeer then disagree 7 0 t s1
        else s1
      | none => s1
  | (none, s1) => s1

/-- The order of an item. -/
def itemOrd : ListItem → Option Nat
  | .chore _ o _ => o
  | .ecl o _ _ _ _ _ => o
  | .eclCancel o _ _ _ => o
  | .tsi o _ _ => o
  | .advance o _ _ => o
  | .renew o _ => o
  | .arbitrate o _ => o
  | .learn _ => none

/-- An item of an excluded list: its order is BUSY, an event is lost (R313). -/
def itemLost (s : State) (x : ListItem) : State :=
  match x with
  | .learn _ => eventLost s
  | _ => endOpt (itemOrd x) .busy 0 s

/-- TICK_LIST_DEADLINE: at clock 180,000 of t+1 a list that is not held whole is excluded, and the partner is told (R313). -/
def tickListDeadline (s0 : State) : State :=
  if s0.dev.mode != .twinEmit || decide (180000 < s0.time.clk) then s0
  else
    let s := advanceTo 180000 s0
    let t := now s - 1
    match listOf s t with
    | none => s
    | some l =>
      let s1 := if l.acked || l.exclOwn then s
        else oldSend 5 (2 :: beBytes 4 t.toNat)
          (l.own.foldl itemLost (bump (pg .twn) 0x228 1 (modList t (fun l => { l with exclOwn := true, own := [] }) s)))
      if l.peer.isSome || l.exclPeer then s1
      else bump (pg .twn) 0x228 1 (modList t (fun l => { l with exclPeer := true }) s1)

/-- TWIN_ARBITRATE at clock 0 of t+2 (R330); `dec` says whether an earlier one of the same lists has decided. A twin that has left
TWIN_EMIT meanwhile is not retired (R37). DEDUCED, unsafe (log entry 50). -/
def arbitrateNow (ord : Option Nat) (retire : Nat) (dec : Bool) (s : State) : State :=
  if 3 ≤ retire then endOpt ord .arg 0 s
  else if dec || s.dev.mode != .twinEmit then endOpt ord .state 0 s
  else
    let s1 := endOpt ord .ok 0 s
    if retire = 2 then
      let clear := fun (d : Digest) => { d with cont := [0, 0, 0] }
      { s1 with twin := { s1.twin with disState := if s1.twin.disState = 2 then 0 else s1.twin.disState, waitFrom := none,
                                       own := s1.twin.own.map clear, peer := s1.twin.peer.map clear } }
    else if retire = twinId s then trigger .drain 0x10 3 none s1
    else s1

/-- The merged lists due now: Twin A's, then Twin B's, each item with whether it is this twin's (R311). -/
def dueItems (s : State) : List (Bool × ListItem) :=
  match listOf s (now s - 2) with
  | none => []
  | some l =>
    let own := if l.exclOwn then [] else l.own.map (fun x => (true, x))
    let peer := if l.exclPeer then [] else (l.peer.getD []).map (fun x => (false, x))
    if twinId s = 0 then own ++ peer else peer ++ own

/-- Whether a tick's merged lists name the partner for retirement. -/
def isArbitrate : Bool × ListItem → Bool
  | (_, .arbitrate _ r) => decide (r < 3)
  | _ => false

/-- The arbitrations due now, ahead of the mode change of the boundary (R330). -/
def arbitrateDue (s : State) : State :=
  let l := (dueItems s).filterMap (fun x => match x.2 with | .arbitrate o r => some (o, r) | _ => none)
  (l.foldl (fun (a : Bool × State) x => (a.1 || decide (x.2 < 3), arbitrateNow x.1 x.2 a.1 a.2)) (false, s)).2

/-- The partner of a twin named for retirement enters TWIN_HOLD at the next boundary (R330). -/
def arbitratePartner (s : State) : State :=
  match (dueItems s).find? isArbitrate with
  | some (_, .arbitrate _ r) =>
    if r != 2 && r != twinId s && s.dev.mode == .twinEmit then trigger .twinHold 0x10 3 none s else s
  | _ => s

/-- One item enters at clock 0 of t+2 (R311). DEDUCED, unsafe (log entry 50). -/
def enterItem (s : State) (x : Bool × ListItem) : State :=
  let tw := if x.1 then twinId s else 1 - twinId s
  let count := fun (s : State) => if x.1 then s else bump (pg .twn) 0x220 1 s
  let gone := s.dev.mode == .drain
  match x.2 with
  | .chore ag o b => enqueue (chorePart ag tw) o b s
  | .ecl o k sa new t f => count (if gone then abortOpt o 0x81 s else eclRequest o (x.1 && o.isNone) k sa new t f s)
  | .eclCancel o k sa t => count (eclCancel o k sa t s)
  | .tsi o d t => count (if gone then abortOpt o 0x81 s else tsiSwapReq o d t s)
  | .advance o m t => count (advanceGo o m t s)
  | .renew o c => count (almRenew o c s)
  | .arbitrate _ _ => count s
  | .learn e => if s.lrn.pend.any (sameEvent e) then s else { s with lrn := { s.lrn with pend := s.lrn.pend ++ [{ e with due := now s }] } }

/-- The lists of t enter, and their record is closed. -/
def enterLists (s : State) : State :=
  let t := now s - 2
  let s1 := (dueItems s).foldl enterItem s
  { s1 with twin := { s1.twin with lists := s1.twin.lists.filter (fun l => l.tick != t) } }

/-- The list of the tick that has ended closes and goes to the partner (R313). -/
def closeList (s : State) : State :=
  if s.dev.mode != .twinEmit then s
  else
    let t := now s - 1
    let s1 := modList t id s
    match listOf s1 t with
    | some l => oldSend 5 (0 :: beBytes 4 t.toNat ++ l.own.flatMap (itemBytes s1)) s1
    | none => s1

/-! ### SA-level items (R239, R322, R323) -/

/-- RX_CHECKPOINT_SEND (R323). DESIGN CHOICE, unsafe (log entry 59). -/
def checkpointSend (i : Nat) (s : State) : State :=
  let e := saOf s i
  let last := s.twin.checks.find? (fun c => c.1 == i)
  let due := match last with
    | some c => c.2.1 != e.ledger && decide (256 ≤ tdiff (now s) c.2.2)
    | none => e.ledger != 0
  if s.dev.mode = .twinEmit && e.st == 1 && e.dir == 1 && due then
    bump (pg .twn) 0x230 1 (oldSend 6 (1 :: beBytes 3 i ++ [by8 e.gen] ++ beBytes 8 e.ledger)
      { s with twin := { s.twin with checks := (i, e.ledger, now s) :: s.twin.checks.filter (fun c => c.1 != i) } })
  else s

/-- SA_ITEM_RX (R322). -/
def saItemRx (bytes : Bytes) (s : State) : State :=
  match oldReceive 6 bytes s with
  | (some p, s1) =>
    if s.dev.mode != .twinEmit then s1
    else (match (byteAt p 0).toNat with
     | 0 => { s1 with twin := { s1.twin with
         peerAcks := s1.twin.peerAcks ++ [(wd (beAt p 10 4), beAt p 1 3, beAt p 4 1, wd (beAt p 5 4), beAt p 9 1)] } }
     | 1 => { s1 with twin := { s1.twin with toApply := s1.twin.toApply ++ [(beAt p 1 3, beAt p 4 1, beAt p 5 8)] } }
     | 2 => if twinId s1 = 0 then emit (.agent 0 (if byteAt p 1 = 0 then .plain else .line) (byteAt p 2).toNat (p.drop 3) none) s1 else s1
     | _ => s1)
  | (none, s1) => s1

/-- One checkpoint is applied as an RX_FLOOR of Hp - W + 1 (R323). -/
def checkpointApply (s : State) (c : Nat × Nat × Nat) : State :=
  let e := saOf s c.1
  if e.st = 1 && e.dir == 1 && e.gen == c.2.1 then bump (pg .twn) 0x238 1 (floorSa c.1 (c.2.2 + 1 - recWin e.record) s).2 else s

/-- Checkpoints received in the last tick. -/
def checkpointBoundary (s : State) : State :=
  s.twin.toApply.foldl checkpointApply { s with twin := { s.twin with toApply := [] } }

/-- The acknowledgements of the last boundary are compared one for one, and those of this boundary are to be sent; a partner that is
ahead may have sent its own of this boundary already (R239). -/
def ackCompare (s : State) : State :=
  let t := s.twin
  let theirs := (t.peerAcks.filter (fun a => a.1 != now s)).map (·.2)
  let s1 := { s with twin := { t with acks := [], peerAcks := t.peerAcks.filter (fun a => a.1 == now s) } }
  if s.dev.mode != .twinEmit || t.acks.isPerm theirs then s1 else disagree 5 0 (now s) s1

/-- Send this boundary's acknowledgements. -/
def ackSend (s : State) : State :=
  s.twin.acks.foldl (fun s a => oldSend 6 (0 :: beBytes 3 a.1 ++ [by8 a.2.1] ++ beBytes 4 a.2.2.1.toNat ++ [by8 a.2.2.2] ++ beBytes 4 (now s).toNat) s) s

/-! ### Digests (R325-R327) -/

/-- An item joins the digest. -/
def digestTake (d : Digest) (x : DigItem) : Digest :=
  let e := d.entries.getD x.entry (0, 0)
  { d with entries := d.entries.set x.entry (e.1 + 1, (e.2 + x.h) % 2 ^ 64), journal := d.journal ++ [x] }

/-- The items of a port up to and including the cut frame, and the rest; `none` takes nothing. -/
def upTo (last : Nat × Nat) : List DigItem → Option (List DigItem × List DigItem)
  | [] => none
  | x :: r => if (x.sa, x.field) = last then some ([x], r) else (upTo last r).map (fun p => (x :: p.1, p.2))

/-- The frames of a port that follow the last cut, up to a cut, join the digest of its tick. -/
def cutTake (c : Cut) (s : State) : Bool × State :=
  match c.last with
  | none => (true, s)
  | some l =>
    let mine := s.twin.items.filter (fun x => x.port == c.port)
    match upTo l mine with
    | none => (false, s)
    | some (a, b) =>
      let rest := s.twin.items.filter (fun x => x.port != c.port)
      (true, { s with twin := { s.twin with digest := a.foldl digestTake s.twin.digest, items := rest ++ b } })

/-- DIGEST_CUT: Twin A takes the cut of a plain port at clock 180,000 and sends it (R325).
DESIGN CHOICE, unsafe (log entry 59). -/
def digestCut (port : Nat) (s0 : State) : State :=
  if s0.dev.mode != .twinEmit || twinId s0 != 0 || decide (180000 < s0.time.clk) || decide (16 ≤ port) then s0
  else
    let s := advanceTo 180000 s0
    let last := (s.twin.items.filter (fun x => x.port == port)).getLast?
    let c : Cut := { tick := now s, port := port, last := last.map (fun x => (x.sa, x.field)), rxAt := (last.map (·.rxAt)).getD 0 }
    let body := match c.last with
      | some l => 1 :: beBytes 3 l.1 ++ beBytes 8 l.2
      | none => zeros 12
    (cutTake c (oldSend 2 (beBytes 4 c.tick.toNat ++ [by8 port] ++ body ++ beBytes 16 c.rxAt) s)).2

/-- The skew of a cut frame: its own ingress time against Twin A's (R325). -/
def skewTake (c : Cut) (s : State) : State :=
  match c.last, s.twin.items.find? (fun x => some (x.sa, x.field) == c.last && x.port == c.port) with
  | some _, some x =>
    let ns := min ((max x.rxAt c.rxAt - min x.rxAt c.rxAt) / nsUnit) 0xFFFF
    eventIf (decide (5000 < ns)) (pg .twn) 6 { s with twin := { s.twin with skewLast := ns, skewMax := max s.twin.skewMax ns } }
  | _, _ => s

/-- CUT_RX: the frames up to the cut join the digest; a cut whose frame has not come yet is held (R325). -/
def cutRx (bytes : Bytes) (s : State) : State :=
  match oldReceive 2 bytes s with
  | (some p, s1) =>
    if s.dev.mode != .twinEmit then s1 else
    let last := if byteAt p 5 = 1 then some (beAt p 6 3, beAt p 9 8) else none
    let c : Cut := { tick := wd (beAt p 0 4), port := (byteAt p 4).toNat, last := last, rxAt := beAt p 17 16 }
    let q := cutTake c (skewTake c s1)
    if q.1 then q.2 else { s1 with twin := { s1.twin with cuts := s1.twin.cuts ++ [c] } }
  | (none, s1) => s1

/-- A cut held until the boundary. -/
def cutLate (s : State) (c : Cut) : State := (cutTake c (skewTake c s)).2

/-- The digest of the tick that has ended closes: bundles launched in it and held cuts join it, and it is sent (R325, R326).
DESIGN CHOICE, unsafe (log entry 57). -/
def digestBytes (s : State) (d : Digest) : Bytes :=
  leBytes 4 (2 ^ 28 + twinId s * 2 ^ 27) ++ leBytes 4 d.tick.toNat ++
    d.entries.flatMap (fun e => leBytes 4 e.1 ++ zeros 4 ++ leBytes 8 e.2) ++
    ((List.range 3).flatMap (fun c => leBytes 4 (d.cont.getD c 0 % 2 ^ 16 * 2 ^ 16 + d.fault.getD c 0 % 2 ^ 16))) ++ zeros 12

/-- The boundary's part. -/
def digestClose (s : State) : State :=
  if s.dev.mode != .twinEmit then { s with twin := { s.twin with digest := Digest.empty (now s), items := [], cuts := [] } }
  else
    let s1 := s.twin.cuts.foldl cutLate { s with twin := { s.twin with cuts := [] } }
    let buns := s1.twin.items.filter (fun x => x.port == 16)
    let d := { buns.foldl digestTake s1.twin.digest with tick := now s - 1 }
    let s2 := { s1 with twin := { s1.twin with digest := Digest.empty (now s), items := s1.twin.items.filter (fun x => x.port != 16),
                                               own := (d :: s1.twin.own).take 64 } }
    oldSend 4 (digestBytes s2 d) s2

/-- A received digest. -/
def digestOf (p : Bytes) : Digest :=
  { tick := wd (leNat (slice p 4 4)),
    entries := (List.range 24).map (fun k => (leNat (slice p (8 + 16 * k) 4), leNat (slice p (16 + 16 * k) 8))),
    cont := (List.range 3).map (fun c => leNat (slice p (394 + 4 * c) 2)),
    fault := (List.range 3).map (fun c => leNat (slice p (392 + 4 * c) 2)), journal := [] }

/-- The threshold of a class (TWN_DIV_THR). -/
def divThr (s : State) (c : Nat) : Nat :=
  let r := getReg s (ra (pg .twn) 0x110)
  if c = 0 then fld r 31 24 else if c = 1 then fld r 23 16 else fld r 15 0

/-- The window of a class: own CONT less the partner's over the 64 ticks held of both (R327). -/
def lossWindow (s : State) (t : Tick) (c : Nat) : Int :=
  let inWin := fun (d : Digest) => decide (tdiff t d.tick < 64)
  let sum := fun (l : List Digest) => (((l.filter inWin).map (fun d => d.cont.getD c 0)).sum : Int)
  sum s.twin.own - sum s.twin.peer

/-- The comparison of the two digests of a tick. -/
def digestCompare (a b : Digest) (s : State) : State :=
  let t := b.tick
  let diff := (List.range 24).find? (fun k => a.entries.getD k (0, 0) != b.entries.getD k (0, 0))
  let out := (List.range 3).filter (fun c => decide (divThr s c < (lossWindow s t c).natAbs))
  let stat := 2 ^ 31 + b2n (diff.isNone && out.isEmpty) * 2 ^ 30 + (out.map (fun c => 2 ^ (c + 1))).sum + b2n diff.isSome
  let comet := ((a.cont.getD 2 0 : Int) - b.cont.getD 2 0).natAbs
  let s1 := bump (pg .twn) 0x210 comet (bump (pg .twn) 0x218 b.fault.sum (bump (pg .twn) 0x200 1 s))
  let s2 := { s1 with twin := { s1.twin with digestStat := wd stat, digestTick := t } }
  let s3 := match diff with
    | some k => disagree 1 (k / 8 * 2 ^ 16 + k % 8 * 2 ^ 8) t s2
    | none => s2
  out.foldl (fun s c => disagree (2 + c) (c * 2 ^ 16) t s) s3

/-- DIGEST_RX (R327). -/
def digestRx (bytes : Bytes) (s : State) : State :=
  match oldReceive 4 bytes s with
  | (some p, s1) =>
    let b := digestOf p
    if s.dev.mode != .twinEmit then s1
    else (match s1.twin.own.find? (fun d => d.tick == b.tick) with
     | some a =>
       if s1.twin.peer.any (fun d => d.tick == b.tick) then s1
       else digestCompare a b { s1 with twin := { s1.twin with peer := (b :: s1.twin.peer).take 64 } }
     | none => s1)
  | (none, s1) => s1

/-! ### The fingerprint (R314) -/

/-- The registers that take effect at a tick boundary (R9, R110, R118, R121, R241-R253, R269, R277, R286,
R292, R338, R342).
DEDUCED, unsafe (log entry 62). -/
def tickReg (k : PageKind) (off : Nat) : Bool :=
  let within := fun (lo hi : Nat) => decide (lo ≤ off) && decide (off < hi)
  match k with
  | .plain | .line => off == 0x108 || within 0x140 0x160
  | .gaz => within 0x100 0x108 || off == 0x11C || within 0x180 0x1C0 || within 0x800 0xC08
  | .lrn => within 0x110 0x120
  | .sch => within 0x100 0x110 || within 0x140 0x1C0 || within 0x200 0x300
  | .trn => off == 0x100 || within 0x400 0xC00
  | .trb => within 0x100 0x1000 && (off - 0x100) % 0xF0 == 0
  | .aps => within 0x400 0x800
  | .tsi => off == 0x104
  | .bun => off == 0x100
  | .mer => within 0x200 0x280
  | _ => false

/-- Whether a register's address names one of them. -/
def tickPage (a : Nat) : Bool :=
  match pageAt (a / 0x1000) with
  | some (k, _) => tickReg k (a % 0x1000)
  | none => false

/-- The standby pages of the TSI and the bundle entries, as bytes. -/
def tsiBytes (s : State) (page : Nat) : Bytes := (s.tsi.pages.getD page []).flatMap (fun p => beBytes 2 p.1 ++ beBytes 4 p.2.toNat)
def bunBytes (s : State) : Bytes :=
  s.buns.flatMap (fun p => if p.2.cfg.all (· == 0) then [] else beBytes 2 p.1 ++ wordsToBytes p.2.cfg)

/-- What steers Meridian as committed, with MER_RATE where the host sets it. -/
def merPrint (s : State) : Bytes :=
  let src := cfgFld s (ra (pg .mer) 0x100) 1 0
  by8 src :: (if src = 2 then beBytes 4 (cfgReg s (ra (pg .mer) 0x108)).toNat else [])

/-- The registers' part of the fingerprint. -/
def regPrint (s : State) : Nat :=
  crc32c 0xFFFFFFFF ((s.cfg.filter (fun p => tickPage p.1)).flatMap (fun p => beBytes 4 p.1 ++ beBytes 4 p.2.toNat) ++ merPrint s)

/-- The fingerprint of the values committed at the boundary. DEDUCED, unsafe (log entry 62). -/
def fingerprint (s : State) : Nat := crcOn (regPrint s) (tsiBytes s (tsiStandby s 0) ++ tsiBytes s (tsiStandby s 1) ++ bunBytes s)

/-! ### Disagreement and self-check (R327-R329) -/

/-- Disagreements found in the last tick are declared at the boundary. -/
def declareOne (s : State) (x : Nat × Word × Tick) : State :=
  let s1 := event (pg .twn) 0 (bump (pg .twn) 0x208 1 s)
  let t := s1.twin
  let t1 := if bit t.disInfo 31 then t else { t with disInfo := x.2.1, disTick := x.2.2 }
  if t.disState = 0 then
    { s1 with twin := { t1 with disState := 1, selfStart := some (now s), selfDone := false, peerSelf := none, selfTick := x.2.2 } }
  else { s1 with twin := t1 }

/-- The boundary's part. -/
def declareBoundary (s : State) : State :=
  let s1 := { s with twin := { s.twin with found := [] } }
  if s.dev.mode = .twinEmit then s.twin.found.foldl declareOne s1 else s1

/-- The digest of the disagreeing tick, computed again from the journal of its frames. -/
def journalOk (s : State) : Bool :=
  match s.twin.own.find? (fun d => d.tick == s.twin.selfTick) with
  | some d => (d.journal.foldl digestTake (Digest.empty d.tick)).entries == d.entries
  | none => true

/-- Whether this twin passes its self-check (R328): the digest, the fingerprint's registers, the ledger, the health and the pages'
faults, and the reads of ledger, directory and tables, of which Config.readError says whether they find an error or a failing check
code. DESIGN CHOICE, safe (log entry 12). -/
def selfOk (s : State) : Bool :=
  !Config.readError (now s).toNat && journalOk s && regPrint s == s.twin.ownRegs && !s.dev.health &&
  !(s.orb.sas.any (fun e => e.2.faultSeq)) &&
  !(s.legends.any (fun e => e.2.fault && !(match pageAt e.1 with | some (.pipe, p) => (s.pipes.getD p Pipe.init).role == 3 | _ => false)))

/-- SELF_CHECK_END: in tick 16 of the self-check its result is sent (R328). -/
def selfCheckEnd (s : State) : State :=
  match s.twin.selfStart with
  | some t =>
    if s.twin.disState = 1 && !s.twin.selfDone && decide (15 ≤ tdiff (now s) t) then
      let ok := selfOk s
      oldSend 7 [1, by8 (b2n ok)] { s with twin := { s.twin with selfPass := ok, selfDone := true } }
    else s
  | none => s

/-- The outcome at the boundary after the results are exchanged (R329). -/
def selfOutcome (s : State) : State :=
  match s.twin.peerSelf with
  | some p =>
    if s.twin.disState = 1 && s.twin.selfDone then
      let mine := s.twin.selfPass
      if mine = p then { s with twin := { s.twin with disState := 2, waitFrom := some (now s), selfStart := none } }
      else
        let s1 := { s with twin := { s.twin with disState := 0, selfStart := none } }
        if !mine then trigger .drain 0x0F 3 none s1 else s1
    else s
  | none => s

/-- ARB_TIMEOUT: the wait for the arbiter has lasted TWN_CTRL.ARB_TIMEOUT ticks; Twin B enters DRAIN (R329). -/
def arbTimeout (s : State) : State :=
  let n := regFld s (ra (pg .twn) 0x100) 15 0
  match s.twin.waitFrom with
  | some t =>
    if s.dev.mode = .twinEmit && s.twin.disState == 2 && n != 0 && decide (n ≤ tdiff (now s) t) then
      let s1 := { s with twin := { s.twin with waitFrom := none, disState := 0 } }
      if twinId s = 1 then trigger .drain 0x10 3 none s1 else s1
    else s
  | none => s

/-- CONTROL_RX: a retire notice (R57) or a self-check result (R328). -/
def controlRx (bytes : Bytes) (s : State) : State :=
  match oldReceive 7 bytes s with
  | (some p, s1) =>
    if s1.dev.mode != .twinEmit then s1
    else if byteAt p 0 = 0 then trigger .twinHold 0x0E 4 none s1
    else if byteAt p 0 = 1 then { s1 with twin := { s1.twin with peerSelf := some (byteAt p 1 != 0) } }
    else s1
  | (none, s1) => s1

/-- A twin that leaves for DRAIN sends its retire notice (R57). -/
def retireNotice (s : State) : State := oldSend 7 [0] s

/-! ### Cross-checks (R331) -/

/-- The ciphertext and tag of a cross-check under a ROM test key. -/
def crossAnswer (key : Nat) (iv data : Bytes) : Bytes :=
  let r := gcmSeal ((List.range 16).map (Config.romKey key)) iv [] data
  r.1 ++ r.2

/-- A failed cross-check: two in a row are a disagreement. -/
def crossFail (s : State) : State :=
  let n := s.twin.crossFails + 1
  let s1 := event (pg .twn) 7 (bump (pg .twn) 0x250 1 { s with twin := { s.twin with cross := none, crossFails := n % 2 } })
  if n = 2 then disagree 8 0 (now s) s1 else s1

/-- CROSS_CHECK_SEND: every 8 ticks; an earlier one that has no answer, while heartbeats arrive, has failed.
DESIGN CHOICE, unsafe (log entry 59). DEDUCED, unsafe (log entry 78). -/
def crossSend (key : Nat) (s : State) : State :=
  if s.dev.mode != .twinEmit || (now s).toNat % 8 != 0 then s
  else
    let sent := match s.twin.cross with
      | some c => c.tick == now s
      | none => false
    if sent then s
    else
      let s1 := if s.twin.cross.isSome && s.twin.missed == 0 then crossFail s else { s with twin := { s.twin with cross := none } }
      if (occulting s1 0).isNone || s1.rng.st == 2 then bump (pg .twn) 0x258 1 s1
      else
        let iv := draw 12 s1
        let d := draw 64 iv.2
        oldSend 8 (0 :: beBytes 4 (now s).toNat ++ [by8 key] ++ iv.1 ++ d.1)
          { d.2 with twin := { d.2.twin with cross := some { tick := now s, want := crossAnswer (key % 16) iv.1 d.1 } } }

/-- CROSS_CHECK_RX: a cross-check is answered, or an answer compared. -/
def crossRx (bytes : Bytes) (s : State) : State :=
  match oldReceive 8 bytes s with
  | (some p, s1) =>
    let t := beBytes 4 (beAt p 1 4)
    if s.dev.mode != .twinEmit then s1
    else if byteAt p 0 = 0 then
      if (occulting s1 0).isNone then oldSend 8 (2 :: t) s1
      else oldSend 8 (1 :: t ++ crossAnswer ((byteAt p 5).toNat % 16) (slice p 6 12) (slice p 18 64)) s1
    else match s1.twin.cross with
      | some c =>
        if c.tick.toNat != beAt p 1 4 then s1
        else if byteAt p 0 = 2 then bump (pg .twn) 0x258 1 { s1 with twin := { s1.twin with cross := none } }
        else if slice p 5 80 = c.want then { s1 with twin := { s1.twin with cross := none, crossFails := 0 } }
        else crossFail s1
      | none => s1
  | (none, s1) => s1

/-! ### Realignment (R226, R334) -/

/-- Whether the partner stands READY to be aligned with (R333, R334). -/
def peerReady (s : State) : Bool := s.twin.present && s.twin.peerPhase == 3

/-- TWIN_SWITCHBACK taken in TWIN_HOLD (R334). -/
def switchback (ord : Nat) (s : State) : State :=
  if !peerReady s || s.twin.alignReq || s.twin.alignFixed then endOrder ord .busy 0 s
  else { s with twin := { s.twin with alignReq := true, alignOrd := some ord } }

/-- What the boundary F does to events that wait: learning and ageing are suspended, and they are lost (R334). -/
def learnSuspend (s : State) : State := s.lrn.pend.foldl (fun s _ => eventLost s) { s with lrn := { s.lrn with pend := [] } }

/-- The boundary F: T and the e_c are fixed, while the partner is still READY. -/
def alignFix (s0 : State) : State :=
  if !s0.twin.alignReq then s0
  else if !peerReady s0 then alignCancel .busy s0
  else
    let s := learnSuspend s0
    let es := (List.range 16).map (fun c => min almMax (max (almOf s c).epoch (almOf s c).peer + 1))
    event (pg .twn) 4 { s with twin := { s.twin with alignReq := false, alignFixed := true, epochs := es,
                                                     alignTick := now s + wd (regFld s (ra (pg .twn) 0x10C) 15 0) } }

/-- PAIRED_ORDER_HOLD: from T - 130 no paired order is taken (R334). -/
def pairedHold (s : State) : State :=
  if s.twin.alignFixed && isDue (now s) (s.twin.alignTick - 130) then { s with twin := { s.twin with held := true } } else s

/-- What a realignment leaves of a counter's state: no stale mark, and only a request that e_c does not meet; a counter at the last
epoch is spent (R213, R226). -/
def alignCtr (s : State) (c : Nat) : State :=
  let met := fun (a : AlmCtr) => !a.renew && decide (a.req.getD 0 ≤ a.epoch)
  let s1 := modAlm c (fun a => { a with stale := false, req := if met a then none else a.req }) s
  if (almOf s1 c).epoch = almMax then almSpend c s1 else s1

/-- Whether the aligned epochs meet an Almanac order: each of its counters stands at its target or is spent, and none waits for a
renewal. -/
def alignMeets (s : State) (o : AlmOrd) : Bool :=
  o.ctrs.all (fun c => let a := almOf s c; !a.renew && (a.spent || decide (o.target ≤ a.epoch)))

/-- Every Almanac counter takes its aligned epoch, written in tick T - 1 or, where no ALMANAC_WRITE ran there, now; the Almanac
orders that it meets end, and the others stand. DEDUCED, unsafe (log entry 61). -/
def alignAll (s : State) : State :=
  let s1 := (List.range 16).foldl alignCtr (almEffect ((List.range 16).foldl (alignWriteOne []) s))
  almEndOrders { s1 with alm := { s1.alm with ords := s1.alm.ords.map (fun o => { o with written := o.written || alignMeets s1 o }) } }

/-- REALIGNMENT at tick T: counters take e_c, stale marks clear, and TWIN_EMIT follows at T+1 (R226, R334). Only a joiner and a twin
that holds for it realign; one whose joiner is no longer READY gives up.
DESIGN CHOICE, unsafe (log entry 59). -/
def realignment (s : State) : State :=
  if !s.twin.alignFixed || now s != s.twin.alignTick || !modeIn [.twinJoin, .twinHold] s then s
  else if s.dev.mode = .twinHold && !peerReady s then alignCancel .busy s
  else
    let was := (List.range 16).map (fun c => availEpoch s c)
    let s2 := alignAll s
    let exh := (List.range 16).map (fun c => max (almOf s c).epoch (almOf s c).peer == almMax || (almOf s2 c).epoch != s.twin.epochs.getD c 0)
    trigger .twinEmit (if s.dev.mode = .twinJoin then 0x0C else 0x11) 5 none
      { s2 with twin := { s2.twin with alignFixed := false, held := false, resetLedgers := true, availWas := was, alignExh := exh } }

/-- A transmit entry at T+1: its ledger is e_c at count 0, or exhausted on a counter that could not advance (R226).
DEDUCED, unsafe (log entry 61). -/
def alignLedger (s : State) (e : SaEntry) : SaEntry :=
  if e.st != 0 && e.dir == 0 && !e.diag then
    let a := almOf s (recAlm e.record)
    { e with ledger := (if s.twin.alignExh.getD (recAlm e.record) false then 2 ^ 63 else 0) + a.epoch * 2 ^ 40, exhNoted := false }
  else e

/-- The boundary of T+1: every transmit ledger restarts (R226); in TWIN_EMIT the twins are ALIGNED, and TWIN_SWITCHBACK completes. A
twin that has not come to emit with its partner ends the order with BUSY. DEDUCED, unsafe (log entry 61). -/
def alignFinish (s : State) : State :=
  if !s.twin.resetLedgers then s
  else
    let sas := s.orb.sas.map (fun p => (p.1, alignLedger s p.2))
    let s1 := { s with orb := { s.orb with sas := sas },
                       twin := { s.twin with resetLedgers := false, availWas := [], alignExh := [], alignOrd := none } }
    if s.dev.mode = .twinEmit then
      endOpt s.twin.alignOrd .ok 0 (event (pg .twn) 5
        { s1 with twin := { s1.twin with joinPhase := 0, disInfo := 0, snapSent := false, bulk := [], own := [], peer := [] } })
    else endOpt s.twin.alignOrd .busy 0 s1

end Sys2Proof.Machine
end

