-- ==== Sys2Proof/Machine/Mka.lean ====
section
/-! DEFINITION. The MKA agent's key changes (R238, R312): the steps it takes for a new SAK, as items of the agent part of the chore
queue and of the Eclipse table. -/

namespace Sys2Proof.Machine

/-- Whether a CAK is loaded for a line port: the agent runs only those channels. -/
def cakFor (s : State) (line : Nat) : Bool := s.keys.caks.any (fun c => c.2.2 == line)

/-- The key change of a new transmit SA. -/
def mkaOf (s : State) (new : Nat) : Option MkaChange := s.ecl.mka.find? (fun c => c.new == new)

/-- Change it. -/
def modMka (new : Nat) (f : MkaChange → MkaChange) (s : State) : State :=
  { s with ecl := { s.ecl with mka := s.ecl.mka.map (fun c => if c.new = new then f c else c) } }

/-- The image of a successor: the old record under the next AN; `alm` binds a transmit SA. -/
def nextImage (old : List Word) (alm : Option Nat) : List Word :=
  let w1 := setFld (recW old 1) 15 14 ((recAn old + 1) % 4)
  (rec64 old).set 1 (match alm with | some c => setFld w1 31 28 c | none => w1)

/-- Place several agent items, all or none. -/
def agentItems (bs : List ChoreBody) (s : State) : Bool × State :=
  bs.foldl (fun a b => if a.1 then agentItem b a.2 else a) (true, s)

/-- Schedule an Eclipse item of the agent: directly, or through its tick list (R312). -/
def agentEclipse (kind sa new : Nat) (target : Tick) (floor : Nat) (s : State) : State :=
  if modeIn [.twinEmit, .twinHold] s then listAdd (.ecl none kind sa new target floor) s
  else eclRequest none true kind sa new target floor s

/-- The earliest target R27 allows. -/
def earliest (s : State) : Tick := now s + (if modeIn [.twinEmit, .twinHold] s then 4 else 2)

/-- The Gazetteer entries that name an SA. -/
def entriesOf (s : State) (sa : Nat) : List GazEntry :=
  s.gaz.work.filterMap (fun p => match p.2 with | some e => if e.kind == 8 && e.sa == sa then some e else none | none => none)

/-- The edit that adds a copy of an entry under another AN and SA, and the one that deletes an entry. -/
def copyEdit (an sa : Nat) (e : GazEntry) : GazEditArgs :=
  { op := 0, kind := 8, port := 0, age := false, action := 3, cls := e.cls, sa := sa, key := an * 2 ^ 64 + e.key % 2 ^ 64 }
def dropEdit (e : GazEntry) : GazEditArgs :=
  { op := 2, kind := e.kind, port := e.port, age := false, action := e.action, cls := e.cls, sa := e.sa, key := e.key }

/-- The MKA life time in ticks: 6 s, the value of IEEE 802.1X-2020. PRESUMED, unsafe (log entry 98). -/
def mkaLife : Nat := 48000

/-- Whether a failed key change of an old transmit SA still waits for its retry (R238). -/
def mkaWaits (s : State) (old : Nat) : Bool := s.ecl.mkaHold.any (fun h => h.1 == old && decide (tdiff (now s) h.2 < mkaLife))

/-- Step 1: the new transmit SA is installed. -/
def mkaInstall (old new : Nat) (sak : Bytes) (s : State) : State :=
  let e := workSa s old
  let ok := e.st == 1 && e.dir == 0 && isMacsec (recSuite e.record) && cakFor s (recLine e.record) && sak.length == keyLen (recSuite e.record) &&
    (mkaOf s new).isNone && !mkaWaits s old
  if !ok then s
  else
    let alm := regFld s (ra (pg .ecl) 0x10C) 3 0
    let q := agentItem (.installImg new (nextImage e.record (some alm)) (some sak) false) s
    let c : MkaChange := { old := old, new := new, sak := sak, peers := [], announced := false, switchAt := none, retired := false }
    if q.1 then
      { q.2 with ecl := { q.2.ecl with mka := q.2.ecl.mka ++ [c], mkaHold := q.2.ecl.mkaHold.filter (fun h => h.1 != old) } }
    else s

/-- What the agent announces of a new transmit SA: its AN, its first field and, of an XPN suite, the SSCIs and the salt.
PRESUMED, unsafe (log entry 98). -/
def announced (e : SaEntry) : Bytes :=
  by8 (recAn e.record) :: beBytes 8 e.ledger ++ (if isLegacy (recSuite e.record) then [] else recBytes e.record 0x20 20)

/-- Step 2: the first field is read from the ledger and given to the agent, which announces it with the XPN parameters. -/
def mkaAnnounce (new : Nat) (s : State) : State :=
  let e := saOf s new
  match mkaOf s new with
  | some c =>
    if c.announced || e.st != 1 then s
    else emit (.agent 0 .line (recLine e.record) (announced e) none) (modMka new (fun c => { c with announced := true }) s)
  | none => s

/-- Step 3: a peer's receive SA under the new AN, with its Gazetteer entries. -/
def mkaPeer (new oldRx newRx : Nat) (s : State) : State :=
  let e := workSa s oldRx
  match mkaOf s new with
  | some c =>
    if e.st != 1 || e.dir != 1 || c.peers.any (fun p => p.new == newRx) then s
    else
      let an := (recAn e.record + 1) % 4
      let items := .installImg newRx (nextImage e.record none) (some c.sak) false :: (entriesOf s oldRx).map (fun g => .gaz (copyEdit an newRx g))
      let q := agentItems items s
      if q.1 then
        modMka new (fun c => { c with peers := c.peers ++ [{ old := oldRx, new := newRx, floorDone := false, firstAt := none, closing := false, cleaned := false }] }) q.2
      else s
  | none => s

/-- The key change and peer of a new receive SA. -/
def mkaPeerOf (s : State) (newRx : Nat) : Option (MkaChange × MkaPeer) :=
  s.ecl.mka.findSome? (fun c => (c.peers.find? (fun p => p.new == newRx)).map (fun p => (c, p)))

/-- Change a peer. -/
def modPeer (newRx : Nat) (f : MkaPeer → MkaPeer) (s : State) : State :=
  { s with ecl := { s.ecl with mka := s.ecl.mka.map (fun c => { c with peers := c.peers.map (fun p => if p.new = newRx then f p else p) }) } }

/-- Step 3: the peer's announced number becomes the floor, at the earliest tick. -/
def mkaFloor (newRx floor : Nat) (s : State) : State :=
  match mkaPeerOf s newRx with
  | some (_, p) =>
    if p.floorDone || (workSa s newRx).st != 1 then s
    else agentEclipse 1 newRx 0 (earliest s) floor (modPeer newRx (fun p => { p with floorDone := true }) s)
  | none => s

/-- Step 4: every live peer receives under the new key: the switch is scheduled LEAD ticks on. -/
def mkaReported (new : Nat) (s : State) : State :=
  match mkaOf s new with
  | some c =>
    if !c.announced || c.switchAt.isSome || c.peers.any (fun p => !p.floorDone) then s
    else
      let t := now s + wd (regFld s (ra (pg .ecl) 0x108) 15 0)
      agentEclipse 0 c.old new t 0 (modMka new (fun c => { c with switchAt := some t }) s)
  | none => s

/-- OVERLAP ticks have passed since a tick. -/
def overlapPast (s : State) (t : Tick) : Bool := decide (regFld s (ra (pg .ecl) 0x108) 31 16 ≤ tdiff (now s) t) && isDue (now s) t

/-- Step 5: the old receive SA is closed OVERLAP ticks after the first frame under the new one. -/
def mkaClose (newRx : Nat) (s : State) : State :=
  match mkaPeerOf s newRx with
  | some (_, p) =>
    (match p.firstAt with
     | some t =>
       if p.closing || !overlapPast s t then s
       else agentEclipse 2 p.old 0 (earliest s) 0 (modPeer newRx (fun p => { p with closing := true }) s)
     | none => s)
  | none => s

/-- A change that has written RETIRE_READY is over once every peer's old SA is gone. -/
def mkaOver (s : State) : State :=
  { s with ecl := { s.ecl with mka := s.ecl.mka.filter (fun c => !c.retired || c.peers.any (fun p => !p.cleaned)) } }

/-- Step 5: once it is closed, its entries are deleted and it is erased. -/
def mkaCleanup (newRx : Nat) (s : State) : State :=
  match mkaPeerOf s newRx with
  | some (_, p) =>
    if p.cleaned || !p.closing || !(saOf s p.old).closed || (workSa s p.old).st == 0 then s
    else
      let q := agentItems ((entriesOf s p.old).map (fun g => .gaz (dropEdit g)) ++ [.erase p.old]) s
      if q.1 then mkaOver (modPeer newRx (fun p => { p with cleaned := true }) q.2) else s
  | none => s

/-- Step 6: OVERLAP after the switch took effect, RETIRE_READY is written for the old transmit SA. -/
def mkaRetire (new : Nat) (s : State) : State :=
  match mkaOf s new with
  | some c =>
    (match c.switchAt with
     | some t =>
       if !c.retired && overlapPast s t && eclSuccessor s c.old == some new then
         eclNote 2 0 c.old (mkaOver (modMka new (fun c => { c with retired := true }) s))
       else s
     | none => s)
  | none => s

/-- A step's order failed: the old SAs stay in use and ABORTED is written. -/
def mkaFail (new : Nat) (s : State) : State :=
  match mkaOf s new with
  | some c => agentFailed 0 c.old s
  | none => s

/-- MKA_NEW_SAK. -/
def mkaStep (st : MkaStep) (s : State) : State :=
  if !mkaActs s then s
  else match st with
    | .install old new sak => mkaInstall old new sak s
    | .announce new => mkaAnnounce new s
    | .peer new oldRx newRx => mkaPeer new oldRx newRx s
    | .floor newRx floor => mkaFloor newRx floor s
    | .reported new => mkaReported new s
    | .close newRx => mkaClose newRx s
    | .cleanup newRx => mkaCleanup newRx s
    | .retire new => mkaRetire new s
    | .fail new => mkaFail new s

end Sys2Proof.Machine
end

