-- ==== Sys2Proof/Machine/Copy.lean ====
section
/-! DEFINITION. The twin state copy (R314, R324, R333): the register fingerprint, the tick-level state a twin captures at each
boundary, the snapshot and items a joiner receives, and the joiner's progress. -/

namespace Sys2Proof.Machine

/-! ### Parts of the tick-level state -/

/-- Bits in the period of a framer's alignment. -/
def tribPeriod (s : State) (t : Nat) : Nat := if trbType s t = 2 then 772 else 512

/-- An enabled framer: its number; whether it is aligned, feeds its slip buffer and has counted AMBIGUOUS, and the frames it holds;
the number of its next frame; POS; the start of that frame from the first bit that follows; and, for a framer in hunt, how many
bits the hunt has taken, which fix the run of every candidate. DESIGN CHOICE, unsafe (log entry 57). -/
def tribBytes (s : State) (t : Nat) : Bytes :=
  let x := tribOf s t
  let p := tribPeriod s t
  let next := x.abs + x.buf.length
  let rel := (x.pos + p - next % p) % p
  let no := (x.rxNo + cdiv (next - x.abs) (frameBits s t)) % 96
  [by8 t, by8 (b2n x.aligned + 2 * b2n x.fed + 4 * b2n x.amb + 8 * x.slip.length), by8 no] ++ beBytes 2 x.pos ++ beBytes 2 rel ++
    beBytes 4 (if x.aligned then 0 else x.buf.length)

/-- A receive bundle's sync state and REPEATS. -/
def bunSyncBytes (p : Nat × Bun) : Bytes := beBytes 2 p.1 ++ [by8 (b2n p.2.synced), by8 p.2.repeats]

/-- A key change of the acting MKA agent, its SAK under the pair key. -/
def mkaBytes (s : State) (c : MkaChange) : Bytes :=
  let w := kwWrap (s.keys.pairKey.getD (zeros 32)) c.sak
  let sw := c.switchAt.getD 0
  beBytes 3 c.old ++ beBytes 3 c.new ++ [by8 c.sak.length] ++ w ++ zeros (40 - w.length) ++
    [by8 (b2n c.announced + 2 * b2n c.retired), by8 (b2n c.switchAt.isSome)] ++
    beBytes 4 sw.toNat ++ [by8 c.peers.length] ++
    c.peers.flatMap (fun p => beBytes 3 p.old ++ beBytes 3 p.new ++ [by8 (b2n p.floorDone), by8 (b2n p.firstAt.isSome)] ++
      beBytes 4 (p.firstAt.getD 0).toNat ++ [by8 (b2n p.closing + 2 * b2n p.cleaned)])

/-- A list with its length. -/
def counted (n : Nat) (l : List Bytes) : Bytes := beBytes n l.length ++ l.flatten

/-- The tick-level state as it stands when a tick has ended (R17, R324): committed epochs are those written and verified.
DESIGN CHOICE, unsafe (log entry 57). -/
def stateBytes (s : State) : Bytes :=
  let t := s.twin
  0 :: beBytes 4 (now s).toNat ++
    (List.range 16).flatMap (fun c => let a := almOf s c; beBytes 4 ((almStored a).2 + b2n a.stale * 2 ^ 31) ++ beBytes 2 (almStored a).1) ++
    beBytes 4 t.ownFp ++ beBytes 4 t.lastChores.1 ++ beBytes 4 t.lastChores.2 ++
    [by8 (b2n t.alignFixed)] ++ beBytes 4 t.alignTick.toNat ++ t.epochs.flatMap (beBytes 4) ++
    (List.range 128).flatMap (fun n => beBytes 2 (apsRequests s n) ++ [by8 (b2n (apsOf s n).sel)]) ++
    counted 2 (((List.range 256).filter (trbOn s)).map (tribBytes s)) ++
    counted 2 ((s.buns.filter (fun p => p.2.active && bcDir p.2.cfg == 1)).map bunSyncBytes) ++
    counted 1 (if mkaActs s then s.ecl.mka.map (mkaBytes s) else []) ++
    [by8 t.disState, by8 (b2n t.selfDone), by8 (b2n t.selfPass), by8 t.joinPhase, by8 (b2n t.bulkDone)] ++
    beBytes 4 ((t.selfStart.map (fun x => tdiff (now s) x)).getD 0)

/-! ### The snapshot (R333) -/

/-- An SA as the snapshot carries it: its index, state and image in the form of R169. -/
def snapSa (s : State) (i : Nat) : Bytes :=
  let e := workSa s i
  let w := kwWrap (s.keys.pairKey.getD (zeros 32)) (recKey e.record)
  let img := (wordsToBytes ((recView s i).take 60)).take 0x40 ++ w ++ zeros (0x30 - w.length) ++ ((wordsToBytes (rec64 e.record)).drop 0x70).take 0x80
  beBytes 3 i ++ [by8 e.st, by8 (b2n e.pinned), by8 (b2n e.closed), by8 (b2n e.faultSeq)] ++ img ++ leBytes 8 e.ledger ++ leBytes 8 devId

/-- A Gazetteer entry in the join form. -/
def snapGaz (n : Nat) (e : GazEntry) : Bytes :=
  leBytes 16 e.key ++ leBytes 4 (b2n e.age * 512 + 256 + e.kind * 16 + e.port) ++ leBytes 4 (e.action * 2 ^ 24 + e.cls * 2 ^ 21 + e.sa) ++
    leBytes 4 (b2n e.dyn * 4 + b2n e.hit * 2 + b2n e.stale) ++ leBytes 4 n
def snapGazOf (b : Bytes) : Nat × GazEntry :=
  let w4 := wd (leNat (slice b 16 4))
  let w5 := wd (leNat (slice b 20 4))
  let w6 := wd (leNat (slice b 24 4))
  (leNat (slice b 28 4) % 2 ^ 21,
   { kind := fld w4 7 4, port := fld w4 3 0, key := leNat (slice b 0 16), dyn := bit w6 2, age := bit w4 9, hit := bit w6 1, stale := bit w6 0,
     action := fld w5 25 24, cls := fld w5 22 21, sa := fld w5 20 0 })

/-- A Contour entry. -/
def snapCon (e : ConEntry) : Bytes := beBytes 20 e.value ++ beBytes 20 e.mask ++ [by8 e.prio, by8 e.action, by8 e.cls] ++ beBytes 3 e.sa
def snapConOf (b : Bytes) : ConEntry :=
  { value := beAt b 0 20, mask := beAt b 20 20, prio := beAt b 40 1, action := beAt b 41 1, cls := beAt b 42 1, sa := beAt b 43 3 }

/-- An Eclipse entry. -/
def snapEcl (e : EclEntry) : Bytes :=
  [by8 e.kind, by8 (b2n e.active), by8 (b2n e.doomed + 2 * b2n e.gone)] ++ beBytes 3 e.sa ++ beBytes 3 e.new ++ beBytes 4 e.target.toNat ++ beBytes 8 e.floor
def snapEclOf (b : Bytes) : EclEntry :=
  { kind := beAt b 0 1, active := byteAt b 1 != 0, doomed := (beAt b 2 1).testBit 0, gone := (beAt b 2 1).testBit 1, sa := beAt b 3 3, new := beAt b 6 3, target := wd (beAt b 9 4),
    floor := beAt b 13 8, ord := none, agent := false }

/-- The messages of a snapshot, in order: seeds, SAs, Gazetteer, Contour, Eclipse, TSI pages, end. -/
def snapMessages (s : State) : List Bytes :=
  [0x10 :: beBytes 4 (getReg s (ra (pg .gaz) 0x100)).toNat ++ beBytes 4 (getReg s (ra (pg .gaz) 0x104)).toNat] ++
    (installedSas s).map (fun i => 0x11 :: snapSa s i) ++
    s.gaz.work.filterMap (fun p => p.2.map (fun e => 0x12 :: snapGaz p.1 e)) ++
    s.con.work.map (fun e => 0x13 :: snapCon e) ++ s.ecl.entries.map (fun e => 0x14 :: snapEcl e) ++
    (List.range 4).map (fun p => [0x15, by8 p] ++ tsiBytes s p) ++
    [[0x16, by8 (s.tsi.active.getD 0 0), by8 (s.tsi.active.getD 1 0)]]

/-- Whether committed items go to a joiner. -/
def mirrors (s : State) : Bool := modeIn [.twinEmit, .twinHold] s && s.twin.snapSent

/-- Send a committed item to the joiner, behind what still waits of the snapshot (R333). -/
def copyItem (it : ListItem) (s : State) : State :=
  if !mirrors s then s
  else
    let m := 2 :: itemBytes s it
    if s.twin.bulk.isEmpty then oldSend 9 m s else { s with twin := { s.twin with bulk := s.twin.bulk ++ [m] } }

/-- The budget of the state copy in a tick (R18). -/
def copyBudget : Nat := 2 ^ 20

/-- Waiting messages leave in order while the tick's budget holds them; the others stay. -/
def bulkSend : Nat → List Bytes → State → State
  | _, [], s => { s with twin := { s.twin with bulk := [] } }
  | left, m :: r, s =>
    if m.length ≤ left then bulkSend (left - m.length) r (oldSend 9 m s) else { s with twin := { s.twin with bulk := m :: r } }

/-- The fingerprint of the values in force as the tick ended. -/
def fingerTake (s : State) : State := { s with twin := { s.twin with ownFp := fingerprint s, ownRegs := regPrint s } }

/-- Action 6 of R17: the captured state goes to the partner, and with it the snapshot, which starts once the partner stands in
COPY, as far as the budget allows (R18, R333). -/
def copyCapture (cap : Bytes) (s : State) : State :=
  if !twinMode s then s
  else
    let s1 := if s.twin.present then oldSend 9 cap s else s
    if !modeIn [.twinEmit, .twinHold] s1 then s1
    else if s1.twin.peerPhase < 2 then { s1 with twin := { s1.twin with snapSent := false, bulk := [] } }
    else
      let start := s1.twin.peerPhase == 2 && !s1.twin.snapSent && s1.keys.pairKey.isSome
      bulkSend (copyBudget - cap.length) (if start then snapMessages s1 else s1.twin.bulk)
        { s1 with twin := { s1.twin with snapSent := s1.twin.snapSent || start } }

/-- The items entering at this boundary that are no chore items, for a joiner. -/
def copyEntering (s : State) : State :=
  (dueItems s).foldl (fun s x => match x.2 with | .chore _ _ _ => s | .learn _ => s | y => copyItem y s) s

/-- The learning events of a boundary commit, and go to a joiner as they do (R23, R333). -/
def learnCopy (s : State) : State :=
  let done := fun (t : State) (e : LearnEvent) => isDue (now s) e.due && !t.lrn.pend.contains e
  let t := learnCommit s
  let evs := s.lrn.pend.filter (done t)
  (evs.filter (·.aged) ++ evs.filter (fun e => !e.aged)).foldl (fun u e => copyItem (.learn e) u) t

/-- SWEEPER_VISIT, and the copy of a removal by ageing to a joiner (R333). -/
def sweeperVisitCmd (slot : Nat) (bad hit : Bool) (s : State) : State :=
  let t := sweeperVisit slot bad hit s
  match slotGet s.gaz.work slot with
  | some e =>
    if bad || (slotGet t.gaz.work slot).isSome then t
    else copyItem (.learn { aged := true, port := e.port, key := e.key, kind := e.kind, sa := e.sa, tick := now s, due := now s, twin := twinId s }) t
  | none => t

/-- CHORE_ITEM_COMMIT, and its copy to a joiner. -/
def choreCommitCmd (clk : Nat) (s : State) : State :=
  let s1 := choreCommit clk s
  match s.grt.queue with
  | c :: r => if s1.grt.queue.length = r.length then copyItem (.chore (decide (2 ≤ c.part)) none c.body) s1 else s1
  | [] => s1

/-! ### Receiving -/

/-- A committed item at the joiner: it takes effect in the working image, in the order of the messages; a pin takes a slot, and an
Eclipse item that the partner has accepted is taken as it is (R333). -/
def joinItem (it : ListItem) (s : State) : State :=
  match it with
  | .chore _ _ (.pin i) =>
    (match takeSlot s with
     | (some n, s1) => pendSa i (.pin n) s1
     | (none, s1) => s1)
  | .chore _ _ b =>
    (match choreBody b s with
     | .take _ s1 => choreCount b s1
     | .stop s1 => s1
     | .fill s1 => s1)
  | .learn e => (learnOne e s).2
  | .ecl _ k sa new t f => bump (pg .twn) 0x220 1 (eclAccept none false k sa new t f s)
  | x => enterItem s (false, x)

/-- An SA of the snapshot. -/
def joinSa (b : Bytes) (s : State) : State :=
  let i := beAt b 0 3
  let img := bytesToWords 64 (slice b 7 256)
  match unwrapUnder s.keys.pairKey (recBytes img 0x40 (wrapLen (recSuite img))) with
  | none => s
  | some k =>
    let rx := recDir img == 1
    let pinned := byteAt b 4 != 0
    let r := putKey (((rec64 img).set 3 0).set 62 0 |>.set 63 0) k
    let e : SaEntry := { SaEntry.free with
      st := (byteAt b 3).toNat, dir := recDir img, gen := recGen img, faultSeq := byteAt b 6 != 0, record := r,
      ext := if rx then extOnes (recWin img) else 0, extSlot := if rx && decide (256 < recWin img) then extFree s else none,
      ledger := recNat img 60 2, closed := byteAt b 5 != 0 }
    let s1 := setSa i e s
    if pinned then
      (match takeSlot s1 with
       | (some n, s2) => modSa i (fun e => { e with pinned := true, resident := true, slot := n, ref := true }) s2
       | (none, s2) => writeHome i s2)
    else writeHome i s1

/-- One message of the snapshot. -/
def joinSnap (kind : Nat) (b : Bytes) (s : State) : State :=
  match kind with
  | 0x10 => setReg (setReg s (ra (pg .gaz) 0x100) (wd (beAt b 0 4))) (ra (pg .gaz) 0x104) (wd (beAt b 4 4))
  | 0x11 => joinSa b s
  | 0x12 => let e := snapGazOf b; { s with gaz := { s.gaz with work := slotSet s.gaz.work e.1 (some e.2) } }
  | 0x13 => { s with con := { s.con with work := s.con.work ++ [snapConOf b] } }
  | 0x14 => { s with ecl := { s.ecl with entries := s.ecl.entries ++ [snapEclOf b] } }
  | 0x15 =>
    let n := (byteAt b 0).toNat
    let m := (List.range ((b.length - 1) / 6)).foldl (fun m k => spSet 0 m (beAt b (1 + 6 * k) 2) (wd (beAt b (3 + 6 * k) 4))) ([] : Sparse Word)
    { s with tsi := { s.tsi with pages := s.tsi.pages.set n m } }
  | 0x16 =>
    { s with tsi := { s.tsi with active := [(byteAt b 0).toNat % 2, (byteAt b 1).toNat % 2] }, twin := { s.twin with bulkDone := true } }
  | _ => s

/-- The last `n` whole frames before a place in a framer's buffer. -/
def framesBefore (s : State) (t cut n : Nat) : List Bytes :=
  let len := frameBits s t
  let l := (tribOf s t).buf
  (List.range n).filterMap (fun i =>
    let back := len * (n - i)
    if cut < back then none
    else
      let f := (l.drop (cut - back)).take len
      some (if trbType s t = 2 then bitsBytes 24 (f.drop 1) else bitsBytes 32 f))

/-- A joiner adopts the framer of its partner: an aligned one with its position, its place in the multiframe and its slip fill, of
which this boundary has taken a frame; the hunt of one that is not, where the joiner's own hunt began earlier (R324, R333).
DESIGN CHOICE, unsafe (log entry 57). -/
def joinTrib (b : Bytes) (s : State) : State :=
  let t := (byteAt b 0).toNat
  let x := tribOf s t
  let p := tribPeriod s t
  let len := frameBits s t
  let flags := (byteAt b 1).toNat
  let rel := beAt b 5 2
  let o := x.absAt - x.abs + rel % len
  if !trbOn s t || x.aligned || hwyMask (hwyOf s (t / 32)) != 0 || x.buf.length < o then s
  else if flags % 2 = 0 then
    let keep := beAt b 7 4 + (x.buf.length - (x.absAt - x.abs))
    let cut := x.buf.length - keep
    setTrib t { x with buf := x.buf.drop cut, abs := x.abs + cut, amb := (flags / 4 % 2 == 1) || x.amb } s
  else
    let k := (x.buf.length - o) / len
    let n := min 2 (flags / 8 - 1 + b2n (rel != 0) + k)
    let held := framesBefore s t (o + k * len) n
    modTrib t (fun y => { y with slip := held, fed := flags / 2 % 2 == 1 })
      (declareAligned t ((x.absAt + rel) % p) o ((byteAt b 2).toNat % (if trbType s t = 2 then 24 else 16)) s)

/-- A joiner adopts a bundle's sync state. -/
def joinBun (b : Bytes) (s : State) : State :=
  let n := beAt b 0 2
  if (bunOf s n).active then modBun n (fun x => { x with synced := byteAt b 2 != 0, repeats := (byteAt b 3).toNat }) s else s

/-- Records of a fixed length behind a count of 2 bytes. -/
def recordsAt (b : Bytes) (o len : Nat) : List Bytes := (List.range (beAt b o 2)).map (fun k => slice b (o + 2 + len * k) len)

/-- A peer and a key change of the partner's MKA agent. -/
def mkaPeerAt (b : Bytes) : MkaPeer :=
  { old := beAt b 0 3, new := beAt b 3 3, floorDone := byteAt b 6 != 0, firstAt := if byteAt b 7 = 0 then none else some (wd (beAt b 8 4)),
    closing := (byteAt b 12).getLsbD 0, cleaned := (byteAt b 12).getLsbD 1 }
def mkaOfBytes (s : State) : Nat → Bytes → List MkaChange
  | 0, _ => []
  | n + 1, b =>
    let len := (byteAt b 6).toNat
    let np := (byteAt b 53).toNat
    let c : MkaChange := {
      old := beAt b 0 3, new := beAt b 3 3, sak := (unwrapUnder s.keys.pairKey (slice b 7 (len + 8))).getD [], announced := (byteAt b 47).getLsbD 0,
      switchAt := if byteAt b 48 = 0 then none else some (wd (beAt b 49 4)), retired := (byteAt b 47).getLsbD 1,
      peers := (List.range np).map (fun k => mkaPeerAt (b.drop (54 + 13 * k))) }
    c :: mkaOfBytes s n (b.drop (54 + 13 * np))

/-- A joiner entering COPY erases its own SAs and table entries; pending Eclipse items go with them (R235, R333). -/
def joinErase (s : State) : State :=
  let s0 := (s.ecl.entries.filter (fun e => !e.active)).foldl eclAbort { s with orb := { s.orb with pend := [] } }
  let s1 := (saIndices s0).foldl (fun s i => eraseNow i s) s0
  { s1 with gaz := { s1.gaz with work := [], path := [] }, con := { s1.con with work := [], path := [] },
            ecl := { s1.ecl with entries := [] }, twin := { s1.twin with joinPhase := 2, bulkDone := false } }

/-- What every twin takes from its partner's tick-level state: the counters, the APS requests, the comparison of chores and the
fingerprint; a READY joiner whose fingerprint differs returns to COPY (R333). -/
def copyTake (b : Bytes) (s : State) : State :=
  let fp := beAt b 101 4
  let cnt := (beAt b 105 4, beAt b 109 4)
  let t := s.twin
  let same := fp == t.ownFp
  let s1 := { s with twin := { t with
    peerEpochs := some ((List.range 16).map (fun c => beAt b (5 + 6 * c) 4 % 2 ^ 31)), peerFp := some fp,
    fpDiff := if same then 0 else t.fpDiff + 1,
    peerAps := (List.range 128).map (fun n => beAt b (182 + 3 * n) 2) } }
  let s2 := if t.joinPhase = 3 && !same then joinErase s1 else s1
  if s.dev.mode = .twinEmit && cnt != t.lastChores then disagree 7 0 (now s - 1) s2 else s2

/-- What a joiner takes: T and e_c once they are fixed (R334), and the framer, APS and bundle state. -/
def copyAdopt (b : Bytes) (s : State) : State :=
  let t := wd (beAt b 114 4)
  let fixed := byteAt b 113 != 0 && !isDue (now s) t
  let s1 := if fixed then { s with twin := { s.twin with alignFixed := true, alignTick := t, epochs := (List.range 16).map (fun c => beAt b (118 + 4 * c) 4) } }
    else s
  if s1.twin.joinPhase < 2 then s1
  else
    let trs := recordsAt b 566 11
    let s2 := trs.foldl (fun s r => joinTrib r s) s1
    let s3 := (recordsAt b (568 + 11 * trs.length) 4).foldl (fun s r => joinBun r s) s2
    { s3 with aps := (List.range 128).map (fun n => let a := apsOf s3 n; if a.on then { a with sel := byteAt b (184 + 3 * n) != 0 } else a) }

/-- The MKA state follows the bundles. -/
def copyMka (b : Bytes) (s : State) : State :=
  let o := 568 + 11 * beAt b 566 2
  let o2 := o + 2 + 4 * beAt b o 2
  if mkaActs s then s else { s with ecl := { s.ecl with mka := mkaOfBytes s (beAt b o2 1) (b.drop (o2 + 1)) } }

/-- STATE_COPY_RX: a whole tick-level state, a message of the snapshot or a committed item. -/
def stateCopyRx (bytes : Bytes) (s : State) : State :=
  match oldReceive 9 bytes s with
  | (some p, s1) =>
    let kind := (byteAt p 0).toNat
    let joins := s1.dev.mode == .twinJoin
    if !twinMode s then s1
    else if kind = 0 then
      let s2 := copyMka p (copyTake p s1)
      if joins then copyAdopt p s2 else s2
    else if !joins || s1.twin.joinPhase < 2 then s1
    else if kind = 2 then
      (match itemOf s1 (p.drop 1) with
       | some (it, _) => joinItem it s1
       | none => s1)
    else joinSnap kind (p.drop 1) s1
  | (none, s1) => s1

/-- ALM_PEER_EPOCH takes the values of the last whole copy at the boundary (R324). -/
def peerEpochsTake (s : State) : State :=
  match s.twin.peerEpochs with
  | none => s
  | some l =>
    let s1 := (List.range 16).foldl (fun s c => modAlm c (fun a => { a with peer := l.getD c 0 }) s) s
    { s1 with twin := { s1.twin with peerEpochs := none } }

/-! ### The join (R333, R436) -/

/-- JOIN_TRUST: the partner's certificate and owner hash verify or not; then the pair key is derived (R436). With the RNG in
FAULT there is no nonce (R452). DEDUCED, unsafe (log entry 58). DEDUCED, unsafe (log entry 78). -/
def joinTrust (verified : Bool) (qx qy peerId : Nat) (nonce : Bytes) (s : State) : State :=
  let copying := s.dev.mode == .twinJoin && s.twin.joinPhase == 1
  let emitting := modeIn [.twinEmit, .twinHold] s && s.twin.peerPhase == 1
  if !copying && !emitting then s
  else if !verified || !onCurve p384 qx qy then logEvent 0x0A [wd peerId, wd (peerId / 2 ^ 32)] s
  else if s.rng.st = 2 then s
  else
    let d := draw 32 (reseed s)
    let mine := (devIdBytes, d.1)
    let his := (beBytes 8 peerId, slice nonce 0 32)
    let a := if twinId s = 0 then mine else his
    let b := if twinId s = 0 then his else mine
    let key := kdf (attShared qx qy) "DX32 PAIR" (a.1 ++ b.1 ++ a.2 ++ b.2) 256
    let s1 := { d.2 with keys := { d.2.keys with pairKey := some key } }
    if copying then joinErase s1 else s1

/-- JOIN_READY: the joiner has applied everything and its fingerprint equals the partner's. -/
def joinReady (s : State) : State :=
  if s.dev.mode = .twinJoin && s.twin.joinPhase == 2 && s.twin.bulkDone && s.twin.peerFp == some s.twin.ownFp then
    event (pg .twn) 3 { s with twin := { s.twin with joinPhase := 3 } }
  else s

/-- JOIN_ABANDON: the partner's heartbeats report for 3 ticks that it does not emit. -/
def joinAbandon (s : State) : State :=
  if s.dev.mode = .twinJoin && decide (3 ≤ s.twin.notEmit) then trigger .configure 0x0D 4 none s else s

/-- CONFIG_FINGERPRINT_MISMATCH: fingerprints have differed for 8 consecutive ticks (R314). -/
def configMismatch (s : State) : State :=
  if s.dev.mode = .twinEmit && decide (8 ≤ s.twin.fpDiff) then disagree 6 0 (now s) { s with twin := { s.twin with fpDiff := 0 } } else s

end Sys2Proof.Machine
end

