-- ==== Sys2Proof/Machine/Lunar.lean ====
section
/-! DEFINITION. The Lunar domain's sensors and event store (R396-R404), and the commands of the Boundary units' pages
(R387, R392, R393). -/

namespace Sys2Proof.Machine

/-! ### Sensors (R398-R400, R403) -/

/-- Whether the Lunar domain has power. -/
def lunPowered (s : State) : Bool := s.dev.supply || s.dev.vbat

/-- Whether a sensor is sampled: an enabled Lunar sensor, or a main-domain sensor with the supplies valid and PORST_N high
(R400, R478). LUN_SENSE_EN has no bit for sources 7 and 8. DEDUCED, unsafe (log entry 70). -/
def sampledNow (s : State) (n : Nat) : Bool :=
  if n ≤ 6 then lunPowered s && bit (getReg s (ra (pg .lun) 0x104)) n else decide (n ≤ 8) && s.dev.supply && s.dev.porst

/-- Whether a sample is a tamper sample (R398). A temperature is a 16-bit two's complement number of degrees.
DEDUCED, unsafe (log entry 70). -/
def tamperSample (s : State) (n v : Nat) : Bool :=
  let thr := getReg s (ra (pg .lun) 0x150)
  if n = 4 then decide (signed 16 v < signed 8 (fld thr 7 0))
  else if n = 5 then decide (signed 8 (fld thr 15 8) < signed 16 v)
  else v != 0

/-- LUN_FILTERn.N. -/
def lunFilter (s : State) (n : Nat) : Nat := regFld s (ra (pg .lun) (0x110 + 4 * n)) 7 0

/-- Enter an event in the Lunar event store: the first 8 are kept, later ones counted (R404). -/
def storeEvent (n : Nat) (s : State) : State :=
  let l := s.lun
  if l.store.length < 8 then
    { s with lun := { l with store := l.store ++ [{ src := n, onCell := !s.dev.supply, sec := l.rtcSec, frac := l.rtcFrac / 125 }] } }
  else { s with lun := { l with overflow := min 255 (l.overflow + 1) } }

/-- The KEK cells are overwritten (R401); on a powered device this is counted and raises KEK_ERASED. -/
def eraseKek (s : State) : State :=
  if s.lun.kek.isNone then s
  else
    let s1 := { s with lun := { s.lun with kek := none, kekCheck := [] } }
    if s.dev.supply then event (pg .lun) 17 (bump (pg .lun) 0x210 1 s1) else s1

/-- A sensor is declared in alarm: on the cell the KEK goes at once and the store records it (R403), otherwise its responses
wait for ALARM. -/
def declareSensor (n : Nat) (s : State) : State :=
  let s1 := { s with lun := { s.lun with alarm := s.lun.alarm ||| 2 ^ n } }
  if s.dev.supply then declareAlarm n s1 else eraseKek (storeEvent n s1)

/-- LUNAR_SAMPLE: one sample of sensor `n` (R400). A sample of the crystal also shows whether it runs (R397).
DEDUCED, unsafe (log entry 70). -/
def lunarSample (n v : Nat) (s0 : State) : State :=
  let s := if n = 6 && lunPowered s0 then { s0 with lun := { s0.lun with xtalOk := v == 0 } } else s0
  if !sampledNow s n then s
  else
    let put := fun (t c : Nat) (s : State) => { s with lun := { s.lun with tamper := s.lun.tamper.set n t, clean := s.lun.clean.set n c } }
    let on := s.lun.alarm.testBit n
    if tamperSample s n v then
      let t := min 255 (s.lun.tamper.getD n 0 + 1)
      let s1 := put t 0 (if s.dev.supply then bump (pg .lun) 0x208 1 s else s)
      if !on && decide (lunFilter s n ≤ t) then declareSensor n s1 else s1
    else
      let c := min 255 (s.lun.clean.getD n 0 + 1)
      let s1 := put 0 c s
      if on && decide (lunFilter s n ≤ c) then { s1 with lun := { s1.lun with alarm := s1.lun.alarm ^^^ 2 ^ n } } else s1

/-! ### Boundary pages (R387, R390, R392, R393) -/

/-- The state of Boundary unit `u`. -/
def bdyOf (s : State) (u : Nat) : BdyUnit := s.bdy.getD u { pending := false, notices := [] }

/-- Word `w` of staged region `n` of unit `u`. -/
def stagedWord (s : State) (u n w : Nat) : Word := getReg s (ra (pg .bdy u) (0x400 + 16 * n + 4 * w))

/-- The first enabled staged region whose BASE exceeds its LIMIT. -/
def stagedBad (s : State) (u : Nat) : Option Nat :=
  (List.range 64).find? (fun n => bit (stagedWord s u n 2) 31 && decide ((stagedWord s u n 1).toNat < (stagedWord s u n 0).toNat))

/-- The staged set becomes the active set. -/
def copyRegions (u : Nat) (s : State) : State :=
  (List.range 256).foldl (fun s i => setReg s (ra (pg .bdy u) (0x800 + 4 * i)) (getReg s (ra (pg .bdy u) (0x400 + 4 * i)))) s

/-- BDY_COMMIT. -/
def bdyCommit (m : Master) (u : Nat) (s : State) : State :=
  let p := pg .bdy u
  let a := ra p 0x104
  if (legend s p).lock then regErr m a 0x02 s
  else if (bdyOf s u).pending then regErr m a 0x40 s
  else match stagedBad s u with
    | some n => captureErr p 0x41 (mCls m) n (wd a) 0x0F00 s
    | none => copyRegions u { s with bdy := s.bdy.set u { bdyOf s u with pending := true } }

/-- BDY_COMMIT_DRAINED: COMMITTED. -/
def bdyDrained (u : Nat) (s : State) : State :=
  if (bdyOf s u).pending then event (pg .bdy u) 3 { s with bdy := s.bdy.set u { bdyOf s u with pending := false } } else s

/-- BDY_NOTICE_POP. -/
def bdyPop (u : Nat) (s : State) : State :=
  { s with bdy := s.bdy.set u { bdyOf s u with notices := (bdyOf s u).notices.drop 1 } }

end Sys2Proof.Machine
end

