-- ==== Sys2Proof/Machine/Memory.lean ====
section
/-! DEFINITION. Memory and the sealed path (R355-R380): training, live retraining, re-key and root-change sweeps, BAR2
segments, and single line reads and writes. -/

namespace Sys2Proof.Machine

/-! ### Channels (R371-R376) -/

def chanState (s : State) (c : Nat) : Chan := s.chans.getD c Chan.init
def modChan (c : Nat) (f : Chan → Chan) (s : State) : State := { s with chans := s.chans.set c (f (chanState s c)) }

/-- A channel's state changes: STATE_CHG. -/
def chanTo (c st : Nat) (s : State) : State :=
  if (chanState s c).st = st then s else event (pg .mem c) 0 (modChan c (fun x => { x with st := st }) s)

/-- 256-B granules of a channel below 3D/4 with their tag granules (R374). -/
def granules (s : State) : Nat := dataTop s / 8 * 9 / 8 / 256

/-- A training or check of a channel has ended (MEM_TRAIN). -/
def trained (c attempts step : Nat) (pass : Bool) (s : State) : State :=
  eventIf pass (pg .mem c) 1
    (modChan c (fun x => { x with pass := pass, attempts := attempts, failStep := step, trainTick := now s }) s)

/-- A channel is mapped out (R372). -/
def mapOut (c : Nat) (s : State) : State := setFault (pg .mem c) (chanTo c 5 s)

/-- Whether a root change of R364 or R365 or a re-key sweep runs. DEDUCED, safe (log entry 88). -/
def sweeping (s : State) : Bool := s.sealPath.rekey.isSome || s.sealPath.changing

/-- MEM_RETRAIN (R373, R374). DEDUCED, safe (log entry 88). -/
def memRetrain (ord ch : Nat) (s : State) : State :=
  if s.sealPath.retrain.isSome || sweeping s then endOrder ord .busy 0 s
  else if (chanState s ch).st = 5 then endOrder ord .arg 0 s
  else modChan ch (fun x => { x with prog := 0 }) (chanTo ch 2 { s with sealPath := { s.sealPath with retrain := some (ch, ord) } })

/-- All granules of a REMAP phase have moved. DESIGN CHOICE, unsafe (log entry 68). -/
def remapped (c : Nat) (s : State) : State :=
  bump (pg .mem c) 0x228 (granules s) (modChan c (fun x => { x with prog := granules s }) s)

/-- REMAP_OUT_DONE. -/
def remapOutDone (c : Nat) (s : State) : State := if (chanState s c).st = 2 then chanTo c 3 (remapped c s) else s

/-- The channel under retraining is done with: its order ends. -/
def retrainEnd (c : Nat) (st : Status) (s : State) : State :=
  match s.sealPath.retrain with
  | some (x, id) => if x = c then endOrder id st 0 { s with sealPath := { s.sealPath with retrain := none } } else s
  | none => s

/-- RETRAINING_DONE: passed within three attempts, or all three failed (R376). -/
def retrainingDone (c attempts step : Nat) (pass : Bool) (s : State) : State :=
  if (chanState s c).st != 3 then s
  else
    let n := if pass then max 1 (min attempts 3) else 3
    let s1 := trained c n (if pass && n == 1 then 0 else step % 16) pass s
    if pass then modChan c (fun x => { x with prog := 0 }) (chanTo c 4 s1) else retrainEnd c .fault (mapOut c s1)

/-- REMAP_IN_DONE. -/
def remapInDone (c : Nat) (s : State) : State :=
  if (chanState s c).st = 4 then retrainEnd c .ok (chanTo c 1 (remapped c s)) else s

/-! ### Sweeps (R364, R365, R377) -/

/-- Bytes sealed under an identifier, below 3D/4 (R358). -/
def kidBytes (s : State) (k : Nat) : Nat :=
  if k = 0 then dataTop s - 0x48000000 else if k = 1 then 0x20800000 else if k = 2 then 0x07800000 else if k = 3 then 0x10000000
  else s.sealPath.b2map.countP (· == k) * 2 ^ 24

/-- Lines of an identifier a sweep re-keys, where no tag fails: all but the poisoned ones. -/
def kidLines (s : State) (k : Nat) : Nat :=
  kidBytes s k / 64 - s.sealPath.poison.countP (fun a => a / 2 ^ 44 == k)

/-- Lines whose tag fails in a sweep: left unchanged and poisoned, with the alarm.
DESIGN CHOICE, safe (log entry 65). -/
def sweepFail (k : Nat) (s : State) (l : Nat) : State :=
  if keyOf s l == some k && !poisoned s l then tagFail (.tircy 0) l s else s

/-- One identifier has been swept to new keys: every line of it that passes its tag check keeps its contents.
DESIGN CHOICE, unsafe (log entry 66). DEDUCED, unsafe (log entry 67). -/
def sweptLines (failed : List Nat) (s : State) (k : Nat) : State :=
  let n := kidLines s k - failed.eraseDups.countP (fun l => keyOf s l == some k && !poisoned s l)
  let s1 := failed.foldl (sweepFail k) s
  event (pg .seal) 2 (bump (pg .seal) 0x240 n
    { s1 with sealPath := { s1.sealPath with rekeySwept := kidBytes s k / 2 ^ 20 } })

/-- One identifier has been swept to the keys of its next generation (R364, R377).
DEDUCED, unsafe (log entry 67). DESIGN CHOICE, unsafe (log entry 68). -/
def swept (failed : List Nat) (s : State) (k : Nat) : State :=
  let s1 := sweptLines failed s k
  { s1 with sealPath := { s1.sealPath with gen := s1.sealPath.gen.set k (min 0xFFFF (s1.sealPath.gen.getD k 0 + 1)) } }

/-- SEAL_REKEY (R377). DEDUCED, safe (log entry 88). -/
def sealRekey (ord k : Nat) (s : State) : State :=
  if sweeping s || s.sealPath.retrain.isSome then endOrder ord .busy 0 s
  else if s.sealPath.gen.getD k 0 = 0xFFFF then endOrder ord .fault 0 s
  else { s with sealPath := { s.sealPath with rekey := some (k, some ord), rekeySwept := 0 } }

/-- REKEY_DONE. -/
def rekeyDone (k : Nat) (failed : List Nat) (s : State) : State :=
  match s.sealPath.rekey with
  | some (x, id) =>
    if x = k then
      let s1 := swept failed s k
      endOpt id .ok 0 { s1 with sealPath := { s1.sealPath with rekey := none } }
    else s
  | none => s

/-- The check value of a KEK: the first 64 bits of AES-256 of a zero block under it (R429). -/
def kekCheckOf (kek : Bytes) : Bytes := (aesEnc kek (zeros 16)).take 8

/-- The KEK the Lunar domain holds, if it verifies against its check value (R396). -/
def kekOf (s : State) : Option Bytes := s.lun.kek.filter (fun k => kekCheckOf k == s.lun.kekCheck)

/-- KEK_STATE (R396): 0 NONE, 1 PRESENT, 2 ERASED. -/
def kekState (s : State) : Nat := if (kekOf s).isSome then 1 else if s.keys.kekGenerated then 2 else 0

/-- PROVISION_COMMIT (R364, R437). DEDUCED, safe (log entry 88). -/
def provisionCommit (ord : Nat) (s : State) : State :=
  if s.sealPath.commitOrd.isSome then endOrder ord .busy 0 s
  else if s.keys.owner.isNone || kekState s != 1 then endOrder ord .arg 0 s
  else { s with sealPath := { s.sealPath with commitOrd := some ord, changing := true } }

/-- TKW (R429). -/
def tkwOf (kek : Bytes) : Bytes := kdf kek "DX32 TKW" devIdBytes 256

/-- PROVISION_SWEEP_DONE: the root is the KEK, and CONFIGURE follows at the boundary (R364, R37). -/
def provisionSweepDone (failed : List Nat) (s : State) : State :=
  match s.sealPath.commitOrd, s.lun.kek with
  | some id, some kek =>
    let s1 := (List.range 16).foldl (swept failed) s
    let s2 := { s1 with sealPath := { s1.sealPath with commitOrd := none, changing := false, provisional := false, root := kek },
                        keys := { s1.keys with tkw := some (tkwOf kek) } }
    trigger .configure 0x0A 4 none (endOrder id .ok 0 s2)
  | _, _ => s

/-! ### BAR2 segments (R379, R380) -/

/-- Identifier of a segment in SEAL_B2MAP. -/
def b2mapReg (s : State) (n : Nat) : Nat := regFld s (ra (pg .seal) (0x120 + 4 * (n / 8))) (4 * (n % 8) + 3) (4 * (n % 8))

/-- A segment reassigned at the boundary is rewritten as zeros under its new identifier. -/
def segmentOne (s : State) (n : Nat) : State :=
  let k := b2mapReg s n
  if s.sealPath.b2map.getD n 4 = k then s
  else
    let lo := bar2 (n * 2 ^ 24)
    let s1 := clearMem lo (2 ^ 24) s
    let old := fun (a : Nat) => decide (lo ≤ a % 2 ^ 36) && decide (a % 2 ^ 36 < lo + 2 ^ 24)
    { s1 with sealPath := { s1.sealPath with b2map := s1.sealPath.b2map.set n k, rewriting := s1.sealPath.rewriting ++ [n],
                                             poison := s1.sealPath.poison.filter (fun a => !old a) } }

/-- The segments at a boundary. -/
def segmentBoundary (s : State) : State := (List.range 16).foldl segmentOne s

/-- The segment that an address lies in. -/
def segmentOf (a : Nat) : Nat := (a % 2 ^ 36 - 0x38000000) / 2 ^ 24

/-- Whether an access of the host waits: its segment is being rewritten (R380). -/
def segmentBusy (s : State) (m : Master) (a : Nat) : Bool :=
  m == .host && decide (0x38000000 ≤ a % 2 ^ 36) && s.sealPath.rewriting.contains (segmentOf a)

/-! ### Single accesses (R359, R367-R370, R394, R395) -/

/-- An address the sealed path refuses (R359). -/
def addrBad (s : State) (a : Nat) : Bool :=
  a / 2 ^ 36 % 256 != 0 || keyOf s (a % 2 ^ 36) != some (a / 2 ^ 44 % 16)

def sealErr (m : Master) (reason a : Nat) (s : State) : State :=
  captureErr (pg .seal) reason (mCls m) 0 (wd a) (wd (a / 2 ^ 32 % 65536)) s

/-- The access is refused. -/
def addrRefuse (m : Master) (a : Nat) (s : State) : State :=
  busError m (event (pg .seal) 3 (bump (pg .seal) 0x238 1 (sealErr m 0x40 a s)))

/-- A bus integrity error at a target (R395). -/
def integrityAt (page : Nat) (m : Master) (a : Nat) (s : State) : State :=
  declareAlarm 10 (captureErr page 0x08 (mCls m) 0 (wd a) (wd (a / 2 ^ 32 % 65536)) s)

/-- TAG_FAILS and RETRY_OK stand on the SEAL page and on the line's channel.
DESIGN CHOICE, unsafe (log entry 66). -/
def countTag (sealOff memOff l : Nat) (s : State) : State := bump (pg .seal) sealOff 1 (bump (pg .mem (chanOf l)) memOff 1 s)

/-- A line read whose tag fails `fails` times (0, 1 or 2). DESIGN CHOICE, safe (log entry 65). -/
def lineRead (m : Master) (a fails : Nat) (s : State) : State :=
  let l := a % 2 ^ 36 / 64 * 64
  if addrBad s a then addrRefuse m a s
  else if poisoned s l then busError m (sealErr m 0x41 (lineAddr s l) (bump (pg .seal) 0x228 1 s))
  else if 2 ≤ fails then busError m (tagFail m l s)
  else
    let s1 := if fails = 1 then countTag 0x220 0x220 l s else s
    emit (.data (readMem s1 l 64)) (countLines 0x200 0x200 [l] s1)

/-- A write within one line; a partial write reads the line first, and `fails` counts its failed tag checks.
DESIGN CHOICE, safe (log entry 65). -/
def lineWrite (m : Master) (a fails : Nat) (bytes : Bytes) (s : State) : State :=
  let l0 := a % 2 ^ 36
  let l := l0 / 64 * 64
  let bs := bytes.take (64 - l0 % 64)
  let full := bs.length == 64
  if addrBad s a then addrRefuse m a s
  else if bs.isEmpty then s
  else if full then (linesWrite m l0 bs s).2
  else if poisoned s l then busError m (partialPoison m l s)
  else if 2 ≤ fails then
    busError m (partialPoison m l (tagFail m l s))
  else (linesWrite m l0 bs (if fails = 1 then countTag 0x220 0x220 l s else s)).2

/-- Whether accesses to DRAM are served: powered, out of reset and initialised (R366).
DEDUCED, unsafe (log entry 3). -/
def memUp (m : Master) (s : State) : Bool := s.sealPath.initDone && reachable m s

/-- Whether an address has the sealed path for its target, and not register space, boot ROM, eMRAM or core-local SRAM (R382). -/
def sealTarget (a : Nat) : Bool := !([0xF0, 0xF4, 0xF8, 0xFC].contains (a / 2 ^ 36 % 256))

/-- An access of the host waits for its segment (R380). -/
def holdAccess (x : HeldAccess) (s : State) : State := { s with sealPath := { s.sealPath with held := s.sealPath.held ++ [x] } }

/-- An access that is served: its Boundary check first. -/
def serveAccess (x : HeldAccess) (s : State) : State :=
  checked x.m (if x.bytes.isSome then .write else .read) x.addr (fun s =>
    if x.integ then busError x.m (integrityAt (pg .seal) x.m x.addr s)
    else match x.bytes with
      | some b => lineWrite x.m x.addr x.fails b s
      | none => lineRead x.m x.addr x.fails s) s

/-- An access of a master to the sealed path is served or waits (R366, R380). -/
def takeAccess (x : HeldAccess) (s : State) : State :=
  if !memUp x.m s || !sealTarget x.addr then s else if segmentBusy s x.m x.addr then holdAccess x s else serveAccess x s

/-- SEALED_READ. -/
def sealedRead (m : Master) (a fails : Nat) (integ : Bool) (s : State) : State :=
  takeAccess { m := m, addr := a, fails := fails, integ := integ, bytes := none } s

/-- SEALED_WRITE. -/
def sealedWrite (m : Master) (a fails : Nat) (bytes : Bytes) (integ : Bool) (s : State) : State :=
  takeAccess { m := m, addr := a, fails := fails, integ := integ, bytes := some bytes } s

/-- SEGMENT_REWRITE_DONE: the accesses that waited are served in their order of arrival (R370, R380).
DESIGN CHOICE, unsafe (log entry 68). -/
def segmentDone (n : Nat) (s : State) : State :=
  let mine := fun (x : HeldAccess) => segmentOf x.addr == n
  let s1 := { s with sealPath := { s.sealPath with rewriting := s.sealPath.rewriting.filter (· != n), held := s.sealPath.held.filter (fun x => !mine x) } }
  (s.sealPath.held.filter mine).foldl (fun s x => takeAccess x s) s1

/-! ### What stands in the DRAM (R360-R362, R429) -/

/-- The keys of identifier `k`: XTS key 1, XTS key 2, kt_k and h_k (R362, R429). -/
def sealKeys (s : State) (k : Nat) : Bytes :=
  kdf s.sealPath.root "DX32 SEAL" (s.sealPath.nonce ++ beBytes 1 k ++ beBytes 2 (s.sealPath.gen.getD k 0)) 896

/-- The ciphertext of the line at logical address `l` (R360). -/
def dramLine (s : State) (l : Nat) : Bytes :=
  let ks := sealKeys s ((keyOf s l).getD 0)
  xtsEnc (slice ks 0 32) (slice ks 32 32) (leBytes 16 (l / 64)) (readMem s (l / 64 * 64) 64)

/-- The tag of the line at logical address `l` (R361), of which the input block is 16 bytes.
DESIGN CHOICE, unsafe (log entry 102). -/
def dramTag (s : State) (l : Nat) : Bytes :=
  let k := (keyOf s l).getD 0
  let ks := sealKeys s k
  let b := aesEnc (slice ks 64 32) (0 :: beBytes 1 k ++ zeros 2 ++ beBytes 8 (l / 64) ++ zeros 4)
  (xorBytes (ghash (slice ks 96 16) [] (dramLine s l)) b).take 8

end Sys2Proof.Machine
end

