-- ==== Sys2Proof/Machine/Keys.lean ====
section
/-! DEFINITION. Orders on keys, identity and diagnosis: transport keys and CAKs (R432-R434), provisioning (R437), export
(R169, R171), diagnostic SAs and loopbacks (R58, R114, R267, R321), and debug tokens (R391). -/

namespace Sys2Proof.Machine

/-- An order whose block cannot be read through the sealed path ends with FAULT. -/
def withBlock (ord off n : Nat) (f : Bytes → State → State) (s : State) : State :=
  match readBar2 (.tircy 0) off n s with
  | (some b, s1) => f b s1
  | (none, s1) => endOrder ord .fault 0 s1

/-- Put a key into a transport slot. -/
def putSlot (slot : Nat) (k : Bytes) (s : State) : State := { s with keys := { s.keys with slots := s.keys.slots.set slot (some k) } }

/-- The transport key of an AGREE block (R433). -/
def agreeKey (b : Bytes) : Bytes :=
  kdf (attShared (beAt b 4 48) (beAt b 0x34 48)) "DX32 TRANSPORT" (devIdBytes ++ slice b 4 48 ++ slice b 0x64 32) 256

/-- KEY_IMPORT (R433). DESIGN CHOICE, unsafe (log entry 75). -/
def keyImport (ord slot off : Nat) (s : State) : State :=
  withBlock ord off 256 (fun b s =>
    let mode := (byteAt b 0).toNat
    if mode = 1 then
      if !onCurve p384 (beAt b 4 48) (beAt b 0x34 48) then endOrder ord .arg 0 s
      else match s.keys.tkw with
        | none => endOrder ord .fault 0 s
        | some tkw =>
          let k := agreeKey b
          match writeBar2 (.tircy 0) (off + 0x90) (kwWrap tkw (k ++ devIdBytes)) s with
          | (true, s1) => endOrder ord .ok 0 (putSlot slot k s1)
          | (false, s1) => endOrder ord .fault 0 s1
    else if mode = 2 then
      match unwrapUnder s.keys.tkw (slice b 0x90 48) with
      | some x => if x.drop 32 == devIdBytes then endOrder ord .ok 0 (putSlot slot (x.take 32) s) else endOrder ord .auth 0 s
      | none => endOrder ord .auth 0 s
    else endOrder ord .arg 0 s) s

/-- CAK_LOAD (R434). -/
def cakLoad (ord slot off : Nat) (s : State) : State :=
  withBlock ord off 0x4C (fun b s =>
    let cl := (byteAt b 0).toNat
    let nl := (byteAt b 1).toNat
    let ckn := slice b 4 nl
    let others := s.keys.caks.filter (fun c => c.1 != ckn)
    if (cl != 16 && cl != 32) || nl == 0 || decide (32 < nl) then endOrder ord .arg 0 s
    else if 256 ≤ others.length then endOrder ord .busy 0 s
    else match unwrapUnder (s.keys.slots.getD slot none) (slice b 0x24 (cl + 8)) with
      | none => endOrder ord .auth 0 s
      | some k =>
        let e := (ckn, k, (byteAt b 2).toNat)
        let l := if others.length = s.keys.caks.length then others ++ [e] else s.keys.caks.map (fun c => if c.1 = ckn then e else c)
        endOrder ord .ok 0 { s with keys := { s.keys with caks := l } }) s

/-- Whether an ECDSA P-384 signature verifies under a public key given as x ‖ y (R437). -/
def ownerSigOk (key msg sig : Bytes) : Bool :=
  ecdsaOk p384 (beAt key 0 48) (beAt key 48 48) (beNat (sha384 msg)) (beAt sig 0 48) (beAt sig 48 48)

/-- OWNER_ENROL (R437). -/
def ownerEnrol (ord off : Nat) (s : State) : State :=
  withBlock ord off 192 (fun b s =>
    let key := slice b 0 96
    let sigOk := match s.keys.owner with
      | some k => ownerSigOk k (key ++ devIdBytes) (slice b 96 96)
      | none => true
    if !onCurve p384 (beAt key 0 48) (beAt key 48 48) then endOrder ord .arg 0 s
    else if !sigOk then endOrder ord .auth 0 s
    else endOrder ord .ok 0 { s with keys := { s.keys with owner := some key } }) s

/-- KEK_GENERATE (R396, R437). DEDUCED, unsafe (log entry 78). DEDUCED, safe (log entry 88). -/
def kekGenerate (ord : Nat) (s : State) : State :=
  if s.sealPath.commitOrd.isSome then endOrder ord .busy 0 s
  else if s.rng.st = 2 then endOrder ord .fault 0 s
  else
    let d := draw 32 (reseed s)
    let s1 := { d.2 with keys := { d.2.keys with kekGenerated := true }, lun := { d.2.lun with kek := some d.1, kekCheck := kekCheckOf d.1 } }
    endOrder ord .ok 0 s1

/-- The exported image of an SA (R169): its record with the key wrapped, the ledger entry and the device identifier. -/
def exportImage (s : State) (i : Nat) (wrapped : Bytes) : List Word :=
  let r := recView s i
  let pad := bytesToWords 10 (wrapped ++ zeros (40 - wrapped.length))
  let led := bytesToWords 2 (leBytes 8 (workSa s i).ledger)
  let dev := bytesToWords 2 (leBytes 8 devId)
  (List.range 64).map (fun n =>
    if 16 ≤ n && n < 26 then pad.getD (n - 16) 0 else if n = 26 || n = 27 then 0
    else if 60 ≤ n && n < 62 then led.getD (n - 60) 0 else if 62 ≤ n then dev.getD (n - 62) 0 else recW r n)

/-- SA_EXPORT (R169, R171). -/
def saExport (ord i off slot : Nat) (s : State) : State :=
  let e := workSa s i
  if e.st != 1 || (behaviour s 2 && noFit128 e.record) then endOrder ord .arg 0 s
  else match s.keys.slots.getD slot none with
    | none => endOrder ord .auth 0 s
    | some k =>
      let img := exportImage s i (kwWrap k (recKey e.record))
      let out := if behaviour s 2 then to128 img e.ledger else wordsToBytes img
      match writeBar2 (.tircy 0) off out s with
      | (true, s1) => endOrder ord .ok 0 s1
      | (false, s1) => endOrder ord .fault 0 s1

/-- A ROM test key (R58). -/
def romKeyBytes (n len : Nat) : Bytes := (List.range len).map (Config.romKey n)

/-- DIAG_SA_LOAD (R58, R59): the SA becomes visible as an install does, at epoch 0 and count 0.
DEDUCED, unsafe (log entry 47). -/
def diagSaLoad (ord i key off : Nat) (s : State) : State :=
  withBlock ord off 256 (fun b s =>
    let img := bytesToWords 64 b
    if (workSa s i).st != 0 || imageBad s img then endOrder ord .arg 0 s
    else if installBusy s img then endOrder ord .busy 0 s
    else
      let e := { newEntry s (workSa s i) img (romKeyBytes key (keyLen (recSuite img))) false 0 0 with diag := true }
      endOrder ord .ok 0 (pendSa i (.install e) s)) s

/-! ### Loopbacks (R114, R267, R321) -/

/-- PORT_LOOP.MODE takes a value: a new one takes the port link-down. -/
def portLoop (side : Side) (p mode : Nat) (s : State) : State :=
  let a := ra (portPage side p) 0x120
  if regFld s a 1 0 = mode then s else linkFall side p true true (some 2) (setReg s a (wd mode))

/-- HWY_LOOP.MODE takes a value: a new one declares LOF for one tick. DEDUCED, unsafe (log entry 52). -/
def hwyLoop (h mode : Nat) (s : State) : State :=
  let a := ra (pg .hwy h) 0x108
  if regFld s a 1 0 = mode then s
  else bump (pg .hwy h) 0x228 (b2n (!(hwyOf s h).lof)) (hwyChange h (fun x => { x with loopLof := true, locked := none }) (setReg s a (wd mode)))

/-- OLD_LOOP.MODE takes a value: a new one sets SYNC to 0. -/
def oldLoop (mode : Nat) (s : State) : State :=
  let a := ra (pg .old) 0x108
  if regFld s a 1 0 = mode then s else oldSyncLost (setReg s a (wd mode))

/-- DIAG_LOOPBACK (R60): block 0 a port, 1 a highway, 2 the Oldun link. -/
def diagLoopback (ord mode inst block : Nat) (side : Side) (s : State) : State :=
  if 3 < mode then endOrder ord .arg 0 s
  else if block = 0 && inst < 16 then endOrder ord .ok 0 (portLoop side inst mode s)
  else if block = 1 && inst < 8 then endOrder ord .ok 0 (hwyLoop inst mode s)
  else if block = 2 then endOrder ord .ok 0 (oldLoop mode s)
  else endOrder ord .arg 0 s

/-! ### Debug (R391) -/

/-- Set EN of region `n` of unit 3, in the staged and the active set, unless the region or the unit is locked (R390).
DEDUCED, unsafe (log entry 74). -/
def enableDebug (s : State) (n : Nat) : State :=
  let p := pg .bdy 3
  if 64 ≤ n || (legend s p).lock || bit (regionWord s 3 n 2) 30 then s
  else
    let on := fun (a : Nat) (s : State) => setReg s a (setBit (getReg s a) 31 true)
    on (ra p (0x808 + 16 * n)) (on (ra p (0x408 + 16 * n)) s)

/-- DEBUG_TOKEN: a token that verifies against the owner key enables the regions of unit 3 that it names.
DEDUCED, unsafe (log entry 74). -/
def debugTokenIn (valid : Bool) (regions : List Nat) (s : State) : State :=
  if valid && s.keys.owner.isSome && !modeIn [.lunar, .reset] s then
    regions.foldl enableDebug { s with keys := { s.keys with debugOn := true } }
  else s

end Sys2Proof.Machine
end

