-- ==== Sys2Proof/Machine/Engines.lean ====
section
/-! DEFINITION. The key engines: the utility cipher unit (R438-R442), the public-key engine (R443-R450), attestation (R454)
and the random number generator (R451-R453). -/

namespace Sys2Proof.Machine

/-! ### DMA through a Boundary unit (R383-R385) -/

/-- A DMA read of an internal address: the bytes, unless a piece is denied, refused or fails. -/
def dmaRead (m : Master) (a n : Nat) (s : State) : Option Bytes × State :=
  (pieces a n).foldl (fun r p =>
    let c := pieceOk m .read (a + p.1) r.2
    if !c.1 then (none, c.2)
    else if addrBad c.2 (a + p.1) then (none, addrRefuse m (a + p.1) c.2)
    else
      let x := linesRead m ((a + p.1) % 2 ^ 36) p.2 c.2
      (joinRead r.1 x.1, x.2)) (some [], s)

/-- A DMA write: every permitted piece is carried out (R385); whether all were. -/
def dmaWrite (m : Master) (a : Nat) (bs : Bytes) (s : State) : Bool × State :=
  (pieces a bs.length).foldl (fun r p =>
    let c := pieceOk m .write (a + p.1) r.2
    if !c.1 then (false, c.2)
    else if addrBad c.2 (a + p.1) then (false, addrRefuse m (a + p.1) c.2)
    else
      let x := linesWrite m ((a + p.1) % 2 ^ 36) (slice bs p.1 p.2) c.2
      (r.1 && x.1, x.2)) (true, s)

/-! ### The utility cipher unit -/

/-- Whether a master owns the lock (R441). -/
def ucuOwner (s : State) (m : Master) : Bool := s.ucu.held && s.ucu.ownCls == mCls m && s.ucu.ownCore == mCore m

/-- The owner has written (R442). -/
def ucuTouch (s : State) : State := { s with ucu := { s.ucu with lastUse := now s } }

/-- UCU_LOCK.ACQ. -/
def ucuAcquire (m : Master) (s : State) : State :=
  if s.ucu.held then (if ucuOwner s m then ucuTouch s else s)
  else { s with ucu := { s.ucu with held := true, ownCls := mCls m, ownCore := mCore m, lastUse := now s } }

/-- The writers of UCU_LOCK.ACQ in one clock, in the order in which they are served: the lower class number first, then the lower core
number (R441). -/
def ucuOrder (w : AcqWrite) : List Master :=
  match w.rival with
  | none => [w.writer]
  | some r =>
    if decide (mCls w.writer < mCls r) || (mCls w.writer == mCls r && decide (mCore w.writer ≤ mCore r)) then [w.writer, r]
    else [r, w.writer]

/-- A command of the owner alone: others are ignored with UCU_NOT_OWNER (R441). -/
def ucuOwned (m : Master) (off : Nat) (f : State → State) (s : State) : State :=
  if ucuOwner s m then f (ucuTouch s) else regErr m (ra (pg .ucu) off) 0x40 s

/-- UCU_LOCK.REL: a release waits for a running job. -/
def ucuRelease (m : Master) (s : State) : State :=
  ucuOwned m 0x100 (fun s => if s.ucu.busy then { s with ucu := { s.ucu with relPending := true } } else ucuFree s) s

/-- UCU_LOCK.FORCE acts for TIRCY alone. -/
def ucuForceCmd (m : Master) (s : State) : State :=
  if mCls m = 1 then ucuForced s else s

/-- UCU_LEASE_EXPIRY (R442). -/
def ucuLease (s : State) : State :=
  if s.ucu.held && !s.ucu.busy && decide (regFld s (ra (pg .ucu) 0x104) 15 0 ≤ tdiff (now s) s.ucu.lastUse) then ucuForced s else s

def ucuMode (s : State) : Nat := regFld s (ra (pg .ucu) 0x108) 31 24
def ucuLen (s : State) : Nat := regFld s (ra (pg .ucu) 0x11C) 24 0

/-- The lengths each mode takes (R438). -/
def ucuLenOk (s : State) : Bool :=
  let n := ucuLen s
  match ucuMode s with
  | 3 => n % 16 == 0 && decide (n ≤ 4096)
  | 4 => n % 16 == 0 && decide (n ≤ 4096)
  | 5 => n % 8 == 0 && decide (16 ≤ n)
  | 6 => n % 8 == 0 && decide (24 ≤ n)
  | m => decide (1 ≤ m) && decide (m ≤ 13)

/-- UCU_CMD.GO: a job starts, unless one runs or the mode's length is none it takes.
DESIGN CHOICE, unsafe (log entry 76). -/
def ucuStart (m : Master) (s : State) : State :=
  ucuOwned m 0x124 (fun s =>
    if s.ucu.busy || !ucuLenOk s then s else { s with ucu := { s.ucu with busy := true, doneFlag := false } }) s

/-- A write of UCU_MODE (R438, R440): TIRCY alone may select KEYSRC = 1, and MODE and HKEY_LEN keep to their ranges.
DESIGN CHOICE, unsafe (log entry 76). -/
def ucuModeWrite (m : Master) (v : Word) (s : State) : State :=
  let a := ra (pg .ucu) 0x108
  ucuOwned m 0x108 (fun s =>
    let old := getReg s a
    let keyBad := bit v 8 && mCls m != 1
    let modeBad := fld v 31 24 == 0 || decide (13 < fld v 31 24)
    let lenBad := decide (64 < fld v 6 0)
    let w1 := setFld (setFld 0 16 16 (fld v 16 16)) 15 12 (fld v 15 12)
    let w2 := setFld w1 8 8 (if keyBad then fld old 8 8 else fld v 8 8)
    let w3 := setFld w2 31 24 (if modeBad then fld old 31 24 else fld v 31 24)
    let s1 := setReg s a (setFld w3 6 0 (if lenBad then fld old 6 0 else fld v 6 0))
    let s2 := if keyBad then regErr m a 0x41 s1 else s1
    if modeBad || lenBad then regErr m a 0x06 s2 else s2) s

/-- Words as bytes, the first word and its top byte first. -/
def msWords (ws : List Word) : Bytes := ws.flatMap (fun w => beBytes 4 w.toNat)
def ucuWords (s : State) (off n : Nat) : Bytes := msWords ((List.range n).map (fun i => getReg s (ra (pg .ucu) (off + 4 * i))))

/-- The AES key in use (R438, R440). -/
def ucuKey (s : State) : Option Bytes :=
  let r := getReg s (ra (pg .ucu) 0x108)
  let n := if bit r 16 then 32 else 16
  if bit r 8 then (s.keys.slots.getD (fld r 15 12) none).map (fun k => k.take n) else some ((msWords s.ucu.key).take n)

/-- What a job produces: bytes for the destination, bytes for UCU_RESULT, or a failed check. -/
inductive UcuOut
  | dest (d r : Bytes)
  | result (r : Bytes)
  | authFail
deriving DecidableEq, Repr

/-- The job's computation on its source bytes (R438). DESIGN CHOICE, unsafe (log entry 76). -/
def ucuCompute (s : State) (src : Bytes) : UcuOut :=
  let hk := ((msWords s.ucu.key) ++ (msWords s.ucu.key2)).take (regFld s (ra (pg .ucu) 0x108) 6 0)
  let iv := ucuWords s 0x180 4
  let k2 := msWords s.ucu.key2
  let al := min (regFld s (ra (pg .ucu) 0x120) 24 0) src.length
  match ucuMode s, ucuKey s with
  | 8, _ => .result (sha256 src)
  | 9, _ => .result (sha384 src)
  | 10, _ => .result (sha512 src)
  | 11, _ => .result (hmac sha256 64 hk src)
  | 12, _ => .result (hmacSha384 hk src)
  | 13, _ => .result (hmac sha512 128 hk src)
  | 1, some k =>
    let x := gcmSeal k (iv.take 12) (src.take al) (src.drop al)
    .dest x.1 x.2
  | 2, some k =>
    (match gcmOpen k (iv.take 12) (src.take al) (src.drop al) (ucuWords s 0x190 4) with
     | some p => .dest p []
     | none => .authFail)
  | 3, some k => .dest (xtsEnc k k2 iv src) []
  | 4, some k => .dest (xtsDec k k2 iv src) []
  | 5, some k => .dest (kwWrap k src) []
  | 6, some k =>
    (match kwUnwrap k src with
     | some p => .dest p []
     | none => .authFail)
  | 7, some k => .result (aesCmac k src)
  | _, none => .authFail
  | _, _ => .result []

/-- The job ends with RESULT `res`. -/
def ucuEnd (res : Nat) (out : Bytes) (s : State) : State :=
  let s1 := bump (pg .ucu) 0x208 (ucuLen s) (bump (pg .ucu) 0x200 1 s)
  let s2 := { s1 with ucu := { s1.ucu with busy := false, doneFlag := true, res := res, result := out, lastUse := now s1 } }
  let s3 := event (pg .ucu) 0 s2
  if s3.ucu.relPending then ucuFree s3 else s3

/-- UCU_JOB_DONE (R438, R439). DESIGN CHOICE, unsafe (log entry 76). -/
def ucuFinish (s : State) : State :=
  if !s.ucu.busy then s
  else match dmaRead .ucu (ucuAddr s 0x10C) (ucuLen s) s with
    | (none, s1) => ucuEnd 3 [] s1
    | (some src, s1) =>
      match ucuCompute s1 src with
      | .dest d r =>
        let w := dmaWrite .ucu (ucuAddr s1 0x114) d s1
        ucuEnd (if w.1 then 0 else 3) r w.2
      | .result r => ucuEnd 0 r s1
      | .authFail =>
        let w := if ucuWrites (ucuMode s1) then dmaWrite .ucu (ucuAddr s1 0x114) (zeros (ucuLen s1)) s1 else (true, s1)
        ucuEnd (if w.1 then 1 else 3) [] (bump (pg .ucu) 0x210 1 w.2)

/-! ### The public-key engine -/

/-- The curve a CURVE field names (R443). -/
def curveOf (s : State) (c : Nat) : Option Curve :=
  match c with
  | 1 => some p256
  | 2 => some p384
  | 3 => some p521
  | _ => if 8 ≤ c && c < 16 then spGet none s.pke.curves (c - 8) else none

/-- Bytes an operand takes. -/
def opW (len : Nat) : Nat := cdiv len 64 * 8

/-- Operand bytes of a job block (R443). -/
def opBytes (op len mlen : Nat) : Nat :=
  let w := opW len
  match op with
  | 1 => 2 * w
  | 2 => 5 * w
  | 3 => 3 * w
  | 5 => 2 * w
  | 6 => 32 + mlen
  | 7 => 96 + mlen
  | 8 => 3 * w
  | 9 => 6 * w
  | 10 => 7 * w
  | _ => 0

/-- Output bytes of a job. -/
def outBytes (op len : Nat) : Nat :=
  let w := opW len
  match op with
  | 1 => 2 * w
  | 3 => w
  | 4 => 3 * w
  | 5 => 32
  | 6 => 64
  | 8 => w
  | 9 => w
  | _ => 0

/-- Whether LEN is the field length of a curve (R443); Curve25519 takes 255 or 256. -/
def lenOk (op curve len : Nat) : Bool :=
  match curve with
  | 1 => len == 256
  | 2 => len == 384
  | 3 => len == 521
  | 4 => len == 255 || len == 256
  | _ => if op = 8 || op = 9 then decide (1024 ≤ len) && decide (len ≤ 4096) && len % 256 == 0 else decide (1 ≤ len) && decide (len ≤ 521)

/-- Whether OP and CURVE go together (R443). -/
def curveFits (op curve : Nat) : Bool :=
  if op = 0 || op = 8 || op = 9 then curve == 0
  else if 5 ≤ op && op ≤ 7 then curve == 4
  else if op = 10 then decide (8 ≤ curve) && decide (curve ≤ 15)
  else (decide (1 ≤ curve) && decide (curve ≤ 3)) || (decide (8 ≤ curve) && decide (curve ≤ 15))

/-- A job from its header (R443). -/
def jobOf (ord : Option Nat) (h : Bytes) : PkeJob :=
  { ord := ord, op := (byteAt h 3).toNat, curve := (byteAt h 2).toNat, len := leNat (slice h 0 2), area := (byteAt h 4).toNat % 16,
    out := leNat (slice h 8 4) % 2 ^ 28, mlen := leNat (slice h 12 2), ops := [], attest := none }

/-- Bytes of a job's block. -/
def jobBytes (j : PkeJob) : Nat := 0x40 + opBytes j.op j.len j.mlen

/-- Whether a host's job block is well formed (R443, R490). -/
def jobOk (off : Nat) (j : PkeJob) : Bool :=
  decide (j.op ≤ 10) && curveFits j.op j.curve && (j.op == 0 || lenOk j.op j.curve j.len) && decide (j.area < 8) &&
  decide (j.mlen ≤ 3968 || (j.op != 6 && j.op != 7)) && decide (jobBytes j ≤ 4096) && inBar2 off (jobBytes j) &&
  inBar2 j.out (outBytes j.op j.len)

/-- A job enters the queue, which holds 64 jobs beside the running one, or its order ends with BUSY.
DESIGN CHOICE, unsafe (log entry 77). -/
def pkeEnqueue (j : PkeJob) (s : State) : State :=
  if 65 ≤ s.pke.jobs.length then endOpt j.ord .busy 0 (bump (pg .pke) 0x220 1 s)
  else { s with pke := { s.pke with jobs := s.pke.jobs ++ [j] } }

/-- PKE_JOB (R443). -/
def pkeSubmit (ord off : Nat) (s : State) : State :=
  if off % 256 != 0 || !inBar2 off 0x40 then endOrder ord .arg 0 s
  else match readBar2 (.tircy 0) off 0x40 s with
    | (none, s1) => endOrder ord .fault 0x14 s1
    | (some h, s1) =>
      let j := jobOf (some ord) h
      if !jobOk off j then endOrder ord .arg 0 s1
      else match readBar2 (.tircy 0) off (jobBytes j) s1 with
        | (none, s2) => endOrder ord .fault 0x14 s2
        | (some b, s2) => pkeEnqueue { j with ops := b } s2

/-- The internal address of operand area `a`: 64 KiB each from the start of device working memory.
DESIGN CHOICE, unsafe (log entry 77). -/
def areaAddr (a : Nat) : Nat := 0x48000000 + a * 0x10000

/-- An area is zeroed whole. -/
def zeroArea (a : Nat) (s : State) : State :=
  let l := areaAddr a
  let s1 := clearMem l 0x10000 s
  { s1 with sealPath := { s1.sealPath with poison := s1.sealPath.poison.filter (fun x => x % 2 ^ 36 < l || l + 0x10000 ≤ x % 2 ^ 36) } }

/-- What a job's computation gives. -/
inductive PkeRes
  | done (out : Bytes) (code : Nat)
  | invalid (pos : Nat)
  | rejected
deriving DecidableEq, Repr

/-- A number that a check of R446 refuses: 0, or not below its modulus. -/
def outOf (v m : Nat) : Bool := v == 0 || decide (m ≤ v)

/-- The position of the first offending operand: pairs of position and whether it offends. -/
def firstBad (l : List (Nat × Bool)) : Option Nat := (l.find? (·.2)).map (·.1)

/-- Give the result unless an operand offends. -/
def checkedRes (l : List (Nat × Bool)) (r : PkeRes) : PkeRes :=
  match firstBad l with
  | some p => .invalid p
  | none => r

/-- A random number from 1 to n - 1. -/
def randBelow (n : Nat) (s : State) : Nat × State :=
  let d := draw 72 s
  (beNat d.1 % (n - 1) + 1, d.2)

/-- A point's coordinates as output. -/
def pointOut (w : Nat) (p : Point) : Bytes :=
  match p with
  | some (x, y) => beBytes w x ++ beBytes w y
  | none => zeros (2 * w)

/-- Operand `i` (from 0) of a job. -/
def opVal (j : PkeJob) (i : Nat) : Nat := beAt j.ops (0x40 + i * opW j.len) (opW j.len)

/-- The checks of a point in operands `i` and `i + 1`. -/
def pointBad (c : Curve) (j : PkeJob) (i : Nat) : List (Nat × Bool) :=
  [(i + 1, outOf (opVal j i) c.p), (i + 2, outOf (opVal j (i + 1)) c.p), (i + 1, !onCurve c (opVal j i) (opVal j (i + 1)))]

/-- Operations on a short-Weierstrass curve. -/
def pkeCurve (j : PkeJob) (c : Curve) (s : State) : PkeRes × State :=
  let w := opW j.len
  let v := opVal j
  match j.op with
  | 1 =>
    let k := randBelow c.n s
    let r := ecdsaSign c (v 0) (v 1) k.1
    (checkedRes [(1, outOf (v 0) c.n)] (.done (beBytes w r.1 ++ beBytes w r.2) 0), k.2)
  | 2 =>
    let bad := pointBad c j 0 ++ [(4, outOf (v 3) c.n), (5, outOf (v 4) c.n)]
    (checkedRes bad (.done [] (if ecdsaOk c (v 0) (v 1) (v 2) (v 3) (v 4) then 1 else 2)), s)
  | 3 =>
    let z := ecMul c (v 0) (some (v 1, v 2))
    (checkedRes ((1, outOf (v 0) c.n) :: pointBad c j 1 ++ [(2, z.isNone)]) (.done ((pointOut w z).take w) 0), s)
  | _ =>
    let d := randBelow c.n (reseed s)
    (.done (beBytes w d.1 ++ pointOut w (ecMul c d.1 c.base)) 0, d.2)

/-- Operations on Curve25519 and Ed25519. DESIGN CHOICE, unsafe (log entry 77). -/
def pkeEdwards (j : PkeJob) : PkeRes :=
  let msg := slice j.ops (0x40 + (if j.op = 6 then 32 else 96)) j.mlen
  match j.op with
  | 5 =>
    let z := x25519 (opVal j 0) (opVal j 1)
    checkedRes [(1, opVal j 0 == 0), (2, outOf (opVal j 1) q25519), (2, z == 0)] (.done (beBytes 32 z) 0)
  | 6 => .done (edSign (slice j.ops 0x40 32) msg) 0
  | _ =>
    let pub := slice j.ops 0x40 32
    let sig := slice j.ops 0x60 64
    checkedRes [(1, (edDec pub).isNone), (2, (edDec (sig.take 32)).isNone), (2, outOf (leNat (sig.drop 32)) edL)]
      (.done [] (if edVerify pub sig msg then 1 else 2))

/-- Whether an RSA modulus is even or not of LEN bits. -/
def modulusBad (n len : Nat) : Bool := n % 2 == 0 || decide (n < 2 ^ (len - 1)) || decide (2 ^ len ≤ n)

/-- RSA. -/
def pkeRsa (j : PkeJob) : PkeRes :=
  let w := opW j.len
  let v := opVal j
  if j.op = 8 then
    checkedRes [(1, modulusBad (v 0) j.len), (2, outOf (v 1) (v 0)), (3, outOf (v 2) (v 0))] (.done (beBytes w (powMod (v 2) (v 1) (v 0))) 0)
  else
    let n := v 0 * v 1
    checkedRes ((1, v 0 == 0 || v 1 != 0 && modulusBad n j.len) :: (List.range 6).map (fun i => (i + 1, outOf (v i) n)))
      (.done (beBytes w (rsaCrt (v 0) (v 1) (v 2) (v 3) (v 4) (v 5))) 0)

/-- LOAD_CURVE (R444). DESIGN CHOICE, safe (log entry 10). -/
def pkeLoad (j : PkeJob) (s : State) : PkeRes × State :=
  let v := opVal j
  let c : Curve := { p := v 0, a := v 1, b := v 2, gx := v 3, gy := v 4, n := v 5, h := v 6 }
  let wit := fun (i : Nat) => beNat ((List.range 66).map (fun k => Config.rnd (s.rng.pos + 66 * i + k)))
  let s1 := { s with rng := { s.rng with pos := s.rng.pos + 66 * 64 } }
  if curveOk c wit then (.done [] 0, { s1 with pke := { s1.pke with curves := spSet none s1.pke.curves (j.curve - 8) (some c) } })
  else (.rejected, s1)

/-- The attestation key's signature over a report's first 0xC0 bytes (R454). -/
def pkeAttest (head : Bytes) (s : State) : PkeRes × State :=
  let k := randBelow p384.n s
  let r := ecdsaSign p384 dAtt (beNat (sha384 head)) k.1
  (.done (head ++ beBytes 48 r.1 ++ beBytes 48 r.2) 0, k.2)

/-- A job's computation (R443, R446). DESIGN CHOICE, unsafe (log entry 77). -/
def pkeCompute (j : PkeJob) (s : State) : PkeRes × State :=
  match j.attest with
  | some (_, head) => pkeAttest head s
  | none =>
    if j.op = 0 then (.done [] 0, zeroArea j.area s)
    else if j.op = 10 then pkeLoad j s
    else if j.op = 8 || j.op = 9 then (pkeRsa j, s)
    else if j.curve = 4 then (pkeEdwards j, s)
    else match curveOf s j.curve with
      | some c => pkeCurve j c s
      | none => (.invalid 0, s)

/-- Whether a job draws from the DRBG: the signature's k or a new key (R443, R454).
DEDUCED, unsafe (log entry 78). -/
def needsDrbg (j : PkeJob) : Bool := j.attest.isSome || j.op == 1 || j.op == 4

/-- The times of R445 in microseconds; 0 for LOAD_CURVE. DESIGN CHOICE, unsafe (log entry 77). -/
def pkeTime (s : State) (j : PkeJob) : Nat :=
  let n := match curveOf s j.curve with
    | some c => if 8 ≤ j.curve then Nat.log2 c.p + 1 else j.len
    | none => j.len
  let by3 := fun (a b c : Nat) => if n ≤ 256 then a else if n ≤ 384 then b else c
  let byR := fun (a b c : Nat) => if j.len ≤ 2048 then a else if j.len ≤ 3072 then b else c
  if j.attest.isSome then 400
  else match j.op with
    | 0 => 20
    | 1 => by3 180 400 900
    | 2 => by3 360 800 1800
    | 3 => by3 170 380 860
    | 4 => by3 170 380 860
    | 5 => 120
    | 6 => 130 + cdiv j.mlen 128
    | 7 => 260 + cdiv j.mlen 128
    | 8 => byR 60 120 200
    | 9 => byR 2400 7800 18000
    | _ => 0

/-- PKE_LAST_CLK of a job. DESIGN CHOICE, safe (log entry 12). -/
def pkeClocks (s : State) (j : PkeJob) : Nat :=
  if j.op = 10 && j.attest.isNone then min 64000000 (Config.loadCurveClk s.time.cyc) else pkeTime s j * 1600

/-- Whether a job is itself a host order: ATTEST's is Tircy's own (R422, R454). -/
def hostJob (j : PkeJob) : Bool := j.ord.isSome && j.attest.isNone

/-- TAG of a job's record: its order's, or 0 (R422). -/
def jobTag (s : State) (j : PkeJob) : Word :=
  match j.ord with
  | some i => if hostJob j then ((s.ords.outs.find? (fun o => o.id == i)).map (·.tag)).getD 0 else 0
  | none => 0

/-- The record of a job that fails (R448, R450). -/
def jobRecord (j : PkeJob) (reason : Nat) (st : Status) (s : State) : State :=
  fail (ordErr s 3 reason (jobTag s j) 0x48 st.code) s

/-- A job ends with ABORTED (R448): the area is zeroed and the record written; the order's own end follows. -/
def pkeKill (reason : Nat) (s : State) (j : PkeJob) : State :=
  jobRecord j reason .aborted (zeroArea j.area (event (pg .pke) 2 (bump (pg .pke) 0x218 1 s)))

/-- The same with the completion: a host job's record is the record of R417. -/
def pkeAbortJob (reason : Nat) (s : State) (j : PkeJob) : State :=
  if hostJob j then endOpt j.ord .aborted 0x12 (pkeKill reason s j) else abortOpt j.ord reason (pkeKill reason s j)

/-- Jobs that satisfy a condition are aborted, in queue order. -/
def pkeAbortIf (p : PkeJob → Bool) (reason : Nat) (s : State) : State :=
  let s1 := { s with pke := { s.pke with jobs := s.pke.jobs.filter (fun j => !p j) } }
  (s.pke.jobs.filter p).foldl (pkeAbortJob reason) s1

/-- PKE_ABORT. -/
def pkeAbortCmd (m : Master) (area : Nat) (s : State) : State :=
  let a := ra (pg .pke) 0x104
  if m == .host && decide (8 ≤ area) then regErr m a 0x06 s else pkeAbortIf (fun j => j.area == area) 0xA1 s

/-- Where a job's result goes beside its area: its BAR2 offset, if it has one. -/
def jobOut (j : PkeJob) : Option Nat :=
  match j.attest with
  | some (o, _) => some o
  | none => if j.ord.isSome then some j.out else none

/-- Write a result (or zeros in its place) into the area and to OUT: whether both went through.
DESIGN CHOICE, unsafe (log entry 77). -/
def pkeOutput (j : PkeJob) (out : Bytes) (s : State) : Bool × State :=
  if out.isEmpty then (true, s)
  else
    let a := if j.attest.isSome then (true, s) else dmaWrite .pke (areaAddr j.area + 0x1000) out s
    match jobOut j with
    | some o =>
      let b := writeBar2 (.tircy 0) o out a.2
      (a.1 && b.1, b.2)
    | none => a

/-- The number of bytes an ended job's output is zeroed over. -/
def outZeros (j : PkeJob) : Bytes := zeros (if j.attest.isSome then 288 else outBytes j.op j.len)

/-- DETAIL of a job's completion; ATTEST has none (R416). DEDUCED, unsafe (log entry 79). -/
def jobDetail (j : PkeJob) (n : Nat) : Word := if j.attest.isSome then 0 else wd n

/-- The result of the running job (R446, R447); with the RNG in FAULT a job that needs the DRBG ends with FAULT (R452).
DEDUCED, unsafe (log entry 78). -/
def pkeResult (j : PkeJob) (deviceFault : Bool) (s : State) : State :=
  if deviceFault then
    let s1 := (pkeOutput j (outZeros j) s).2
    let s2 := declareAlarm 12 (event (pg .pke) 1 (bump (pg .pke) 0x210 1 s1))
    let s3 := if hostJob j then s2 else jobRecord j 0xA0 .fault s2
    endOpt j.ord .fault (jobDetail j 0x11) s3
  else if needsDrbg j && s.rng.st == 2 then
    endOpt j.ord .fault (jobDetail j 0x11) (if hostJob j then s else jobRecord j 0xA0 .fault s)
  else
    let r := pkeCompute j s
    match r.1 with
    | .done out code =>
      let w := pkeOutput j out r.2
      if w.1 then endOpt j.ord .ok (jobDetail j code) w.2
      else endOpt j.ord .fault (jobDetail j 0x14) (if hostJob j then w.2 else jobRecord j 0xA0 .fault w.2)
    | .invalid p =>
      let s1 := bump (pg .pke) 0x208 1 (pkeOutput j (outZeros j) r.2).2
      endOpt j.ord .arg (jobDetail j (0x10 + 256 * p)) s1
    | .rejected => endOpt j.ord .arg (jobDetail j 0x13) r.2

/-- PKE_JOB_DONE: the job at the head of the queue has run (R443-R450). -/
def pkeDone (deviceFault : Bool) (s : State) : State :=
  match s.pke.jobs with
  | [] => s
  | j :: r =>
    let s0 := { s with pke := { s.pke with jobs := r, lastClk := pkeClocks s j } }
    let s1 := event (pg .pke) 0 (bump (pg .pke) 0x200 1 s0)
    if j.attest.isSome then pkeResult j deviceFault s1
    else
      let w := sealWrite (.tircy 0) (areaAddr j.area) j.ops s1
      let x := if w.1 then dmaRead .pke (areaAddr j.area) j.ops.length w.2 else (none, w.2)
      match x.1 with
      | some _ => pkeResult j deviceFault x.2
      | none =>
        let s2 := zeroArea j.area x.2
        endOpt j.ord .fault (jobDetail j 0x14) (if hostJob j then s2 else jobRecord j 0xA0 .fault s2)

/-! ### Attestation (R454) -/

/-- The signed part of a report. DEDUCED, unsafe (log entry 79). -/
def attestHead (s : State) (ch : Bytes) : Bytes :=
  let slot := s.fwu.slots.getD s.fwu.running ImgSlot.none
  let owner := match s.keys.owner with
    | some k => sha384 k
    | none => zeros 48
  leBytes 4 (0x01000000 + s.dev.mode.code) ++ leBytes 4 0x0D320001 ++ leBytes 8 devId ++ leBytes 4 (now s).toNat ++
    leBytes 4 (kekState s + 256 * b2n s.keys.owner.isSome + 512 * b2n s.keys.debugOn) ++ leBytes 8 slot.version ++
    leBytes 8 slot.arb ++ zeros 24 ++ owner ++ slice ch 0 32 ++ zeros 48

/-- ATTEST: the report is formed and its signature queued in area 15. DEDUCED, unsafe (log entry 79). -/
def attestReq (ord ch rep : Nat) (s : State) : State :=
  withBlock ord ch 32 (fun b s =>
    pkeEnqueue { ord := some ord, area := 15, op := 1, curve := 2, len := 384, out := rep, mlen := 0, ops := [],
                 attest := some (rep, attestHead s b) } s) s

/-! ### TRNG and DRBG -/

/-- DRBG_RESEED: due after 2^20 requests or 8,000 ticks (R451). -/
def drbgDue (s : State) : State :=
  if s.rng.st = 1 && (decide (2 ^ 20 ≤ s.rng.reqs) || decide (8000 ≤ tdiff (now s) s.rng.seedTick)) then reseed s else s

/-- The RNG goes to FAULT (R452). -/
def rngFault (s : State) : State := setFault (pg .rng) { s with rng := { s.rng with st := 2 } }

/-- RNG_HEALTH_WINDOW: a window passes, or fails one or both health tests (R452). -/
def rngWindow (rct apt : Bool) (s : State) : State :=
  if s.rng.st = 0 || modeIn [.lunar, .reset] s then s
  else if !rct && !apt then { s with rng := { s.rng with failed := 0 } }
  else
    let s1 := bump (pg .rng) 0x208 (b2n apt) (bump (pg .rng) 0x200 (b2n rct) s)
    let s2 := event (pg .rng) 0 { s1 with rng := { s1.rng with failed := s1.rng.failed + 1 } }
    if s2.rng.failed = 3 && s2.rng.st = 1 then rngFault s2 else s2

/-- RNG_REQ.GO fills the writer's set (R453); in FAULT no request is served.
DEDUCED, unsafe (log entry 78). -/
def rngFill (m : Master) (s : State) : State :=
  if s.rng.st != 1 then s
  else
    let d := draw 64 s
    let k := mSet m
    { d.2 with rng := { d.2.rng with out := d.2.rng.out.set k (bytesToWords 16 d.1), ready := d.2.rng.ready.set k true } }

/-- RNG_RESEED.GO. -/
def rngReseedCmd (s : State) : State := if s.rng.st = 1 then reseed s else s

/-- The mask generators of both directions at a tick boundary (R199, R452). -/
def maskReseed (s : State) : State :=
  if s.rng.st = 1 then (draw 16 (draw 16 s).2).2
  else if s.rng.st = 2 then bump (pg .rng) 0x220 2 s
  else s

end Sys2Proof.Machine
end

