-- ==== Sys2Proof/Machine/Firmware.lean ====
section
/-! DEFINITION. Firmware images and their activation (R456-R460), agents (R455), reading the event log (R462), health and
scrubbing (R463, R464), sample records (R466), SMBus (R467) and the test access port (R487, R488). -/

namespace Sys2Proof.Machine

/-! ### Images -/

def imgSlot (s : State) (n : Nat) : ImgSlot := s.fwu.slots.getD n ImgSlot.none

/-- The greatest image body (R456). -/
def imgMax : Nat := 64 * 2 ^ 20 - 512

/-- Whether an image of `len` body bytes verifies under R456. DESIGN CHOICE, safe (log entry 80). -/
def imageOk (s : State) (len : Nat) (b : Bytes) : Bool :=
  let hdr := b.take 512
  beAt hdr 0 4 == 0x504D4E46 && beAt hdr 4 4 == 1 && beAt hdr 0x18 8 == len && decide (len ≤ imgMax) &&
  slice hdr 0x40 48 == sha384 (slice b 512 len) &&
  ecdsaOk p384 Config.fwKeyX Config.fwKeyY (beNat (sha384 (hdr.take 256))) (beAt hdr 0x100 48) (beAt hdr 0x130 48) &&
  decide (s.fwu.arbCtr ≤ beAt hdr 0x10 8)

/-- Whether a firmware operation is in progress. -/
def fwBusy (s : State) : Bool := s.fwu.stage.isSome || s.fwu.act.isSome

/-- FW_STAGE (R458): `slot` may not be the one the device runs, and in BOOT must have failed verification.
DESIGN CHOICE, safe (log entry 80). -/
def fwStage (ord image len slot : Nat) (s : State) : State :=
  let wrong := if s.dev.mode = .boot then (imgSlot s slot).ok else slot == s.fwu.running
  if wrong || decide (imgMax < len) then endOrder ord .arg 0 s
  else if fwBusy s then endOrder ord .busy 0 s
  else withBlock ord image (len + 512) (fun b s =>
    if !imageOk s len b then endOrder ord .auth 0 s
    else
      let x : ImgSlot := { ok := true, version := beAt b 8 8, arb := beAt b 0x10 8, body := slice b 512 len }
      { s with fwu := { s.fwu with phase := 1, stage := some (ord, slot, x) } }) s

/-- FW_STAGE_DONE: the read-back verifies or not. DESIGN CHOICE, safe (log entry 80). -/
def fwStaged (ok : Bool) (s : State) : State :=
  match s.fwu.stage with
  | none => s
  | some (ord, slot, x) =>
    let y := if ok then x else { x with ok := false }
    let s1 := { s with fwu := { s.fwu with phase := 0, stage := none, slots := s.fwu.slots.set slot y },
                       dev := { s.dev with bootWait := s.dev.bootWait && !ok } }
    endOrder ord (if ok then .ok else .fault) 0 (event (pg .fwu) 0 (bump (pg .fwu) 0x200 1 s1))

/-- FW_ACTIVATE (R459): the body goes into the firmware working image region, and the agents follow one by one.
DESIGN CHOICE, unsafe (log entry 81). -/
def fwActivate (ord slot : Nat) (s : State) : State :=
  if slot = s.fwu.running || !(imgSlot s slot).ok then endOrder ord .arg 0 s
  else if fwBusy s then endOrder ord .busy 0 s
  else
    let w := sealWrite .loader 0 (imgSlot s slot).body s
    if w.1 then { w.2 with fwu := { w.2.fwu with phase := 2, agent := 0, act := some (ord, slot) } } else endOrder ord .fault 0 w.2

/-- An agent is restarted on an image: HLT shows it, and a UCU lock it holds is released (R442).
DESIGN CHOICE, unsafe (log entry 81). -/
def fwRestart (core : Nat) (s : State) : State := event (pg .hlt) 2 (bump (pg .hlt) 0x210 1 (ucuAgent core s))

/-- Activation ends on the new image: the counter is raised, and an image below it stops verifying (R457, R459). -/
def fwActivated (ord slot : Nat) (s : State) : State :=
  let x := imgSlot s slot
  let ctr := max s.fwu.arbCtr x.arb
  let other := imgSlot s (1 - slot)
  let slots := s.fwu.slots.set (1 - slot) { other with ok := other.ok && decide (ctr ≤ other.arb) }
  let s1 := { s with fwu := { s.fwu with phase := 0, agent := 0, act := none, running := slot, arbCtr := ctr, slots := slots } }
  endOrder ord .ok 0 (event (pg .fwu) 1 (bump (pg .fwu) 0x208 1 (logEvent 0x0B [wd slot, wd x.version, wd (x.version / 2 ^ 32)] s1)))

/-- Activation is rolled back: every agent moved already is restarted on the running image (R460).
DESIGN CHOICE, unsafe (log entry 81). -/
def fwRollback (ord slot k : Nat) (s : State) : State :=
  let s1 := (List.range (k + 1)).foldl (fun s a => fwRestart ((s.hlt.agents[a]?.map (·.first)).getD 0) s) s
  let s2 := { s1 with fwu := { s1.fwu with phase := 0, agent := 0, act := none } }
  let s3 := event (pg .fwu) 2 (event (pg .fwu) 1 (bump (pg .fwu) 0x210 1 (logEvent 0x0B [wd (2 ^ 31 + slot), wd k] s2)))
  endOrder ord .fault 0 s3

/-- FW_AGENT_RESTARTED: the agent on `core` answers its first poll or not; agents come in order 0 to 7, then Tircy, whose
answer ends the activation. DESIGN CHOICE, unsafe (log entry 81). -/
def fwAgentRestartedAt (core : Nat) (answered : Bool) (s : State) : State :=
  match s.fwu.act with
  | none => s
  | some (ord, slot) =>
    if s.fwu.phase = 4 then (if core < 4 && answered then fwActivated ord slot s else s)
    else
      let k := s.fwu.agent
      if agentOf s core != some k then s
      else if !answered then fwRollback ord slot k s
      else
        let s1 := fwRestart core s
        if k = 7 then { s1 with fwu := { s1.fwu with phase := 4 } } else { s1 with fwu := { s1.fwu with phase := 3, agent := k + 1 } }

/-- AGENT_RESTART: an agent has not answered for 8 ticks (R455). -/
def agentSilent (core : Nat) (s : State) : State :=
  if modeIn [.lunar, .reset] s || (agentOf s core).isNone then s else stopAgent core [wd (2 ^ 31 + core)] s

/-! ### LOG_READ (R462) -/

/-- An entry as its 96 bytes. DESIGN CHOICE, unsafe (log entry 83). -/
def logBytes (e : LogEntry) : Bytes :=
  leBytes 4 e.num ++ leBytes 4 e.tick.toNat ++ leBytes 4 e.sec.toNat ++ leBytes 4 e.type ++ slice (wordsToBytes e.data) 0 80

/-- The oldest entry number held. -/
def logOldest (s : State) : Nat :=
  match s.log.entries with
  | e :: _ => e.num
  | [] => s.log.next

/-- The entries a LOG_READ copies, and the number of the first. DESIGN CHOICE, unsafe (log entry 83). -/
def logSelect (s : State) (first count : Nat) : Nat × List LogEntry :=
  let old := logOldest s
  let start := if tdiff (wd first) (wd old) < 2 ^ 31 then first else old
  (start, (s.log.entries.drop (tdiff (wd start) (wd old))).take count)

/-- LOG_READ. -/
def logRead (ord first count off : Nat) (s : State) : State :=
  if count = 0 || 16384 < count || !inBar2 off (96 * count) then endOrder ord .arg 0 s
  else
    let x := logSelect s first count
    match writeBar2 (.tircy 0) off (x.2.flatMap logBytes) s with
    | (true, s1) => endOrder ord .ok (wd x.1) { s1 with log := { s1.log with copied := x.2.length } }
    | (false, s1) => endOrder ord .fault 0 s1

/-! ### Health (R463) -/

/-- The range of each supply's nominal value in mV, in the order of R463. -/
def supplyNominal (n : Nat) : Nat × Nat :=
  [(750, 750), (800, 800), (900, 900), (1200, 1200), (900, 900), (750, 750), (500, 500), (1800, 1800), (1800, 1800),
   (2500, 3600)].getD n (0, 0)

/-- Whether a sample lies outside a limit, drawn in by `margin` of its unit: monitors 0-7 are temperatures in 1/16 degree,
8-17 supplies in mV, 18-23 clocks in ppm. DEDUCED, unsafe (log entry 71). -/
def outsideLimit (s : State) (n : Nat) (crit : Bool) (margin : Bool) (v : Int) : Bool :=
  let m := b2n margin
  if n < 8 then
    let t := regFld s (ra (pg .hlt) 0x180) (if crit then 15 else 7) (if crit then 8 else 0)
    decide (((t : Int) - 2 * m) * 16 < v)
  else if n < 18 then
    let r := supplyNominal (n - 8)
    let p := (if crit then 5 else 3) - m
    decide (v * 100 < r.1 * (100 - p)) || decide (((r.2 * (100 + p) : Nat) : Int) < v * 100)
  else decide ((if crit then 200 else 100) - 50 * m < v.natAbs)

/-- One limit after a sample: whether it stands crossed, and its consecutive clear samples. -/
def limitStep (s : State) (n : Nat) (crit on : Bool) (clear : Nat) (v : Int) : Bool × Nat :=
  if outsideLimit s n crit false v then (true, 0)
  else if !on then (false, 0)
  else if outsideLimit s n crit true v then (true, 0)
  else if 16 ≤ clear + 1 then (false, 0) else (true, clear + 1)

/-- A limit crossed or cleared enters the log and raises LIMIT. -/
def limitNote (n : Nat) (crit was is : Bool) (s : State) : State :=
  if was = is then s else event (pg .hlt) 0 (logEvent 0x0C [wd n, wd (b2n crit), wd (b2n is)] s)

/-- A sample of VBAT shows the Lunar domain's own comparators: 2.5 V for VBAT_OK (R463, R479), and 2.2 V for a cell that is back.
DEDUCED, unsafe (log entry 71). -/
def vbatSample (n : Nat) (v : Int) (s : State) : State :=
  if n = 17 then { s with dev := { s.dev with vbatOk := decide (2500 ≤ v), vbat := s.dev.vbat || decide (2200 ≤ v) } } else s

/-- HEALTH_SAMPLE: one sample, a 32-bit two's complement number. -/
def healthIn (n value : Nat) (s : State) : State :=
  if 24 ≤ n || !s.dev.supply then s
  else
    let v := signed 32 value
    let x := s.hlt.mons.getD n Monitor.init
    let w := limitStep s n false x.warn x.warnClear v
    let c := limitStep s n true x.crit x.critClear v
    let y : Monitor := { value := v, warn := w.1, crit := c.1, warnClear := w.2, critClear := c.2 }
    let s1 := { s with hlt := { s.hlt with mons := s.hlt.mons.set n y } }
    let s2 := vbatSample n v { s1 with dev := { s1.dev with health := s1.hlt.mons.any (fun m => m.crit) } }
    limitNote n true x.crit c.1 (limitNote n false x.warn w.1 s2)

/-! ### Scrubbing (R464) -/

/-- A table entry lost to an error is invalidated, counted in CORRUPT and recorded (R139).
DESIGN CHOICE, unsafe (log entry 85). -/
def corruptEntry (i : Nat) (s : State) : State := event (pg .swp) 2 (misRecord 4 i (bump (pg .swp) 0x218 1 s))

/-- An error in the ledger entry of an SA: corrected, or the SA goes to FAULT from the next boundary (R149).
DESIGN CHOICE, safe (log entry 45). -/
def ledgerError (i : Nat) (correctable : Bool) (s : State) : State :=
  if correctable then bump (pg .seq) 0x208 1 s
  else pendSa i .fault (event (pg .seq) 0 (bump (pg .seq) 0x210 1 s))

/-- An uncorrectable error outside the Orbit store and the tables: HLT faults, and it is counted (R464).
DESIGN CHOICE, unsafe (log entry 85). -/
def scrubBad (s : State) : State := bump (pg .hlt) 0x220 1 (setFault (pg .hlt) s)

/-- SCRUB: place 0 is an Orbit slot, 1 a Gazetteer slot, 2 a Contour position, 3 a frame in the buffers, 4 the ledger entry of
an SA (R149), 5 other SRAM. DESIGN CHOICE: the ledger's errors reach the model by this command, the log says why.
DESIGN CHOICE, safe (log entry 45). DESIGN CHOICE, unsafe (log entry 85). -/
def scrubAt (place idx : Nat) (correctable : Bool) (s : State) : State :=
  if modeIn [.lunar, .reset] s then s
  else if place = 4 then ledgerError idx correctable s
  else if correctable then bump (pg .hlt) 0x218 1 s
  else match place with
    | 0 =>
      (match (residents s).find? (fun i => (saOf s i).slot == idx) with
       | some i => fillFail i s
       | none => s)
    | 1 => corruptEntry idx { s with gaz := { s.gaz with work := slotSet s.gaz.work idx none } }
    | 2 => corruptEntry idx { s with con := { s.con with work := s.con.work.eraseIdx idx } }
    | 3 =>
      (match frameOf s idx with
       | some f => if frameHolds f then endBad f 0x21 0 (scrubBad s) else scrubBad s
       | none => scrubBad s)
    | _ => scrubBad s

/-! ### Sample records (R466) -/

/-- SAMPLE_RECORD: the record of the oldest tagged frame that has ended. -/
def sampleOut (s : State) : State :=
  match s.smp.wait with
  | [] => s
  | r :: rest =>
    let s1 := { s with smp := { s.smp with wait := rest } }
    let lost := fun s => event (pg .smp) 1 (bump (pg .smp) 0x208 1 s)
    if 4096 ≤ tdiff s.smp.prod s.smp.cons then lost s1
    else
      let words := (List.range 15).map (fun k => r.words.getD k 0) ++ [s.smp.prod]
      let off := (getReg s (ra (pg .smp) 0x104)).toNat + s.smp.prod.toNat % 4096 * 64
      match writeBar2 .record off (wordsToBytes words) s1 with
      | (true, s2) => bump (pg .smp) 0x200 1 { s2 with smp := { s2.smp with prod := s2.smp.prod + 1 } }
      | (false, s2) => lost s2

/-- SMP_CTRL.EN: a change from 0 to 1 starts the ring afresh. -/
def smpEn (en : Bool) (s : State) : State :=
  let a := ra (pg .smp) 0x100
  let was := bit (getReg s a) 31
  let s1 := setReg s a (setBit 0 31 en)
  if en && !was then { s1 with smp := { s1.smp with prod := 0, cons := 0 } } else s1

/-- SMP_CONS: passing SMP_PROD is a RANGE error. -/
def smpConsWrite (m : Master) (v : Word) (s : State) : State :=
  let a := ra (pg .smp) 0x10C
  if tdiff s.smp.prod s.smp.cons < tdiff v s.smp.cons then regErr m a 0x06 s else { s with smp := { s.smp with cons := v } }

/-! ### SMBus (R467) -/

/-- HLT_STAT. -/
def hltStat (s : State) : Nat :=
  let clk := (List.range 6).foldl (fun a i => a + b2n (s.hlt.mons.getD (18 + i) Monitor.init).warn * 2 ^ i) 0
  b2n s.hlt.agentMoved * 2 ^ 31 + b2n (s.hlt.mons.any (fun m => m.crit)) * 2 ^ 16 + clk * 2 ^ 8

/-- The value of monitor `n`. -/
def monValue (s : State) (n : Nat) : Int := (s.hlt.mons.getD n Monitor.init).value

/-- What a command reads. DEDUCED, unsafe (log entry 84). -/
def smbusData (s : State) (cmd : Nat) : Bytes :=
  let part := leBytes 2 0x0D32
  let mode := leBytes 1 s.dev.mode.code
  let fault := leBytes 1 (sysFault s)
  let stat := leBytes 2 (hltStat s)
  if cmd = 0 then part
  else if cmd = 1 then mode
  else if cmd = 2 then fault
  else if cmd = 3 then stat
  else if 0x10 ≤ cmd && cmd < 0x18 then leBytes 2 (twos 16 (monValue s (cmd - 0x10)))
  else if 0x20 ≤ cmd && cmd < 0x2A then leBytes 2 (twos 16 (monValue s (cmd - 0x18)))
  else if cmd = 0x30 then leBytes 2 (now s).toNat
  else if cmd = 0x40 then
    let top := (List.range 8).foldl (fun a i => max a (monValue s i)) (monValue s 0)
    by8 32 :: slice (part ++ mode ++ fault ++ stat ++ leBytes 2 (twos 16 top) ++ leBytes 8 (imgSlot s s.fwu.running).version ++
      leBytes 8 devId) 0 32
  else [0xFF]

/-- SMBUS_READ and SMBUS_WRITE; the target answers while the main supplies are valid and PORST_N is high.
DEDUCED, unsafe (log entry 84). -/
def smbusUp (s : State) : Bool := s.dev.supply && s.dev.porst
def smbusReadAt (cmd : Nat) (s : State) : State := if smbusUp s then emit (.smbus (smbusData s cmd)) s else s
def smbusWriteAt (s : State) : State := if smbusUp s then emit .nack (bump (pg .hlt) 0x228 1 s) else s

/-! ### The test access port -/

/-- An instruction is loaded: those that take the balls act only while PORST_N is low, otherwise as BYPASS (R488). The
register selected answers. DESIGN CHOICE, safe (log entry 87). -/
def tapLoad (op : Nat) (s : State) : State :=
  if !s.dev.supply then s
  else
    let balls := op == 0x00 || op == 0x03 || op == 0x04 || op == 0x05 || op == 0x06
    let ir := if (balls && s.dev.porst) || !([0x00, 0x01, 0x02, 0x03, 0x04, 0x05, 0x06, 0x20].contains op) then 0xFF else op
    emit (.tap ir) { s with tap := { ir := ir, preload := s.tap.preload || ir == 0x02 } }

/-- IDCODE answers with the identity of stepping 1. DESIGN CHOICE, safe (log entry 87). -/
def tapId (s : State) : State := if s.dev.supply then emit (.data (leBytes 4 0x10D3258B)) (tapLoad 0x01 s) else s

end Sys2Proof.Machine
end

