-- ==== Sys2Proof/Machine/Errata.lean ====
section
/-! DEFINITION. The Errata ring (R420-R428): records, overflow summaries and their writing, and the reset entry of the event
log that takes the summaries (R52, R428). -/

namespace Sys2Proof.Machine

/-- A record's eight words (R421). -/
def recWords (r : ErrRec) (sum serial count : Nat) : List Word :=
  let w1 := r.kind * 2 ^ 28 + sum * 2 ^ 26 + r.dir * 2 ^ 25 + b2n r.consumed * 2 ^ 24 + r.reason * 2 ^ 16 + r.port * 2 ^ 12 + r.cls * 2 ^ 10
  [r.tick, wd w1, wd (r.aux * 2 ^ 21 + r.sa), wd r.len, wd r.ident, wd (r.ident / 2 ^ 32), wd serial, wd count]

/-- The summary of a reason. -/
def sumOf (s : State) (reason : Nat) : Summary := spGet { count := 0, first := none, last := none } s.era.sums reason
def setSum (reason : Nat) (x : Summary) (s : State) : State :=
  { s with era := { s.era with sums := spSet { count := 0, first := none, last := none } s.era.sums reason x } }

/-- A failure has received its account: ERA_ENDED of its kind (R427). -/
def ended (r : ErrRec) (s : State) : State := if r.kind < 4 then bump (pg .era) (0x200 + 8 * r.kind) 1 s else s

/-- A failure enters the summary of its reason (R424). -/
def summarise (r : ErrRec) (s : State) : State :=
  let x := sumOf s r.reason
  bump (pg .era) 0x228 1 (setSum r.reason { count := min 0xFFFFFFFF (x.count + 1), first := some (x.first.getD r), last := some r } s)

def eraEn (s : State) : Bool := bit (getReg s (ra (pg .era) 0x100)) 31

/-- Records the ring holds. -/
def eraHeld (s : State) : Nat := tdiff s.era.prod s.era.cons

/-- A write of one record at ERA_PROD: it advances unless the write fails (R426). -/
def eraPut (r : ErrRec) (sum count : Nat) (s : State) : Bool × State :=
  let off := (getReg s (ra (pg .era) 0x104)).toNat + s.era.prod.toNat % 65536 * 32
  match writeBar2 .record off (wordsToBytes (recWords r sum s.era.prod.toNat count)) s with
  | (true, s1) => (true, bump (pg .era) 0x220 1 { s1 with era := { s1.era with prod := s1.era.prod + 1 } })
  | (false, s1) => (false, event (pg .era) 2 (bump (pg .era) 0x238 1 s1))

/-- One failure is recorded: in the ring, or in its summary (R424, R426). -/
def recordOne (r : ErrRec) (s : State) : State :=
  let s1 := ended r s
  if !eraEn s1 || !s1.era.sums.isEmpty || 65536 ≤ eraHeld s1 then summarise r s1
  else
    let w := eraPut r 0 1 s1
    if w.1 then w.2 else summarise r w.2

/-- While a root change of ZEROIZED runs, no record is written (R419).
DESIGN CHOICE, unsafe (log entry 21). -/
def ringsHeld (s : State) : Bool := s.dev.mode == .zeroized && s.sealPath.changing

/-- ERRATA_RECORD: the oldest failure without a record. -/
def errataOut (s : State) : State :=
  match s.era.wait with
  | [] => s
  | r :: rest => if ringsHeld s then s else recordOne r { s with era := { s.era with wait := rest } }

/-- One summary is written as its pair of records (R425); it stays when a write fails.
DESIGN CHOICE, unsafe (log entry 86). -/
def flushOne (s : State) (reason : Nat) : State :=
  let x := sumOf s reason
  match x.first, x.last with
  | some f, some l =>
    let a := eraPut f 1 x.count s
    if !a.1 then a.2
    else
      let b := eraPut l 2 x.count a.2
      if b.1 then bump (pg .era) 0x230 1 (setSum reason { count := 0, first := none, last := none } b.2) else b.2
  | _, _ => s

/-- SUMMARY_FLUSH (R425). -/
def summaryOut (s : State) : State :=
  if eraEn s && !s.era.sums.isEmpty && decide (eraHeld s + 1024 ≤ 65536) && !ringsHeld s then
    (s.era.sums.map (·.1)).foldl flushOne s
  else s

/-! ### The reset entry (R52, R428, R461) -/

/-- What a CONTINUATION entry holds of a summary: its first and last records. -/
def continuation (x : Summary) : List Word :=
  match x.first, x.last with
  | some f, some l => recWords f 1 0 x.count ++ recWords l 2 0 x.count
  | _, _ => []

/-- Frames of a direction, orders, bundles and PKE jobs in flight. DEDUCED, unsafe (log entry 24). -/
def inFlightCounts (s : State) : List Nat :=
  let frames := fun (d : Dir) => s.frames.list.countP (fun f => f.dir == d && !(f.kind == .bundle && d == .enc) && f.kind != .control)
  [frames .enc, frames .dec, outstanding s, s.frames.list.countP (fun f => f.kind == .bundle && f.dir == .enc), s.pke.jobs.length]

/-- The reset entry with known counts: every waiting failure is summarised first, and each summary gets a continuation.
DEDUCED, unsafe (log entry 24). -/
def resetEntry (cause : Nat) (s : State) : State :=
  let s1 := s.era.wait.foldl (fun s r => summarise r (ended r s)) { s with era := { s.era with wait := [] } }
  let s2 := logForce 0x02 (wd cause :: (inFlightCounts s).map wd) s1
  s1.era.sums.foldl (fun s x => logForce 0x03 (continuation x.2) s) s2

/-- The reset entry after a loss of the main supplies. DEDUCED, unsafe (log entry 24). -/
def resetUnknown (cause : Nat) (s : State) : State := logForce 0x02 (wd cause :: List.replicate 5 0xFFFFFFFF) s

end Sys2Proof.Machine
end

