-- ==== Sys2Proof/Machine/Modes.lean ====
section
/-! DEFINITION. Reset, boot, the pins that cause them, entry into ZEROIZED and the response to an alarm (R33-R61, R401-R403,
R408, R419, R472-R479, R486, R489, R491). -/

namespace Sys2Proof.Machine

/-- The device changes mode (R33): PREV, CAUSE and MODE_CHG; the pair key is lost with the twin modes (R429).
DEDUCED, unsafe (log entry 18). -/
def modeTo (target : Mode) (cause : Nat) (s : State) : State :=
  let twin := [Mode.twinJoin, .twinEmit, .twinHold].contains target
  event (pg .sys) 0
    { s with dev := { s.dev with mode := target, prev := s.dev.mode, cause := cause },
             keys := { s.keys with pairKey := if twin then s.keys.pairKey else none } }

/-! ### Reset (R52, R428) -/

/-- Registers of the Lunar domain: they keep their values while it is powered (R405). -/
def lunKept (a : Nat) : Bool :=
  let off := a % 0x1000
  a / 0x1000 == pg .lun && (off == 0x104 || (decide (0x110 ≤ off) && decide (off ≤ 0x130)) || off == 0x150 ||
    (decide (0x160 ≤ off) && decide (off ≤ 0x190)))

/-- Every register, table and engine at its reset value; what lies in the Lunar domain, the eMRAM, the fuses and the strap
latch stays, and after a warm reset the training values (R52). The change of mode is the first event of the new state (R33).
DEDUCED, unsafe (log entry 23). -/
def resetState (warm : Bool) (mode : Mode) (cause : Nat) (s : State) : State :=
  let r := State.reset
  let fresh := [Mode.lunar, .reset, .boot].contains s.dev.mode
  let dev := { r.dev with mode := mode, prev := s.dev.mode, cause := cause, strap := s.dev.strap, supply := s.dev.supply,
                          vbat := s.dev.vbat, vbatOk := s.dev.vbatOk, porst := s.dev.porst, sysrst := s.dev.sysrst, perst := s.dev.perst,
                          holdThermal := s.dev.holdThermal, holdSupply := s.dev.holdSupply }
  let compat := ra (pg .sys) 0x104
  let regs := spKeep lunKept s.regs
  let base := { r with pending := s.pending, out := s.out, dev := dev, time := { r.time with cyc := s.time.cyc }, regs := regs }
  let s1 := setReg base compat (setBit (getReg base compat) 0 (s.dev.strap % 2 == 1))
  event (pg .sys) 0 { s1 with
    log := { s.log with inTick := 0, copied := 0 },
    lun := { s.lun with vbatLost := s.lun.vbatLost && fresh, rtcSet := false, latch := 0, copied := [], copiedOvf := 0 },
    keys := { r.keys with owner := s.keys.owner, kekGenerated := s.keys.kekGenerated },
    fwu := { r.fwu with slots := s.fwu.slots, arbCtr := s.fwu.arbCtr },
    rng := { r.rng with pos := s.rng.pos },
    ords := { r.ords with nextId := s.ords.nextId },
    chans := if warm then s.chans.map (fun c => { Chan.init with kept := c.pass || c.kept }) else r.chans,
    alm := { r.alm with ctrs := s.alm.ctrs.map (fun a =>
      { AlmCtr.init with words := a.words, ring := a.ring, pos := a.pos, retired := a.retired, retiredCopy := a.retiredCopy, noSpare := a.noSpare }) },
    tap := s.tap }

/-- Pages that become READY later than the entry into BOOT (R489). -/
def readyLater (k : PageKind) : Bool :=
  [PageKind.ord, .era, .ucu, .pke, .fwu, .hlt, .smp, .crt, .rng, .plain, .line, .hwy, .old, .alm, .mem, .seal, .lun].contains k

/-- Set READY of every page whose kind satisfies `p`. -/
def readyPages (p : PageKind → Bool) (s : State) : State :=
  (pageMap.filter (fun r => p r.kind)).foldl (fun s r => (List.range r.count).foldl (fun s i => setReady (r.first + i) s) s) s

/-- Entry into BOOT: Meridian and the ticks start at 0; PREV and CAUSE stay (R33, R37). -/
def enterBoot (s : State) : State :=
  readyPages (fun k => !readyLater k)
    { s with dev := { s.dev with mode := .boot }, time := { State.reset.time with run := true, cyc := s.time.cyc } }

/-- RESET ends once both pins are high and nothing holds it (R37, R486, R491). -/
def release (s : State) : State :=
  let d := s.dev
  if d.mode == .reset && d.supply && d.porst && d.sysrst && !d.holdThermal && !d.holdSupply then enterBoot s else s

/-- A reset of a powered device: the reset entry, also where it is in RESET already, then RESET, and BOOT where the pins allow
it (R52). -/
def takeReset (warm : Bool) (cause : Nat) (s : State) : State :=
  if s.dev.mode = .lunar then s
  else if s.dev.mode = .reset then resetEntry cause s
  else resetState warm .reset cause (resetEntry cause s)

/-! ### Pins and supplies -/

/-- The straps are latched and CYC starts at 0 (R45, R81, R472); BOOT_SRC 0b11 counts as 0b00. -/
def latchStraps (straps : Nat) (s : State) : State :=
  let v := straps % 16
  let a := ra (pg .sys) 0x104
  let s1 := { s with dev := { s.dev with strap := v }, time := { s.time with cyc := 0 } }
  setReg s1 a (setBit (getReg s1 a) 0 (v % 2 == 1))

/-- PORST_N (R473): low resets the device, its rise latches the straps. -/
def porstPin (level : Bool) (straps : Nat) (s : State) : State :=
  if level = s.dev.porst then s
  else if level then
    let s1 := { s with dev := { s.dev with porst := true } }
    if s1.dev.supply then release (latchStraps straps s1) else s1
  else
    let s1 := takeReset false 0x01 s
    let s2 := if s1.dev.mode = .reset then { s1 with chans := State.reset.chans } else s1
    { s2 with dev := { s2.dev with porst := false, holdSupply := false } }

/-- SYSRST_N (R52). -/
def sysrstPin (level : Bool) (s : State) : State :=
  if level = s.dev.sysrst then s
  else if level then release { s with dev := { s.dev with sysrst := true } }
  else
    let s1 := takeReset true 0x02 s
    { s1 with dev := { s1.dev with sysrst := false } }

/-- WARM_RESET, WATCHDOG and an alarm's RESET response. -/
def warmReset (cause : Nat) (s : State) : State := release (takeReset true cause s)

/-- THERMAL_TRIP (R486). -/
def thermalTripAt (s : State) : State :=
  if modeIn [.lunar, .reset] s then (if s.dev.mode = .reset then { s with dev := { s.dev with holdThermal := true } } else s)
  else
    let s1 := takeReset true 0x15 s
    { s1 with dev := { s1.dev with holdThermal := true } }

/-- THERMAL_RELEASE. -/
def thermalOff (s : State) : State := release { s with dev := { s.dev with holdThermal := false } }

/-- The Lunar domain has lost all power (R396). -/
def lunLost (s : State) : State :=
  { s with lun := { State.reset.lun with vbatLost := true }, regs := spKeep (fun a => !lunKept a) s.regs }

/-- Alarms declared and not yet answered when the supplies fall: the cell takes them (R403).
DEDUCED, unsafe (log entry 70). -/
def alarmsOnCell (s : State) : State :=
  if s.lun.declared.isEmpty then s
  else eraseKek (s.lun.declared.foldl (fun s n => storeEvent n s) { s with lun := { s.lun with declared := [] } })

/-- SUPPLY_LOSS (R37, R478): LUNAR, at once. DEDUCED, unsafe (log entry 24). -/
def supplyGone (s : State) : State :=
  if !s.dev.supply then s
  else
    let s1 := resetState false .lunar 0x05 { s with dev := { s.dev with supply := false, holdThermal := false, holdSupply := false } }
    let s2 := alarmsOnCell s1
    if s2.dev.vbat then s2 else lunLost s2

/-- VBAT_LOSS (R396, R479). DEDUCED, unsafe (log entry 71). -/
def vbatGone (s : State) : State :=
  let s1 := { s with dev := { s.dev with vbat := false, vbatOk := false } }
  if s1.dev.supply then s1 else lunLost s1

/-- SUPPLY_VALID (R491): RESET at once, and a hold where PORST_N is already high.
DEDUCED, unsafe (log entry 18). -/
def supplyBack (s : State) : State :=
  if s.dev.supply then s
  else
    let cause := if s.lun.vbatLost then 0x00 else 0x05
    let s1 := resetUnknown cause { s with dev := { s.dev with supply := true } }
    event (pg .sys) 0 { s1 with dev := { s1.dev with mode := .reset, prev := .lunar, cause := cause, holdSupply := s1.dev.porst } }

/-- SUPPLY_RELEASE (R491). -/
def supplyReleaseAt (straps : Nat) (s : State) : State :=
  if s.dev.mode = .reset && s.dev.supply && s.dev.holdSupply && s.dev.porst then
    release (latchStraps straps { s with dev := { s.dev with holdSupply := false } })
  else s

/-- PCIE_PERST_N (R474) and the link (R408). -/
def perstPin (level : Bool) (s : State) : State :=
  { s with dev := { s.dev with perst := level, pcieUp := s.dev.pcieUp && level } }
def pcieLink (up : Bool) (s : State) : State :=
  { s with dev := { s.dev with pcieUp := up && s.dev.perst && !modeIn [.lunar, .reset] s } }

/-! ### Boot (R50, R51) -/

/-- Step 1: the start-up tests of the RNG, up to three runs of them (R452), the Gazetteer seeds (R122) and the pages of Tircy's blocks.
DEDUCED, unsafe (log entry 26). -/
def bootRng (fails : Nat) (s : State) : State :=
  if s.rng.st != 0 then s
  else
    let s1 := readyPages (fun k => [PageKind.ord, .era, .ucu, .pke, .fwu, .hlt, .smp, .crt].contains k) s
    if fails < 3 then
      let d := draw 8 { s1 with rng := { s1.rng with st := 1, seedTick := now s1, startFails := fails } }
      let s2 := setReg (setReg d.2 (ra (pg .gaz) 0x100) (wd (leNat (d.1.take 4)))) (ra (pg .gaz) 0x104) (wd (leNat (d.1.drop 4)))
      setReady (pg .rng) (bump (pg .rng) 0x228 (fails + 1) s2)
    else rngFault (bump (pg .rng) 0x228 3 { s1 with rng := { s1.rng with startFails := 3 } })

/-- An image slot as boot finds it (R456). -/
def bootSlot (s : State) (x : Option (Nat × Nat × Bytes)) : ImgSlot :=
  match x with
  | some (v, a, b) => { ok := decide (s.fwu.arbCtr ≤ a), version := v, arb := a, body := b }
  | none => ImgSlot.none

/-- The slot boot takes: the higher ARB, then the higher VERSION, then A (R456). -/
def bootChoice (a b : ImgSlot) : Option Nat :=
  if !a.ok && !b.ok then none
  else if !b.ok then some 0
  else if !a.ok then some 1
  else if a.arb < b.arb || (a.arb == b.arb && decide (a.version < b.version)) then some 1 else some 0

/-- The capacity in use on every channel: the smallest density that a channel reports (R355). -/
def gibInUse : List Nat → Nat
  | [] => 0
  | g :: r => r.foldl min g

/-- Values kept over a warm reset pass their check: no training takes place (R371). DEDUCED, unsafe (log entry 100). -/
def checkKept (c : Nat) (s : State) : State := chanTo c 1 (modChan c (fun x => { x with pass := true, trainTick := now s }) s)

/-- One channel of step 5: its kept values pass their check, or it is trained, or mapped out after three attempts (R371, R372).
DESIGN CHOICE, safe (log entry 25). -/
def bootChannel (inp : BootInput) (s : State) (c : Nat) : State :=
  let kept := (chanState s c).kept
  let s1 := modChan c (fun x => { x with gib := gibInUse inp.gib, mts := inp.mts, kept := false }) s
  let s2 := match inp.failed.find? (fun f => f.1 == c) with
    | some (_, n, step) => if 3 ≤ n then mapOut c (trained c 3 (step % 16) false s1) else chanTo c 1 (trained c (n + 1) (step % 16) true s1)
    | none => if kept then checkKept c s1 else chanTo c 1 (trained c 1 0 true s1)
  setReady (pg .mem c) s2

/-- Step 5: the sealing root, the boot nonce and an initialised DRAM (R362, R363, R366).
DEDUCED, unsafe (log entry 3). -/
def bootSeal (inp : BootInput) (s : State) : State :=
  let s0 := (List.range 8).foldl (bootChannel inp) s
  let root := match kekOf s0 with
    | some k => (k, s0)
    | none => draw 32 (reseed s0)
  let nonce := draw 32 (reseed root.2)
  let s1 := nonce.2
  setReady (pg .seal)
    { s1 with mem := [],
              sealPath := { State.reset.sealPath with gib := 8 * gibInUse inp.gib, initDone := true, provisional := (kekOf s0).isNone,
                                                      root := root.1, nonce := nonce.1 },
              keys := { s1.keys with tkw := (kekOf s1).map tkwOf } }

/-- Step 6: the Lunar event store is copied and cleared (R404). -/
def bootStore (s : State) : State :=
  let l := s.lun
  let s1 := l.store.foldl (fun s e => logEvent 0x04 [wd (b2n e.onCell * 2 ^ 31 + e.src), e.sec, wd e.frac] s) s
  let s2 := if l.overflow = 0 then s1 else logEvent 0x04 [wd 0xFF, wd l.overflow] s1
  setReady (pg .lun) (eventIf (!l.store.isEmpty || l.overflow != 0) (pg .lun) 16
    { s2 with lun := { s2.lun with copied := l.store, copiedOvf := l.overflow, store := [], overflow := 0 } })

/-- Step 7: the change the KEK's state asks for (R37); an RNG in FAULT keeps the device in BOOT (R452).
DEDUCED, unsafe (log entry 26). -/
def bootLeave (s : State) : State :=
  if s.rng.st = 2 then s
  else match kekState s with
    | 0 => trigger .provision 0x08 4 none s
    | 1 => trigger .configure 0x06 4 none s
    | _ => trigger .zeroized 0x09 2 none s

/-- BOOT_SEQUENCE: the steps of R50, once; without an image that verifies the device waits for FW_STAGE.
DESIGN CHOICE, safe (log entry 25). -/
def bootRun (inp : BootInput) (s : State) : State :=
  if s.dev.mode != .boot || s.dev.bootWait || s.sealPath.initDone then s
  else
    let s1 := bootRng inp.rngFails s
    let a := bootSlot s1 inp.imgA
    let b := bootSlot s1 inp.imgB
    let s2 := { s1 with fwu := { s1.fwu with slots := [a, b] } }
    match bootChoice a b with
    | none => { s2 with dev := { s2.dev with noImage := true, bootWait := true, cause := 0x07 } }
    | some n =>
      let s3 := { s2 with fwu := { s2.fwu with running := n }, dev := { s2.dev with noImage := false, chartRead := true },
                          hlt := { s2.hlt with agents := s2.hlt.agents.map (fun x => { x with running := true }) } }
      let s4 := readyPages (fun k => k == .plain || k == .line || k == .hwy || k == .old) s3
      let s5 := setReady (pg .alm) ((List.range 16).foldl (almBootOne inp.almFails) s4)
      bootLeave (bootStore (bootSeal inp s5))

/-! ### ZEROIZED (R61, R365, R419) -/

/-- Frames of both directions end with reason ZEROIZED. -/
def zeroFrames (s : State) : State := (reap s).frames.list.foldl (fun s f => endBad f 0x82 0 s) (reap s)

/-- Pending Eclipse items and TSI swaps are cancelled; their orders end with the others (R236, R285, R419). -/
def zeroScheduled (s : State) : State :=
  let es := s.ecl.entries.filter (fun e => !e.active)
  let s1 := es.foldl (fun s _ => event (pg .ecl) 2 (bump (pg .ecl) 0x210 1 s)) s
  let s2 := eventIf (scheduled s) (pg .grt) 2 { s1 with ecl := { s1.ecl with entries := [], mka := [], mkaHold := [] } }
  eventIf (!(s.tsi.swap.getD 0 []).isEmpty || !(s.tsi.swap.getD 1 []).isEmpty) (pg .tsi) 1
    { s2 with tsi := { s2.tsi with swap := [[], []] } }

/-- Every SA record and ledger entry is wiped. -/
def zeroSas (s : State) : State :=
  let sas := (s.orb.sas.map (fun p => (p.1, erasedSa p.2))).filter (fun p => decide (p.2 ≠ SaEntry.free))
  { s with orb := { s.orb with sas := sas, pend := [], pool := [], fills := [], waiting := [], hand := 0 } }

/-- DRAM under identifiers 1 and 2 and every BAR2 segment is zeros from now on (R365). -/
def zeroMem (s : State) : State :=
  let lo := 0x10000000
  let hi := 0x48000000
  let s1 := clearMem lo (hi - lo) s
  { s1 with sealPath := { s1.sealPath with poison := s1.sealPath.poison.filter (fun a => a % 2 ^ 36 < lo || hi ≤ a % 2 ^ 36),
                                           rekey := none, commitOrd := none } }

/-- The changes of mode that waited are logged as lost; a MODE_SET whose boundary lies within the same microsecond is judged against
ZEROIZED, which allows none of them, and the others end with the rest (R38, R61).
DESIGN CHOICE, unsafe (log entry 90). -/
def zeroTriggers (s : State) : State :=
  let near := decide (clocksToBoundary s ≤ 1600)
  s.dev.trig.foldl (fun s t =>
    let s1 := logEvent 0x01 [wd t.target.code, wd t.cause] s
    if near then endOpt t.ord .state 0 s1 else s1) { s with dev := { s.dev with trig := [] } }

/-- Work that waits for a boundary or an end is dropped; its orders end with the others. The operand areas, which may hold keys,
are zeroed (R365, R448). DEDUCED, unsafe (log entry 69). DESIGN CHOICE, unsafe (log entry 90). -/
def zeroWork (s0 : State) : State :=
  let s := zeroTriggers s0
  let jobs := s.pke.jobs
  let s1 := { s with grt := { s.grt with queue := [] }, maps := [],
                     ords := { s.ords with commit := [] }, alm := { s.alm with ords := [] },
                     swp := { s.swp with survey := none, recheck := [] }, mer := { s.mer with step := [] },
                     fwu := { s.fwu with phase := 0, agent := 0, stage := none, act := none },
                     twin := { s.twin with lists := [], alignFixed := false, alignReq := false, alignOrd := none, held := false },
                     pke := { s.pke with jobs := [] } }
  (List.range 16).foldl (fun s a => zeroArea a s) (jobs.foldl (pkeKill 0xA1) s1)

/-- Entry into ZEROIZED, or a ZEROIZE taken there: every effect of R61 that does not wait for the sweeps.
DEDUCED, unsafe (log entry 78). -/
def zeroize (ord : Option Nat) (s : State) : State :=
  let s1 := zeroMem (zeroSas (zeroScheduled (zeroWork (zeroFrames (eraseKek s)))))
  let d := draw 32 (reseed { s1 with keys := { s1.keys with slots := List.replicate 16 none, caks := [], tkw := none, pairKey := none } })
  { d.2 with sealPath := { d.2.sealPath with root := d.1, provisional := true, changing := true, zeroOrd := ord } }

/-- The change to ZEROIZED, at once (R37). -/
def enterZeroized (cause : Nat) (ord : Option Nat) (s : State) : State := zeroize ord (modeTo .zeroized cause s)

/-- Insert an order into a list that stands in take order. -/
def insOrd (o : OrdRec) : List OrdRec → List OrdRec
  | [] => [o]
  | x :: r => if o.id < x.id then o :: x :: r else x :: insOrd o r

/-- Orders from ZEROIZED on: every outstanding order ends with ABORTED in take order (R419); a MODE_SET that lost to ZEROIZED has
ended with STATE (R38). A host's PKE job has its record already (R448).
DESIGN CHOICE, unsafe (log entry 21). DEDUCED, unsafe (log entry 69). DESIGN CHOICE, unsafe (log entry 90). -/
def zeroOrders (trig : Option Nat) (s : State) : State :=
  let s1 := endOpt trig .ok 0 s
  let stays := fun (e : EndRec) => some e.id == trig || (e.op == 0x03 && e.status == .state)
  let done := s1.ords.ended.filter stays
  let late := (s1.ords.ended.filter (fun e => !stays e)).map (fun e => ({ id := e.id, tag := e.tag, op := e.op, int := e.int } : OrdRec))
  let all := late.foldl (fun l o => insOrd o l) s1.ords.outs
  let s2 := { s1 with ords := { s1.ords with outs := all, ended := done } }
  all.foldl (fun s o => if o.op = 0x48 then endOrder o.id .aborted 0x12 s else abortOrder o.id 0x82 s) s2

/-- ZEROIZE_SWEEP_DONE (R365, R419). DEDUCED, unsafe (log entry 67). -/
def zeroSwept (failed : List Nat) (s : State) : State :=
  if !(s.dev.mode == .zeroized && s.sealPath.changing) then s
  else
    let s1 := [0, 3].foldl (sweptLines failed) s
    let s2 := { s1 with sealPath := { s1.sealPath with changing := false, zeroOrd := none },
                        ords := { s1.ords with sqHead := 0, sqTail := 0, cqHead := 0, cqTail := 0 },
                        era := { s1.era with prod := 0, cons := 0 } }
    zeroOrders s.sealPath.zeroOrd s2

/-! ### Alarms (R401, R402) -/

/-- The response set of a source. -/
def lunResp (s : State) (n : Nat) : Word := getReg s (ra (pg .lun) (0x160 + 4 * n))

/-- ERASE_KEK: the KEK goes, and a device in PROVISION to DIAGNOSTIC changes to ZEROIZED; in BOOT step 7 sees the KEK gone. -/
def alarmErase (s : State) : State :=
  let s1 := eraseKek s
  if s1.dev.mode = .boot then
    if s1.dev.trig.isEmpty then s1 else bootLeave { s1 with dev := { s1.dev with trig := [] } }
  else if modeIn [.lunar, .reset, .zeroized] s1 then s1
  else enterZeroized 0x14 none s1

/-- ALARM: the union of the response sets of the sources declared, in the order of R401.
DEDUCED, unsafe (log entry 18). -/
def alarmRespond (s : State) : State :=
  let ds := (List.range 13).filter s.lun.declared.contains
  if ds.isEmpty then s
  else if !s.dev.supply then alarmsOnCell s
  else
    let s0 := { s with lun := { s.lun with declared := [] } }
    let has := fun (b : Nat) => ds.any (fun n => bit (lunResp s n) b)
    let s1 := ds.foldl (fun s n => logEvent 0x05 [wd n] s) s0
    let s2 := if has 3 then alarmErase s1 else s1
    let s3 := ds.foldl (fun z n => eventIf (bit (lunResp s n) 1) (pg .lun) n z) s2
    let s4 := if has 2 then setFault (pg .lun) s3 else s3
    if has 4 then warmReset 0x14 s4 else s4

end Sys2Proof.Machine
end

