-- ==== Sys2Proof/Machine/Tick.lean ====
section
/-! DEFINITION. The tick boundary (R17): the change of mode that takes effect there (R37-R39, R43, R54-R58) and the actions
of the boundary in their order. -/

namespace Sys2Proof.Machine

/-! ### MODE_SET (R37, R39, R43) -/

/-- Whether every enabled port belongs to a lane group whose mode a PORT_MAP has committed: a port is enabled by its group's
committed mode (R91). -/
def portsMapped (s : State) : Bool :=
  (List.range 16).all (fun p => [Side.plain, Side.line].all (fun side => !portOn s side p || (portOf s side p).mode != 0))

/-- The preconditions of SOLO (R39): a Meridian step, eight trained channels, mapped ports and no spent counter of an installed
transmit SA. -/
def soloReady (s : State) : Bool :=
  s.time.stepped && s.chans.all (fun c => c.st == 1) && portsMapped s &&
    !s.orb.sas.any (fun p => p.2.st == 1 && p.2.dir == 0 && !p.2.diag && (almOf s (recAlm p.2.record)).spent)

/-- Whether a MODE_SET naming a mode is allowed in the present mode with its preconditions met (R37, R39, R43). -/
def modeSetOk (s : State) (target : Mode) : Bool :=
  match s.dev.mode, target with
  | .configure, .solo => soloReady s
  | .configure, .twinHold => soloReady s && bit (getReg s (ra (pg .old) 0x100)) 31
  | .configure, .twinJoin =>
    soloReady s && oldSync s && s.twin.peerTwin != twinId s && (s.twin.peerMode == Mode.twinEmit.code || s.twin.peerMode == Mode.twinHold.code)
  | .configure, .diagnostic => true
  | .twinJoin, .configure => true
  | .solo, .drain => true
  | .twinEmit, .drain => true
  | .twinHold, .drain => true
  | .zeroized, .provision => true
  | _, _ => false

/-! ### The change of mode at a boundary (R37, R38) -/

/-- The trigger that wins: the first of the lowest rank. DEDUCED, unsafe (log entry 17). -/
def winner : List ModeTrig → Option ModeTrig
  | [] => none
  | t :: r =>
    match winner r with
    | some u => if t.rank ≤ u.rank then some t else some u
    | none => some t

/-- What the mode left behind asks for: a join or a realignment ends, a PPS step that waits for its edge does, a twin that leaves emission stops its self-check, the rotas start as BOOT is
left (R201, R329, R333). DEDUCED, unsafe (log entry 58). -/
def leaveMode (old new : Mode) (s : State) : State :=
  let s1 := if old = .boot then rotaBegin s else s
  let t := s1.twin
  let t1 := if old = .twinJoin && new != .twinEmit then { t with joinPhase := 0, alignFixed := false, held := false } else t
  let t2 := if old = .twinEmit then { t1 with disState := 0, selfStart := none, waitFrom := none, cross := none } else t1
  let t3 := if old = .twinHold && new != .twinEmit then { t2 with alignReq := false, alignFixed := false, held := false } else t2
  merStepEnd (!modeIn [.configure, .diagnostic] s1) { s1 with twin := t3 }

/-- Entry into a mode: DRAIN cancels what is scheduled (R54); DIAGNOSTIC erases every SA, and the Eclipse items that name one abort
at their ticks (R58, R235); ZEROIZED erases the device (R61); a join begins (R333). -/
def enterMode (new : Mode) (s : State) : State :=
  match new with
  | .drain => cancelScheduled 0x81 { s with dev := { s.dev with drainTicks := 0 } }
  | .diagnostic => (saIndices s).foldl (fun s i => eclDoom i (eraseNow i s)) { s with orb := { s.orb with pend := [] } }
  | .zeroized => zeroize none s
  | .twinJoin => { s with twin := { s.twin with joinPhase := 1, bulkDone := false, notEmit := 0, peerFp := none } }
  | _ => s

/-- A trigger that lost is logged; a MODE_SET among them is judged against the mode that results (R38).
DEDUCED, unsafe (log entry 17). -/
def modeLoser (s : State) (t : ModeTrig) : State :=
  let s1 := logEvent 0x01 [wd t.target.code, wd t.cause] s
  match t.ord with
  | none => s1
  | some o => if modeSetOk s1 t.target then trigger t.target t.cause t.rank (some o) s1 else endOrder o .state 0 s1

/-- The change of mode of a boundary. DEDUCED, unsafe (log entry 17). -/
def modeChange (s : State) : State :=
  match winner s.dev.trig with
  | none => s
  | some w =>
    let old := s.dev.mode
    let lost := s.dev.trig.erase w
    let s1 := modeTo w.target w.cause { s with dev := { s.dev with trig := [] } }
    let s2 := enterMode w.target (leaveMode old w.target s1)
    lost.foldl modeLoser (endOpt w.ord .ok 0 s2)

/-- Whether nothing of R55 is in flight. DEDUCED, unsafe (log entry 22). -/
def drained (s : State) : Bool :=
  s.frames.list.all (fun f => f.kind == .control) && outstanding s == 0 && s.pke.jobs.isEmpty && s.grt.queue.isEmpty &&
    s.twin.lists.all (fun l => l.own.isEmpty)

/-- DRAIN ends at the first boundary after its own at which nothing is in flight (R56). -/
def drainDone (s : State) : State :=
  if s.dev.mode != .drain then s
  else
    let s1 := { s with dev := { s.dev with drainTicks := s.dev.drainTicks + 1 } }
    if drained s1 then trigger .configure 0x12 4 none s1 else s1

/-! ### The boundary -/

/-- Orders whose chore items committed in the tick that has ended complete (R25). -/
def commitEnds (s : State) : State :=
  s.ords.commit.foldl (fun s c => endOrder c.1 c.2.1 c.2.2 s) { s with ords := { s.ords with commit := [] } }

/-- Action 1: TICK becomes T and ALIVE toggles; the event log has room again (R461). -/
def tickTurn (s : State) : State :=
  let s1 := reap (passClocks (clocksToBoundary s) s)
  let t := s1.time
  let s2 := pmcAll 2 1 { s1 with time := { t with tick := wd (t.mer / tickUnit), lastLen := t.clk, clk := 0 },
                                 dev := { s1.dev with alive := !s1.dev.alive }, log := { s1.log with inTick := 0 } }
  if s2.log.dropped = 0 then s2
  else logEvent 0x0D [wd s2.log.dropped] { s2 with log := { s2.log with dropped := 0 } }

/-- The budgets of the tick that has ended become GRT_USED, and a new tick's are free (R18, R21). -/
def grtTurn (s : State) : State :=
  let g := s.grt
  { s with
    grt := { g with usedA := wd (g.sa * 2 ^ 16 + g.gaz), usedB := wd (g.con * 2 ^ 16 + g.learn),
                    usedC := wd (b2n (g.tsi.getD 1 false) * 2 ^ 17 + b2n (g.tsi.getD 0 false) * 2 ^ 16 + g.ecl),
                    sa := 0, gaz := 0, con := 0, learn := 0, ecl := 0, tsi := [false, false], stop := false },
    twin := { s.twin with lastChores := s.twin.chores, chores := (0, 0) },
    swp := { s.swp with visited := (now s).toNat % 128 * 16384 } }

/-- What the end of a tick settles before the mode changes. -/
def tickEnds (s : State) : State := arbitrateDue (selfOutcome (heartbeatEnd (drainDone (commitEnds s))))

/-- Actions 2 and 3: Eclipse activations and TSI swaps; the SAs, registers and lane groups committed in the last tick take
effect (R9, R92, R110, R154). DEDUCED, unsafe (log entry 16). -/
def actActivate (s : State) : State := tsiBoundary (mapBoundary (eclBoundary (ackCompare (saBoundary s))))

/-- Actions 4 to 6: the digest and the PM counts close, and the state captured as the tick ended goes to the partner. The selectors
act before this boundary's take, which uses them (R281).
DEDUCED, unsafe (log entry 16). DEDUCED, unsafe (log entry 54). -/
def actClose (cap : Bytes) (s : State) : State :=
  let s1 := pmBoundary (digestClose s)
  copyCapture cap (apsBoundary { settleCredits s1 with cfg := s1.regs })

/-- Action 7 and the circuit plane: bundle changes, framers, takes and playout (R259-R301).
DEDUCED, unsafe (log entry 16). -/
def actCircuit (s : State) : State :=
  circuitTx (bunTakes (tsiTake (hwyBoundary (tribBoundary (bunChanges s)))))

/-- The tick lists that enter now, learning, and what the twins exchange at a boundary (R23, R311-R334).
DEDUCED, unsafe (log entry 16). -/
def actTwin (s : State) : State :=
  let s1 := learnCopy (enterLists (copyEntering (arbitratePartner s)))
  let s2 := declareBoundary (checkpointBoundary (peerEpochsTake (almBoundary s1)))
  ackSend (closeList (alignFinish (alignFix s2)))

/-- The data path sees the tables as they stand (R121, R129). DEDUCED, unsafe (log entry 16). -/
def actTables (s : State) : State :=
  { s with gaz := { s.gaz with path := s.gaz.work, pathSeed0 := getReg s (ra (pg .gaz) 0x100), pathSeed1 := getReg s (ra (pg .gaz) 0x104) },
           con := { s.con with path := s.con.work } }

/-- The start-up tests repeat every 8,000 ticks while the RNG's FAULT holds the device in BOOT (R452).
DEDUCED, unsafe (log entry 26). -/
def rngRetry (s : State) : State :=
  if s.dev.mode == .boot && s.rng.st == 2 && (now s).toNat % 8000 == 0 then bump (pg .rng) 0x228 1 s else s

/-- Pipelines, sweeper, queues and time (R199, R201, R203, R240, R338-R351).
DEDUCED, unsafe (log entry 16). -/
def actRest (s : State) : State :=
  let s1 := maskReseed (surveyBoundary (rotaCount (shortBegin (pipeLiveAt (segmentBoundary s)))))
  let s2 := { s1 with frames := { s1.frames with list := s1.frames.list.map (fun f => { f with age := f.age + 1 }) } }
  let s3 := trgEnd (rtcTick (stampsTake (servoTick (rngRetry s2))))
  let s4 := { s3 with time := { s3.time with rate := getReg s3 (ra (pg .mer) 0x108) } }
  stallCheck (event (pg .grt) 0 s4)

/-- A tick opens on the Oldun link: the heartbeat leaves first, and a twin that has left TWIN_EMIT for DRAIN sends its retire notice
(R57, R318, R320). -/
def linkOpen (old : Mode) (s : State) : State :=
  let s1 := heartbeatSend (oldTick s)
  if old = .twinEmit && s.dev.mode = .drain then retireNotice s1 else s1

/-- TICK_BOUNDARY (R17). DESIGN CHOICE, unsafe (log entry 4). DEDUCED, unsafe (log entry 16). -/
def tickBoundary (s : State) : State :=
  if !s.time.run then s
  else
    let s0 := tickEnds (tickTurn (reap s))
    let s1 := fingerTake (linkOpen s0.dev.mode (grtTurn (modeChange s0)))
    actRest (actTables (actTwin (actCircuit (actClose (stateBytes s1) (actActivate s1)))))

end Sys2Proof.Machine
end

