-- ==== Sys2Proof/Machine/Operands.lean ====
section
/-! DEFINITION. The operands of host orders: the opcode table and descriptors of R412-R414, the fields at their widths, what makes an
order well-formed (R40, R490), the modes that allow it (R42) and which orders are paired (R311). -/

namespace Sys2Proof.Machine

/-! ### Descriptors (R412-R414) -/

/-- An order's opcode (R413). -/
def orderCode : Order → Nat
  | .nop => 0x00 | .logRead _ _ _ => 0x01 | .warmReset => 0x02 | .modeSet _ => 0x03 | .attest _ _ => 0x04 | .fwStage _ _ _ => 0x05
  | .fwActivate _ => 0x06 | .ownerEnrol _ => 0x08 | .kekGenerate => 0x09 | .provisionCommit => 0x0A | .zeroize _ => 0x0B
  | .portMap _ _ _ => 0x10 | .portEq _ _ _ => 0x11 | .memRetrain _ => 0x12 | .merStep _ _ _ _ _ => 0x13 | .keyImport _ _ => 0x20
  | .cakLoad _ _ => 0x21 | .saInstall _ _ _ => 0x22 | .saRewrite _ _ _ => 0x23 | .saErase _ => 0x24 | .saPin _ => 0x25
  | .saUnpin _ => 0x26 | .saExport _ _ _ => 0x27 | .saImport _ _ _ => 0x28 | .gazEdit _ => 0x30 | .conEdit _ => 0x31
  | .surveyStart _ _ _ => 0x32 | .eclSchedule _ _ _ _ _ => 0x38 | .eclCancel _ _ _ => 0x39 | .tsiSwap _ _ => 0x3A
  | .almAdvance _ _ => 0x40 | .almRenew _ => 0x41 | .sealRekey _ => 0x42 | .pkeJob _ => 0x48 | .twinArbitrate _ => 0x50
  | .twinSwitchback => 0x51 | .diagSaLoad _ _ _ => 0x58 | .diagLoopback _ _ _ _ => 0x59 | .unknown op => op

/-- The fields of a Gazetteer and a Contour edit, at their widths. -/
def normGaz (a : GazEditArgs) : GazEditArgs :=
  { op := a.op % 4, kind := a.kind % 16, port := a.port % 16, age := a.age, action := a.action % 4, cls := a.cls % 4, sa := a.sa % 2 ^ 21,
    key := a.key % 2 ^ 128 }
def normCon (a : ConEditArgs) : ConEditArgs :=
  { op := a.op % 4, action := a.action % 4, cls := a.cls % 4, prioAuto := a.prioAuto, prio := a.prio % 256, sa := a.sa % 2 ^ 21,
    value := a.value % 2 ^ 160, mask := a.mask % 2 ^ 160 }

/-- A BAR2 offset as a descriptor carries it: bits 27:0 (R413). -/
def offNorm (o : Nat) : Nat := o % 2 ^ 28

/-- An order with every operand at the width of its descriptor field (R413). -/
def normOrder : Order → Order
  | .nop => .nop
  | .logRead f c o => .logRead (f % 2 ^ 32) (c % 2 ^ 32) (offNorm o)
  | .warmReset => .warmReset
  | .modeSet m => .modeSet (m % 16)
  | .attest c r => .attest (offNorm c) (offNorm r)
  | .fwStage i l n => .fwStage (offNorm i) (l % 2 ^ 32) (n % 2)
  | .fwActivate n => .fwActivate (n % 2)
  | .ownerEnrol o => .ownerEnrol (offNorm o)
  | .kekGenerate => .kekGenerate
  | .provisionCommit => .provisionCommit
  | .zeroize m => .zeroize m
  | .portMap side g ps => .portMap side (g % 2) ((List.range 8).map (fun j => ps.getD j 0 % 2 ^ 11))
  | .portEq r side p => .portEq r side (p % 16)
  | .memRetrain c => .memRetrain (c % 8)
  | .merStep n p sec ns fr => .merStep n p (sec % 2 ^ 48) (ns % 2 ^ 30) (fr % 2 ^ 16)
  | .keyImport n o => .keyImport (n % 16) (offNorm o)
  | .cakLoad n o => .cakLoad (n % 16) (offNorm o)
  | .saInstall i o n => .saInstall (i % 2 ^ 21) (offNorm o) (n % 16)
  | .saRewrite i o n => .saRewrite (i % 2 ^ 21) (offNorm o) (n % 16)
  | .saErase i => .saErase (i % 2 ^ 21)
  | .saPin i => .saPin (i % 2 ^ 21)
  | .saUnpin i => .saUnpin (i % 2 ^ 21)
  | .saExport i o n => .saExport (i % 2 ^ 21) (offNorm o) (n % 16)
  | .saImport i o n => .saImport (i % 2 ^ 21) (offNorm o) (n % 16)
  | .gazEdit a => .gazEdit (normGaz a)
  | .conEdit a => .conEdit (normCon a)
  | .surveyStart b c r => .surveyStart (offNorm b) (c % 2 ^ 22) r
  | .eclSchedule k i n t f => .eclSchedule (k % 4) (i % 2 ^ 21) (n % 2 ^ 21) t (f % 2 ^ 64)
  | .eclCancel k i t => .eclCancel (k % 4) (i % 2 ^ 21) t
  | .tsiSwap d t => .tsiSwap d t
  | .almAdvance m t => .almAdvance (m % 2 ^ 16) (t % 2 ^ 23)
  | .almRenew c => .almRenew (c % 16)
  | .sealRekey k => .sealRekey (k % 16)
  | .pkeJob o => .pkeJob (offNorm o)
  | .twinArbitrate r => .twinArbitrate (r % 4)
  | .twinSwitchback => .twinSwitchback
  | .diagSaLoad i k o => .diagSaLoad (i % 2 ^ 21) (k % 16) (offNorm o)
  | .diagLoopback m n b side => .diagLoopback (m % 4) (n % 256) (b % 4) side
  | .unknown op => .unknown (op % 256)

/-- The order a descriptor's words 0 to 15 spell (R412, R413). -/
def orderOf (w : List Word) : Order :=
  let x := fun (n : Nat) => w.getD n 0
  let v := fun (n : Nat) => (x n).toNat
  let big := fun (n k : Nat) => leNat (wordsToBytes ((List.range k).map (fun i => x (n + i))))
  let sa := fun (n : Nat) => v n
  let side := fun (b : Bool) => if b then Side.line else .plain
  normOrder (match v 0 / 2 ^ 24 with
    | 0x00 => .nop
    | 0x01 => .logRead (v 2) (v 3) (v 4)
    | 0x02 => .warmReset
    | 0x03 => .modeSet (v 2)
    | 0x04 => .attest (v 2) (v 3)
    | 0x05 => .fwStage (v 2) (v 3) (v 4)
    | 0x06 => .fwActivate (v 2)
    | 0x08 => .ownerEnrol (v 2)
    | 0x09 => .kekGenerate
    | 0x0A => .provisionCommit
    | 0x0B => .zeroize (x 2)
    | 0x10 => .portMap (side (bit (x 2) 8)) (v 2) ((List.range 8).map (fun j => v (3 + j)))
    | 0x11 => .portEq (bit (x 2) 8) (side (bit (x 2) 4)) (v 2)
    | 0x12 => .memRetrain (v 2)
    | 0x13 => .merStep (bit (x 2) 31) (bit (x 2) 0) (v 3 + 2 ^ 32 * (v 4 % 2 ^ 16)) (v 5) (v 6)
    | 0x20 => .keyImport (v 2) (v 3)
    | 0x21 => .cakLoad (v 2) (v 3)
    | 0x22 => .saInstall (sa 2) (v 3) (v 4)
    | 0x23 => .saRewrite (sa 2) (v 3) (v 4)
    | 0x24 => .saErase (sa 2)
    | 0x25 => .saPin (sa 2)
    | 0x26 => .saUnpin (sa 2)
    | 0x27 => .saExport (sa 2) (v 3) (v 4)
    | 0x28 => .saImport (sa 2) (v 3) (v 4)
    | 0x30 => .gazEdit { op := v 2, kind := fld (x 2) 7 4, port := fld (x 2) 11 8, age := bit (x 2) 12, action := fld (x 2) 17 16,
                         cls := fld (x 2) 19 18, sa := sa 3, key := big 4 4 }
    | 0x31 => .conEdit { op := v 2, action := fld (x 2) 17 16, cls := fld (x 2) 19 18, prioAuto := bit (x 2) 20, prio := fld (x 2) 31 24,
                         sa := sa 3, value := big 4 5, mask := big 9 5 }
    | 0x32 => .surveyStart (v 2) (v 3) (bit (x 4) 0)
    | 0x38 => .eclSchedule (v 2) (sa 3) (sa 4) (x 5) (big 6 2)
    | 0x39 => .eclCancel (v 2) (sa 3) (x 5)
    | 0x3A => .tsiSwap (if bit (x 2) 0 then .dec else .enc) (x 3)
    | 0x40 => .almAdvance (v 2) (v 3)
    | 0x41 => .almRenew (v 2)
    | 0x42 => .sealRekey (v 2)
    | 0x48 => .pkeJob (v 2)
    | 0x50 => .twinArbitrate (v 2)
    | 0x51 => .twinSwitchback
    | 0x58 => .diagSaLoad (sa 2) (v 3) (v 4)
    | 0x59 => .diagLoopback (fld (x 2) 17 16) (fld (x 2) 15 8) (v 2) (side (bit (x 3) 0))
    | op => .unknown op)

/-! ### Well-formedness and legality (R40-R43, R490) -/

/-- Whether the blocks an order names lie within BAR2 at their lengths and alignments and its fields hold values the spec gives
(R40, R413, R490). DEDUCED, unsafe (log entry 19). -/
def orderFormed (s : State) : Order → Bool
  | .unknown _ => false
  | .logRead _ c o => decide (1 ≤ c) && decide (c ≤ 16384) && inBar2 o (96 * c)
  | .modeSet m => (Mode.ofCode m).isSome
  | .attest c r => inBar2 c 32 && inBar2 r 288
  | .fwStage i l _ => inBar2 i (l + 512)
  | .ownerEnrol o => inBar2 o 192
  | .zeroize m => m == 0x5A45524F
  | .merStep _ _ _ ns _ => decide (ns ≤ 999999999)
  | .keyImport _ o => inBar2 o 256
  | .cakLoad _ o => inBar2 o 0x4C
  | .saInstall _ o _ => o % 256 == 0 && inBar2 o 256
  | .saRewrite _ o _ => o % 256 == 0 && inBar2 o 256
  | .saExport _ o _ => o % 256 == 0 && inBar2 o (if behaviour s 2 then 128 else 256)
  | .saImport _ o _ => o % 256 == 0 && inBar2 o (if behaviour s 2 then 128 else 256)
  | .surveyStart b c _ => b % 4096 == 0 && decide (1 ≤ c) && decide (c ≤ 2097152) && inBar2 b (32 * c)
  | .eclSchedule k _ _ _ _ => decide (k ≤ 2)
  | .eclCancel k _ _ => decide (k ≤ 2)
  | .pkeJob o => o % 256 == 0 && inBar2 o 0x40
  | .twinArbitrate r => decide (r ≤ 2)
  | .diagSaLoad _ _ o => inBar2 o 256
  | _ => true

/-- The modes in which an order is allowed (R42). -/
def orderModes : Order → List Mode
  | .nop | .logRead _ _ _ =>
    [.boot, .provision, .configure, .solo, .twinJoin, .twinEmit, .twinHold, .drain, .diagnostic, .zeroized]
  | .warmReset | .attest _ _ | .zeroize _ =>
    [.provision, .configure, .solo, .twinJoin, .twinEmit, .twinHold, .drain, .diagnostic, .zeroized]
  | .modeSet _ => [.provision, .configure, .solo, .twinJoin, .twinEmit, .twinHold, .zeroized]
  | .fwStage _ _ _ => [.boot, .provision, .configure, .solo, .twinJoin, .twinEmit, .twinHold, .zeroized]
  | .ownerEnrol _ | .kekGenerate | .provisionCommit => [.provision]
  | .portMap _ _ _ | .saImport _ _ _ => [.configure]
  | .merStep _ _ _ _ _ => [.configure, .diagnostic]
  | .portEq _ _ _ | .memRetrain _ => [.configure, .solo, .twinJoin, .twinEmit, .twinHold, .diagnostic]
  | .saErase _ => [.configure, .solo, .twinEmit, .twinHold, .drain]
  | .pkeJob _ => [.provision, .configure, .solo, .twinJoin, .twinEmit, .twinHold, .diagnostic]
  | .twinArbitrate _ => [.twinEmit]
  | .twinSwitchback => [.twinHold]
  | .diagSaLoad _ _ _ | .diagLoopback _ _ _ _ => [.diagnostic]
  | .fwActivate _ | .keyImport _ _ | .cakLoad _ _ | .saInstall _ _ _ | .saRewrite _ _ _ | .saPin _ | .saUnpin _ | .saExport _ _ _
  | .gazEdit _ | .conEdit _ | .surveyStart _ _ _ | .eclSchedule _ _ _ _ _ | .eclCancel _ _ _ | .tsiSwap _ _ | .almAdvance _ _
  | .almRenew _ | .sealRekey _ => [.configure, .solo, .twinEmit, .twinHold]
  | .unknown _ => []

/-- The paired orders (R311). -/
def paired : Order → Bool
  | .saInstall _ _ _ | .saRewrite _ _ _ | .saErase _ | .saPin _ | .saUnpin _ | .gazEdit _ | .conEdit _ | .eclSchedule _ _ _ _ _
  | .eclCancel _ _ _ | .tsiSwap _ _ | .almAdvance _ _ | .almRenew _ | .twinArbitrate _ => true
  | _ => false

/-- Whether an order takes two slots of 32 bytes. -/
def twoSlots : Order → Bool
  | .conEdit _ | .portMap _ _ _ => true
  | _ => false

end Sys2Proof.Machine
end

