-- ==== Sys2Proof/Machine/Orders.lean ====
section
/-! DEFINITION. Host orders (R40-R43, R409-R419): legality, what each order does when Tircy takes it, completions
and the drain limit (R55). -/

namespace Sys2Proof.Machine

/-! ### Legality (R42, R43) -/

/-- Whether the present mode allows an order; of a MODE_SET also the change it names (R42, R43). -/
def orderLegal (s : State) (o : Order) : Bool :=
  modeIn (orderModes o) s &&
    (match o with
     | .modeSet m => (match Mode.ofCode m with | some t => modeSetOk s t | none => false)
     | _ => true)

/-! ### What an order does (R41) -/

/-- A chore item of a host order enters its part of the queue, or the tick list in the twin modes (R22, R311). -/
def queueItem (ord : Nat) (b : ChoreBody) (s : State) : State :=
  if twinMode s then listAdd (.chore false (some ord) b) s else enqueue (chorePart false (twinId s)) (some ord) b s

/-- An item with an image: in the twin modes the image is read, and its key unwrapped, when the order is taken (R311). -/
def queueImage (ord off slot : Nat) (plain : ChoreBody) (mk : List Word → Option Bytes → ChoreBody) (s : State) : State :=
  if twinMode s then
    match readImage off false s with
    | (some img, s1) => listAdd (.chore false (some ord) (mk img (imageKey s1 slot img))) s1
    | (none, s1) => endOrder ord .fault 0 s1
  else queueItem ord plain s

/-- A tick-scheduled or Almanac order: at once, or with its tick list (R311). -/
def pairItem (it : ListItem) (now_ : State → State) (s : State) : State := if twinMode s then listAdd it s else now_ s

/-- An Almanac order: what it names is judged as it is taken (R220, R221), and it then acts at once or with its tick list. -/
def almItem (ord : Nat) (refused : Option Status) (it : ListItem) (now_ : State → State) (s : State) : State :=
  match refused with
  | some st => endOrder ord st 0 s
  | none => pairItem it now_ s

/-- ZEROIZE (R61). -/
def zeroizeOrder (ord : Nat) (s : State) : State :=
  if s.dev.mode = .zeroized then zeroize (some ord) s else enterZeroized 0x13 (some ord) s

/-- MODE_SET: the change falls due at the next boundary. -/
def modeSetOrder (ord m : Nat) (s : State) : State :=
  match Mode.ofCode m with
  | some t => trigger t 0x0B 6 (some ord) s
  | none => s

/-- An order judged legal is carried out (R41). -/
def carryOrder (ord : Nat) (o : Order) (s : State) : State :=
  match o with
  | .nop => endOrder ord .ok 0 s
  | .logRead f c off => logRead ord f c off s
  | .warmReset => warmReset 0x03 s
  | .modeSet m => modeSetOrder ord m s
  | .attest c r => attestReq ord c r s
  | .fwStage i l n => fwStage ord i l n s
  | .fwActivate n => fwActivate ord n s
  | .ownerEnrol off => ownerEnrol ord off s
  | .kekGenerate => kekGenerate ord s
  | .provisionCommit => provisionCommit ord s
  | .zeroize _ => zeroizeOrder ord s
  | .portMap side g ps => portMapReq ord side g ps s
  | .portEq r side p => portEqReq ord r side p s
  | .memRetrain c => memRetrain ord c s
  | .merStep n p sec ns fr => merStepReq ord n p sec ns fr s
  | .keyImport n off => keyImport ord n off s
  | .cakLoad n off => cakLoad ord n off s
  | .saInstall i off n => queueImage ord off n (.install i off n false) (fun img k => .installImg i img k false) s
  | .saRewrite i off n => queueImage ord off n (.rewrite i off n) (fun img k => .rewriteImg i img k) s
  | .saErase i => queueItem ord (.erase i) s
  | .saPin i => queueItem ord (.pin i) s
  | .saUnpin i => queueItem ord (.unpin i) s
  | .saExport i off n => saExport ord i off n s
  | .saImport i off n => queueItem ord (.install i off n true) s
  | .gazEdit a => queueItem ord (.gaz a) s
  | .conEdit a => queueItem ord (.con a) s
  | .surveyStart b c r => surveyStart ord b c r s
  | .eclSchedule k i n t f => pairItem (.ecl (some ord) k i n t f) (eclRequest (some ord) false k i n t f) s
  | .eclCancel k i t => pairItem (.eclCancel (some ord) k i t) (eclCancel (some ord) k i t) s
  | .tsiSwap d t =>
    if tsiBad s (dirNum d) then endOrder ord .arg 0 s
    else pairItem (.tsi (some ord) (dirNum d) t) (tsiSwapReq (some ord) (dirNum d) t) s
  | .almAdvance m t => almItem ord (advanceRefused s m) (.advance (some ord) m t) (advanceGo (some ord) m t) s
  | .almRenew c => almItem ord (renewRefused s c (renewListed s c)) (.renew (some ord) c) (renewGo (some ord) c) s
  | .sealRekey k => sealRekey ord k s
  | .pkeJob off => pkeSubmit ord off s
  | .twinArbitrate r => listAdd (.arbitrate (some ord) r) s
  | .twinSwitchback => switchback ord s
  | .diagSaLoad i k off => diagSaLoad ord i k off s
  | .diagLoopback m n b side => diagLoopback ord m n b side s
  | .unknown _ => endOrder ord .arg 0 s

/-- An order is taken: it is outstanding from now on, and judged (R40, R411). -/
def beginOrder (h : OrdHdr) (op : Nat) (s : State) : Nat × State :=
  let id := s.ords.nextId
  (id, bump (pg .ord) 0x200 1
    { s with ords := { s.ords with outs := s.ords.outs ++ [{ id := id, tag := h.tag, op := op, int := h.int }], nextId := id + 1,
                                   lastTag := h.tag } })

/-- The judgement of an order (R40): ARG, STATE, or it is carried out. DEDUCED, unsafe (log entry 19). -/
def judgeOrder (id : Nat) (o : Order) (s : State) : State :=
  if !orderFormed s o then endOrder id .arg 0 s
  else if !orderLegal s o then endOrder id .state 0 s
  else carryOrder id o s

/-- Take an order and judge it. -/
def runOrder (h : OrdHdr) (o : Order) (s : State) : State :=
  let p := beginOrder h (orderCode o) s
  judgeOrder p.1 o p.2

/-! ### The submission ring (R409-R411) -/

/-- Whether the rings are enabled, and their sizes. -/
def ordEn (s : State) : Bool := bit (getReg s (ra (pg .ord) 0x100)) 31
def sqSlots (s : State) : Nat := 2 ^ regFld s (ra (pg .ord) 0x108) 3 0
def cqSlots (s : State) : Nat := 2 ^ regFld s (ra (pg .ord) 0x118) 4 0

/-- Whether Tircy has room for another order: the rings are enabled, fewer than 4,096 orders are outstanding and a completion
slot is free (R411); none is taken while the rings are rewritten for ZEROIZED (R419) or Tircy restarts on a new image (R459). -/
def takeRoom (s : State) : Bool :=
  ordEn s && !modeIn [.lunar, .reset] s && decide (outstanding s < 4096) &&
    decide (outstanding s + tdiff s.ords.cqTail s.ords.cqHead < cqSlots s) && s.fwu.phase != 4 && !ringsHeld s

/-- Whether this order may be taken: a fenced one only when none is outstanding (R411); no paired one from T - 130 on (R334).
DEDUCED, unsafe (log entry 58). -/
def mayTake (s : State) (fence : Bool) (o : Order) : Bool :=
  takeRoom s && (!fence || outstanding s == 0) && !(s.twin.held && twinMode s && paired o)

/-- The SQ advances past `n` slots. -/
def sqPass (n : Nat) (s : State) : State := { s with ords := { s.ords with sqHead := s.ords.sqHead + wd n } }

/-- Whether descriptors have the 32 bytes of the DX08 (R414). -/
def slotBytes32 (s : State) : Bool := behaviour s 3

/-- An order that the host submits and Tircy takes: the typed rows of the table. The host places the descriptor at SQ_TAIL of an
empty ring and rings the doorbell. DESIGN CHOICE, safe (log entry 20). -/
def submitOrder (h : OrdHdr) (o0 : Order) (s : State) : State :=
  let o := normOrder o0
  if reachable .host s && s.ords.sqHead == s.ords.sqTail && mayTake s h.fence o then
    let n := if slotBytes32 s && twoSlots o then 2 else 1
    runOrder h o (sqPass n { s with ords := { s.ords with sqTail := s.ords.sqTail + wd n } })
  else s

/-- The BAR2 offset of an SQ slot. -/
def sqSlot (s : State) (i : Word) : Nat :=
  (getReg s (ra (pg .ord) 0x104)).toNat + i.toNat % sqSlots s * (if slotBytes32 s then 32 else 64)

/-- A descriptor of `n` slots that cannot be read: FAULT with TAG 0xFFFF_FFFF and a record (R418).
DESIGN CHOICE, unsafe (log entry 21). -/
def descFail (n : Nat) (s : State) : State :=
  let p := beginOrder { tag := 0xFFFFFFFF, int := false, fence := false } 0 s
  let r := { ordErr p.2 1 0x86 0 0 0 with ident := s.ords.sqHead.toNat }
  endOrder p.1 .fault 0 (event (pg .ord) 2 (fail r (sqPass n p.2)))

/-- Take the order whose first slot reads `b`. DESIGN CHOICE, unsafe (log entry 21). -/
def takeFrom (b : Bytes) (s s1 : State) : State :=
  let w := bytesToWords 16 (b ++ zeros (64 - b.length))
  let o := orderOf w
  let h : OrdHdr := { tag := w.getD 1 0, int := bit (w.getD 0 0) 16, fence := bit (w.getD 0 0) 17 }
  let bad := fun (n : Nat) (s : State) => let p := beginOrder h (orderCode o) (sqPass n s); endOrder p.1 .arg 0 p.2
  if !mayTake s h.fence o then s
  else if slotBytes32 s && twoSlots o then
    if !bit (w.getD 0 0) 18 || tdiff s.ords.sqTail s.ords.sqHead < 2 then bad 1 s1
    else match readBar2 (.tircy 0) (sqSlot s (s.ords.sqHead + 1)) 32 s1 with
      | (none, s2) => descFail 2 s2
      | (some c, s2) => runOrder h (orderOf (bytesToWords 16 (b ++ c))) (sqPass 2 s2)
  else runOrder h o (sqPass 1 s1)

/-- ORDER_TAKE (R411). DESIGN CHOICE, safe (log entry 20). -/
def orderTake (s : State) : State :=
  if !takeRoom s || s.ords.sqHead == s.ords.sqTail then s
  else match readBar2 (.tircy 0) (sqSlot s s.ords.sqHead) (if slotBytes32 s then 32 else 64) s with
    | (none, s1) => descFail 1 s1
    | (some b, s1) => takeFrom b s s1

/-! ### The completion ring (R415-R418) -/

/-- The counter of a status. -/
def statusCtr : Status → Nat
  | .ok => 0x210 | .state => 0x218 | .arg => 0x220 | .busy => 0x228 | .aborted => 0x230 | .auth => 0x238 | .fault => 0x238 | .spent => 0x238

/-- The words of a completion record (R415). -/
def complWords (e : EndRec) (index slots : Nat) : List Word :=
  [e.tag, wd (index / slots % 2 * 2 ^ 31 + e.op * 2 ^ 16 + e.status.code * 256), e.detail, e.tick]

/-- COMPLETION_POST: the oldest order that has ended. -/
def completionPost (s : State) : State :=
  match s.ords.ended with
  | [] => s
  | e :: rest =>
    if ringsHeld s || !ordEn s then s
    else
      let i := s.ords.cqTail.toNat
      let off := (getReg s (ra (pg .ord) 0x114)).toNat + i % cqSlots s * 16
      let w := writeBar2 (.tircy 0) off (wordsToBytes (complWords e i (cqSlots s))) s
      let s1 := { w.2 with ords := { w.2.ords with ended := rest, cqTail := w.2.ords.cqTail + 1 } }
      let s2 := bump (pg .ord) 0x208 1 (bump (pg .ord) (statusCtr e.status) 1 s1)
      let s3 := eventIf e.int (pg .ord) 1 s2
      if w.1 then s3 else event (pg .ord) 2 (fail (ordErr s3 1 0x87 e.tag e.op e.status.code) s3)

/-! ### The drain limit (R55) -/

/-- Every outstanding order that has not ended is aborted; the order of a host's PKE job has its record as a job already.
DEDUCED, unsafe (log entry 22). -/
def limitOrder (s : State) (o : OrdRec) : State := if o.op = 0x48 then endOrder o.id .aborted 0x12 s else abortOrder o.id 0x2A s

/-- DRAIN_LIMIT: 64 ticks after entry every item still in flight is ended. DEDUCED, unsafe (log entry 22). -/
def drainLimit (s0 : State) : State :=
  if s0.dev.mode != .drain || s0.dev.drainTicks < 64 then s0
  else
    let s := reap s0
    let s1 := (s.frames.list.filter (fun f => f.kind != .control)).foldl (fun s f => endBad f 0x2A 0 s) s
    let s2 := (s1.pke.jobs.map (·.area)).foldl (fun s a => zeroArea a s) (s1.pke.jobs.foldl (pkeKill 0x2A) s1)
    let s3 := { s2 with pke := { s2.pke with jobs := [] }, grt := { s2.grt with queue := [] }, maps := [],
                        ords := { s2.ords with commit := [] }, alm := { s2.alm with ords := [] },
                        swp := { s2.swp with survey := s2.swp.survey.filter (fun v => v.ord.isNone) },
                        mer := { s2.mer with step := [] }, twin := { s2.twin with lists := [], alignReq := false, alignFixed := false, alignOrd := none } }
    let s4 := commitEnds { s3 with ords := { s3.ords with commit := s2.ords.commit } }
    s4.ords.outs.foldl limitOrder s4

end Sys2Proof.Machine
end

