-- ==== Sys2Proof/Machine/Flags.lean ====
section
/-! DEFINITION. What follows every command: condition sources (R73), the aggregation and delivery of interrupts (R85-R88) and
the level of FAULT_N. It changes the Legend headers' INT_STAT, the interrupt state and what has left the device, nothing else. -/

namespace Sys2Proof.Machine

/-! ### Condition sources (R73) -/

/-- Whether a signal fail stands on both tributaries of an enabled group. -/
def sfBoth (s : State) (n : Nat) : Bool :=
  apsEn s n && sigFail (tribOf s (apsWork s n)).rep && sigFail (tribOf s (apsProt s n)).rep

/-- The condition sources of single pages, with whether each holds. -/
def pageConds (s : State) : List (Nat × Nat × Bool) :=
  [(pg .sys, 1, sysFault s != 0),
   (pg .gaz, 1, decide (regFld s (ra (pg .gaz) 0x110) 21 0 ≤ gazCount s.gaz.work)),
   (pg .lrn, 0, s.lrn.prod != s.lrn.cons),
   (pg .swp, 0, !s.swp.mis.isEmpty),
   (pg .orb, 1, decide (16384 ≤ (installedSas s).countP (fun i => (workSa s i).pinned))),
   (pg .alm, 0, !s.alm.notes.isEmpty),
   (pg .ecl, 0, !s.ecl.notes.isEmpty),
   (pg .sch, 3, decide (8192 ≤ inFlight s .enc) || decide (8192 ≤ inFlight s .dec)),
   (pg .aps, 1, s.aps.any (·.cfgErr)),
   (pg .aps, 2, (List.range 128).any (sfBoth s)),
   (pg .pmb, 0, !s.pmb.tca.isEmpty),
   (pg .twn, 1, s.twin.disState == 2),
   (pg .old, 0, bit (getReg s (ra (pg .old) 0x100)) 31 && !oldSync s),
   (pg .mer, 0, s.mer.adrift),
   (pg .mer, 1, s.mer.pairAdrift),
   (pg .seal, 1, decide (4096 ≤ s.sealPath.poison.length)),
   (pg .ord, 0, s.ords.cqTail != s.ords.cqHead),
   (pg .era, 0, s.era.prod != s.era.cons),
   (pg .era, 1, !s.era.sums.isEmpty),
   (pg .era, 3, decide (regFld s (ra (pg .era) 0x110) 16 0 ≤ eraHeld s)),
   (pg .rng, 1, s.rng.st == 2),
   (pg .hlt, 1, s.dev.health),
   (pg .smp, 0, s.smp.prod != s.smp.cons)]

/-- Those of pages with several instances. -/
def unitConds (s : State) : List (Nat × Nat × Bool) :=
  (List.range 16).map (fun p => (pg .plain p, 4, (portOf s .plain p).xoff)) ++
  (List.range 8).flatMap (fun h =>
    [(pg .hwy h, 0, (hwyOf s h).los), (pg .hwy h, 1, (hwyOf s h).losync), (pg .hwy h, 2, (hwyOf s h).lof || (hwyOf s h).loopLof),
     (pg .mem h, 2, (chanState s h).st == 5), (pg .bdy h, 1, !(bdyOf s h).notices.isEmpty)])

/-- ERR and PMC_OVF of one header. -/
def stdConds (frozen : Bool) (l : Legend) : Legend :=
  let v := (if bit l.errInfo 31 then oneBit 31 else 0) ||| (if fld l.pmcCtrl 31 24 != 0 then oneBit 30 else 0)
  if v = 0 then l else statLegend frozen v l

/-- Every condition source whose condition holds is set. DESIGN CHOICE, unsafe (log entry 14). -/
def setConds (s : State) : State :=
  let s1 := ((pageConds s ++ unitConds s).filter (fun c => c.2.2)).foldl (fun s c => event c.1 c.2.1 s) s
  { s1 with legends := (s1.legends.map (fun e => (e.1, stdConds (gfreeze s1) e.2))).filter (fun e => decide (e.2 ≠ Legend.init)) }

/-! ### Delivery (R85-R87) -/

/-- A page's pending output (R74). -/
def pendingOut (l : Legend) : Bool := (l.intStat &&& l.intEn) != 0

/-- The source indices whose pending output is 1. -/
def pendingSrcs (s : State) : List Nat := (s.legends.filter (fun e => pendingOut e.2)).map (fun e => pageSrc e.1)

/-- The vector INT_VEC_MAP gives a source, unless it is disabled. -/
def vecOf (s : State) (src : Nat) : Option Nat :=
  let b := (getReg s (ra (pg .int) (0x200 + 4 * (src / 4)))).toNat / 2 ^ (8 * (src % 4)) % 256
  if 128 ≤ b then none else some (b % 64)

/-- The asserted vectors as bits (R85): bit 0 alone under single-vector MSI, where all are one (R87). -/
def assertedVecs (s : State) : Nat :=
  if behaviour s 4 then b2n (!(pendingSrcs s).isEmpty)
  else (((pendingSrcs s).filterMap (vecOf s)).eraseDups.map (fun v => 2 ^ v)).sum

/-- Whether a vector's message may be sent now (R86, R408). -/
def vecOpen (s : State) (v : Nat) : Bool :=
  s.dev.pcieUp && !s.intr.fmask && (behaviour s 4 || !bit (getReg s (ra (pg .int) (0x80C + 16 * v))) 0)

/-- The message of a vector is sent, or its PBA bit is set. PRESUMED, unsafe (log entry 9). -/
def sendVec (s : State) (v : Nat) : State :=
  if vecOpen s v then emit (if behaviour s 4 then .msi else .msix v) s
  else { s with intr := { s.intr with pba := s.intr.pba ||| 2 ^ v } }

/-- A pending bit whose vector is open again sends its one message. PRESUMED, unsafe (log entry 9). -/
def releaseVec (s : State) (v : Nat) : State :=
  if s.intr.pba.testBit v && vecOpen s v then sendVec { s with intr := { s.intr with pba := s.intr.pba ^^^ 2 ^ v } } v else s

/-- Vectors that have become asserted send their messages.
PRESUMED, unsafe (log entry 9). DESIGN CHOICE, unsafe (log entry 14). -/
def deliver (s : State) : State :=
  let n := assertedVecs s
  let was := s.intr.asserted
  let s1 := ((List.range 64).filter (fun v => n.testBit v && !was.testBit v)).foldl sendVec { s with intr := { s.intr with asserted := n } }
  if s1.intr.pba = 0 then s1 else (List.range 64).foldl releaseVec s1

/-- FAULT_N follows SYS_FAULT; it is low in RESET and LUNAR (R88). DESIGN CHOICE, unsafe (log entry 14). -/
def faultPin (s : State) : State :=
  let level := sysFault s == 0 && !modeIn [.lunar, .reset] s
  if level = s.intr.faultN then s else emit (.pin 0 level) { s with intr := { s.intr with faultN := level } }

/-- What follows every command. DESIGN CHOICE, unsafe (log entry 14). -/
def settle (s : State) : State := faultPin (if modeIn [.lunar, .reset] s then s else deliver (setConds s))

/-- The end of every meaning: the next state, settled. -/
def done (s : State) : Host.Outcome State Fault Refusal := .next (settle s)

end Sys2Proof.Machine
end

