-- ==== Sys2Proof/Machine/RegWrite.lean ====
section
/-! DEFINITION. Writes of registers (R44, R47-R49, R63-R90 and the register tables): what a permitted write of one 32-bit word does,
register by register. -/

namespace Sys2Proof.Machine

/-! ### Plain fields (R66, R67) -/

/-- A field of a register: its highest and lowest bit. -/
abbrev Fld := Nat × Nat

/-- The written word with read-only bits and refused fields at their old values. -/
def mergeWord (old v : Word) (mask : Nat) (bad : List Fld) : Word :=
  bad.foldl (fun w f => setFld w f.1 f.2 (fld old f.1 f.2)) ((old &&& ~~~ (wd mask)) ||| (v &&& wd mask))

/-- Store the writable fields of a word; refused fields keep their values, and the page captures RANGE.
DESIGN CHOICE, unsafe (log entry 27). -/
def putFields (m : Master) (a mask : Nat) (bad : List Fld) (v : Word) (s : State) : State :=
  let s1 := setReg s a (mergeWord (getReg s a) v mask bad)
  if bad.isEmpty then s1 else regErr m a 0x06 s1

/-- The fields of a row that a value leaves outside their ranges. -/
def rangeBad (r : RegRow) (v : Word) : List Fld :=
  (r.rng.filter (fun f => fld v f.1 f.2.1 < f.2.2.1 || f.2.2.2 < fld v f.1 f.2.1)).map (fun f => (f.1, f.2.1))

/-- The plain write of a register (R67), with further fields refused. DESIGN CHOICE, unsafe (log entry 27). -/
def putReg (m : Master) (a : Nat) (r : RegRow) (more : List Fld) (v : Word) (s : State) : State :=
  putFields m a r.mask (rangeBad r v ++ more) v s

/-- A write that the present mode does not allow captures MODE (R44). -/
def inModes (l : List Mode) (m : Master) (a : Nat) (f : State → State) (s : State) : State :=
  if modeIn l s then f s else regErr m a 0x01 s

/-- A GO bit. -/
def goBit (v : Word) (f : State → State) (s : State) : State := if bit v 0 then f s else s

/-- A write to an unassigned page (R63). DESIGN CHOICE, unsafe (log entry 32). -/
def unmapped (m : Master) (a : Nat) (s : State) : State := captureErr (pg .sys) 0x04 (mCls m) 0 (wd a) 0 s

/-! ### Snapshots (R78-R80) -/

/-- A Meridian time as seconds, low and high, and nanoseconds, from page offset `o` (R339). -/
def merWords (o t : Nat) : List (Nat × Nat) :=
  let sec := t / nsUnit / 1000000000
  [(o, sec % 2 ^ 32), (o + 4, sec / 2 ^ 32 % 2 ^ 16), (o + 8, t / nsUnit % 1000000000)]

/-- Registers that are snapshot registers beside the counters: Meridian time, the PPS capture, the RTC and the selected
Errata summary. -/
def snapExtras (s : State) (page : Nat) : List (Nat × Nat) :=
  match pageAt page with
  | some (.mer, _) => merWords 0x110 s.time.mer ++ [(0x11C, s.time.mer % nsUnit / 2 ^ 31)] ++ merWords 0x140 (s.mer.ppsAt.getD 0)
  | some (.lun, _) => [(0x154, s.lun.rtcSec.toNat), (0x158, s.lun.rtcFrac / 125)]
  | some (.era, _) =>
    let x := sumOf s (regFld s (ra (pg .era) 0x140) 7 0)
    let half : Nat → Option ErrRec → Nat → List (Nat × Nat) := fun o r sum =>
      let ws := match r with
        | some y => recWords y sum 0 x.count
        | none => List.replicate 8 0
      (List.range 8).map (fun k => (o + 4 * k, (ws.getD k 0).toNat))
    half 0x160 x.first 1 ++ half 0x180 x.last 2
  | _ => []

/-- The counters of a page by page offset. -/
def pageCtrs (s : State) (page : Nat) : List (Nat × Nat) :=
  (s.ctrs.filter (fun e => e.1 / 0x1000 == page)).map (fun e => (e.1 % 0x1000, e.2))

/-- One page's capture into a set; a carry of the same clock is in it (R79). -/
def capture (set page : Nat) (s : State) : State :=
  let x : Snap := { tick := now s, clk := s.time.clk, cyc := s.time.cyc, pmc := (pmcCarry (legend s page)).pmc,
                    ctrs := (snapExtras s page).foldl (fun l e => spSet 0 l e.1 e.2) (pageCtrs s page) }
  { s with snaps := spSet Snap.init s.snaps (2 * page + set) x }

/-- SNAP.GO. -/
def snapGo (m : Master) (page : Nat) (s : State) : State := capture (mSet m) page s

/-- Every assigned page. -/
def allPages : List Nat := pageMap.flatMap (fun r => (List.range r.count).map (fun i => r.first + i))

/-- SYS_GSNAP.GO. -/
def gsnapGo (m : Master) (s : State) : State := allPages.foldl (fun s p => snapGo m p s) s

/-! ### The Legend header (R68, R71, R73-R76, R82-R84) -/

/-- The pipeline of a page. -/
def pageInst (page : Nat) : Nat :=
  match pageAt page with
  | some (_, i) => i
  | none => 0

/-- LEGEND_CTRL.LOCK. -/
def lockPage (page : Nat) (s : State) : State := modLegend page (fun l => { l with lock := true }) s

/-- LEGEND_CTRL.QREQ takes a value on a quiescable page. -/
def qreqWrite (page : Nat) (on : Bool) (s : State) : State :=
  if !quiescable page || (legend s page).qreq == on then s
  else
    let s1 := modLegend page (fun l => { l with qreq := on }) s
    if on then pipeQuiesce (pageInst page) s1 else pipeLeave (pageInst page) s1

/-- LEGEND_CTRL.EN takes a value: 0 takes effect only while quiesced. -/
def enWrite (m : Master) (page : Nat) (on : Bool) (s : State) : State :=
  let l := legend s page
  if !quiescable page || l.en == on then s
  else if !on && !l.quiesced then regErr m (ra page 0x008) 0x07 s
  else
    let s1 := modLegend page (fun l => { l with en := on }) s
    if on then pipeLeave (pageInst page) s1 else s1

/-- LEGEND_CTRL.SRST: it takes effect only while quiesced, and on a retired pipeline (R205).
DESIGN CHOICE, unsafe (log entry 29). -/
def srstWrite (m : Master) (page : Nat) (s : State) : State :=
  if !quiescable page then s
  else if (legend s page).quiesced || (pipeOf s (pageInst page)).role == 3 then
    pipeSrst (pageInst page) s
  else regErr m (ra page 0x008) 0x07 s

/-- A write of LEGEND_CTRL. -/
def ctrlWrite (m : Master) (page : Nat) (v : Word) (s : State) : State :=
  let s1 := if bit v 31 then lockPage page s else s
  let s2 := if bit v 1 then srstWrite m page s1 else s1
  qreqWrite page (bit v 2) (enWrite m page (bit v 0) s2)

/-- INT_FORCE. DESIGN CHOICE, unsafe (log entry 28). -/
def forceInt (page : Nat) (v : Word) (s : State) : State := modLegend page (fun l => { l with intStat := l.intStat ||| (v &&& intMask page) }) s

/-- INT_STAT: 1 clears. -/
def clearInt (page : Nat) (v : Word) (s : State) : State := modLegend page (fun l => { l with intStat := l.intStat &&& ~~~ v }) s

/-- ERR_INFO: 1 to VALID clears VALID and OVERRUN, 1 to OVERRUN clears it.
DESIGN CHOICE, unsafe (log entry 27). -/
def clearErr (page : Nat) (v : Word) (s : State) : State :=
  modLegend page (fun l =>
    if bit v 31 then { l with errInfo := setFld l.errInfo 31 30 0 }
    else if bit v 30 then { l with errInfo := setBit l.errInfo 30 false } else l) s

/-- PMCn, PMC_SELn and PMC_CTRL: pending carries first (R84). DESIGN CHOICE, unsafe (log entry 28). -/
def pmcPut (m : Master) (page off : Nat) (v : Word) (s0 : State) : State :=
  let s := modLegend page pmcCarry s0
  if off < 0x0A8 then modLegend page (fun l => { l with pmc := l.pmc.set ((off - 0x088) / 4) v }) s
  else if off < 0x0C8 then
    let i := (off - 0x0A8) / 4
    let bad := decide (pmcMax page < fld v 15 0)
    let put := fun (l : Legend) =>
      let old := l.pmcSel.getD i 0
      { l with pmcSel := l.pmcSel.set i (mergeWord old v 0x8000FFFF (if bad then [(15, 0)] else [])) }
    let s1 := modLegend page put s
    if bad then regErr m (ra page off) 0x06 s1 else s1
  else
    let bad := decide (24 < fld v 20 16)
    let put := fun (l : Legend) =>
      let old := l.pmcCtrl
      let w := mergeWord old v 0x001F030F (if bad || !tagPoint page then [(20, 16)] else [])
      { l with pmcCtrl := setFld w 31 24 (fld (old &&& ~~~ v) 31 24) }
    let s1 := modLegend page put s
    if bad then regErr m (ra page off) 0x06 s1 else s1

/-- A write into the Legend header. -/
def legendWrite (m : Master) (page off : Nat) (r : RegRow) (v : Word) (s : State) : State :=
  if r.acc = .ro then regErr m (ra page off) 0x05 s
  else match off with
    | 0x008 => ctrlWrite m page v s
    | 0x010 => clearInt page v s
    | 0x014 => modLegend page (fun l => { l with intEn := v &&& intMask page }) s
    | 0x018 => forceInt page v s
    | 0x020 => clearErr page v s
    | 0x02C => modLegend page (fun l => { l with errCount := v }) s
    | 0x040 => goBit v (snapGo m page) s
    | _ => if 0x088 ≤ off then pmcPut m page off v s else s

/-! ### SYS, GRT and INT (R47-R49, R85-R90) -/

/-- Whether an SA of a legacy suite is installed. -/
def legacyHeld (s : State) : Bool := (installedSas s).any (fun i => isLegacy (recSuite (workSa s i).record))

/-- SYS_COMPAT (R44, R47-R49). PRESUMED, unsafe (log entry 9). -/
def compatWrite (m : Master) (v : Word) (s : State) : State :=
  let a := ra (pg .sys) 0x104
  inModes [.configure] m a (fun s =>
    let s1 := setReg s a (v &&& 0x1F)
    if behaviour s 1 && !behaviour s1 1 && legacyHeld s then regErr m a 0x01 s
    else if behaviour s 3 != behaviour s1 3 && outstanding s != 0 then regErr m a 0x01 s
    else if behaviour s 4 = behaviour s1 4 then s1
    else { s1 with intr := { s1.intr with asserted := 0, pba := 0 } }) s

/-- INT_EOI: an asserted vector's message again (R85, R87). -/
def eoiWrite (v : Word) (s : State) : State :=
  let n := if behaviour s 4 then 0 else fld v 5 0
  if s.intr.asserted.testBit n then sendVec s n else s

/-- The vector control word of an MSI-X table entry (R86). PRESUMED, unsafe (log entry 9). -/
def maskVec (vec : Nat) (masked : Bool) (s : State) : State :=
  let a := ra (pg .int) (0x80C + 16 * vec)
  setReg s a (setBit (getReg s a) 0 masked)

/-- Reservations of a tick (R89): TSI swaps of each direction and Eclipse activations. -/
def resvOf (s : State) (t : Tick) : Nat :=
  let sw := fun (d : Nat) => b2n ((s.tsi.swap.getD d []).any (fun x => x.1 == t))
  sw 1 * 2 ^ 17 + sw 0 * 2 ^ 16 + min 0x1FFF (eclReserved s t)

/-! ### Ports (R44, R92, R97, R107, R108, R112-R114) -/

/-- EtherTypes that no clear-pass entry of a side may name (R112). -/
def clearTypeBad (side : Side) (e : Nat) : Bool :=
  e == 0x888E || e == 0x8808 || (side == .line && (e == 0x88E5 || e == 0x0800 || e == 0x86DD))

/-- Further fields that a write of a port register refuses: the ETYPE of a clear-pass entry (R112), the group bit of the
port's own address (R113). -/
def portBad (side : Side) (off : Nat) (v : Word) : List Fld :=
  if 0x140 ≤ off && off < 0x160 && clearTypeBad side (fld v 15 0) then [(15, 0)]
  else if off = 0x12C && bit v 8 then [(15, 0)] else []

/-- PORT_PFC_THR (R107). -/
def pfcThr (m : Master) (p : Nat) (v : Word) (s : State) : State :=
  let a := ra (pg .plain p) 0x114
  if fld v 12 0 ≤ fld v 28 16 then regErr m a 0x40 s else pfcCheck p (setReg s a (v &&& 0x1FFF1FFF))

/-- PORT_LOOP.MODE (R44, R114). -/
def portLoopReg (m : Master) (side : Side) (p : Nat) (v : Word) (s : State) : State :=
  inModes [.diagnostic] m (ra (portPage side p) 0x120) (portLoop side p (fld v 1 0)) s

/-- A port page's registers. DESIGN CHOICE, unsafe (log entry 29). -/
def portReg (m : Master) (side : Side) (p off : Nat) (r : RegRow) (v : Word) (s : State) : State :=
  let a := ra (portPage side p) off
  match off with
  | 0x100 => inModes [.configure] m a (putReg m a r [] v) s
  | 0x108 => let s1 := putReg m a r [] v s; if bit v 1 then linkDownCmd side p 2 s1 else s1
  | 0x114 => pfcThr m p v s
  | 0x11C =>
    let s1 := putReg m a r [] v s
    if linkUp (portOf s1 side p) then modPort side p (verifyStart s1 side p) s1
    else modPort side p (fun x => { x with verify := 0, verTries := 0 }) s1
  | 0x120 => portLoopReg m side p v s
  | _ => putReg m a r (portBad side off v) v s

/-! ### Tables (R121, R122, R140, R141) -/

/-- A Gazetteer seed (R122): in CONFIGURE, and the working image empties. -/
def seedWrite (m : Master) (k : Nat) (v : Word) (s : State) : State :=
  let a := ra (pg .gaz) (0x100 + 4 * k)
  inModes [.configure] m a (fun s => setWork [] (setReg s a v)) s

/-- GAZ_RD_CTRL.GO (R121): an entry found is loaded; otherwise only FOUND changes.
DESIGN CHOICE, unsafe (log entry 29). -/
def gazRead (s : State) : State :=
  let q := getReg s (ra (pg .gaz) 0x130)
  let key := leNat (wordsToBytes ((List.range 4).map (fun i => getReg s (ra (pg .gaz) (0x120 + 4 * i)))))
  let s1 := match workFind s (fld q 7 4) (fld q 3 0) key with
    | some (n, e) =>
      let d := bytesToWords 4 (leBytes 16 e.key) ++ [wd (slotCheck n (some e) * 2 ^ 16 + e.kind * 16 + e.port), wd (gazData5 (some e))]
      { s with gaz := { s.gaz with rdPos := wd (2 ^ 31 + n), rdData := d } }
    | none => { s with gaz := { s.gaz with rdPos := setBit s.gaz.rdPos 31 false } }
  event (pg .gaz) 2 s1

/-- CON_RD_CTRL.GO (R121): an entry at the position is loaded; otherwise only VALID changes.
DESIGN CHOICE, unsafe (log entry 29). -/
def conRead (s : State) : State :=
  let s1 := match s.con.work[regFld s (ra (pg .con) 0x104) 15 0]? with
    | some e =>
      let res := 2 ^ 31 + e.action * 2 ^ 29 + e.cls * 2 ^ 27 + e.sa
      { s with con := { s.con with rd := bytesToWords 5 (leBytes 20 e.value) ++ bytesToWords 5 (leBytes 20 e.mask) ++ [wd res, wd e.prio] } }
    | none => { s with con := { s.con with rd := s.con.rd.set 10 (setBit (s.con.rd.getD 10 0) 31 false) } }
  event (pg .con) 1 s1

/-- ORB_RD_CTRL.GO (R168). -/
def orbRead (s : State) : State :=
  let i := regFld s (ra (pg .orb) 0x120) 20 0
  let e := workSa s i
  let dir := e.st * 2 ^ 30 + e.dir * 2 ^ 29 + b2n e.pinned * 2 ^ 28 + b2n e.resident * 2 ^ 27 + b2n e.faultSeq * 2 ^ 26 + e.gen * 2 ^ 18 +
    (if e.resident then e.slot else 0)
  let words := (List.range 64).map (fun n => if 16 ≤ n && n < 28 then 0 else recW (recView s i) n)
  event (pg .orb) 2 { s with orb := { s.orb with rdDir := wd dir, rdData := if e.st = 0 then List.replicate 64 0 else words } }

/-- SEQ_RD_CTRL.GO (R148). -/
def seqRead (s : State) : State :=
  let e := workSa s (regFld s (ra (pg .seq) 0x100) 20 0)
  let info := e.st * 2 ^ 30 + e.dir * 2 ^ 29 + (if e.dir = 0 then recAlm e.record else 0)
  event (pg .seq) 1 { s with orb := { s.orb with seqRd := [wd e.ledger, wd (e.ledger / 2 ^ 32), wd info] } }

/-- ECL_RD_CTRL: KIND, and GO or NEXT (R229). -/
def eclRdGo (v : Word) (s : State) : State :=
  let a := ra (pg .ecl) 0x124
  let s1 := setReg s a (v &&& 3)
  let sa := regFld s (ra (pg .ecl) 0x120) 20 0
  if bit v 2 then eclRead (fld v 1 0) sa 0 s1
  else if bit v 3 then eclRead (fld v 1 0) sa (s1.ecl.rdPos + 1) s1 else s1

/-- SWP_SURVEY_CTRL.STOP (R140). DEDUCED, unsafe (log entry 43). -/
def surveyStopReq (s : State) : State :=
  { s with swp := { s.swp with survey := s.swp.survey.map (fun v => { v with stop := true }) } }

/-- The pops of the notice and mismatch FIFOs. -/
def misPop (s : State) : State := { s with swp := { s.swp with mis := s.swp.mis.drop 1 } }
def almPop (s : State) : State := { s with alm := { s.alm with notes := s.alm.notes.drop 1 } }
def eclPop (s : State) : State := { s with ecl := { s.ecl with notes := s.ecl.notes.drop 1 } }
def tcaPop (s : State) : State := { s with pmb := { s.pmb with tca := s.pmb.tca.drop 1 } }

/-- LRN_RING_CONS (R132). -/
def lrnCons (v : Word) (s : State) : State := { s with lrn := { s.lrn with cons := fld v 12 0 } }

/-- SCH_CTRL.CLR_MAX (R258). -/
def clrMax (s : State) : State := { s with frames := { s.frames with polarMax := [0, 0] } }

/-! ### The circuit plane -/

/-- TSI_RIDX (R283). -/
def tsiRidx (v : Word) (s : State) : State := tsiRead v (setReg s (ra (pg .tsi) 0x118) (v &&& 0xC0001FFF))

/-- TSI_CTRL: the swaps of the named directions are cancelled (R285). -/
def tsiCancel (v : Word) (s : State) : State :=
  let s1 := if bit v 0 then tsiCancelDir 0x85 0 s else s
  if bit v 1 then tsiCancelDir 0x85 1 s1 else s1

/-- TRB_DEF_LATCH. -/
def trbLatch (t : Nat) (v : Word) (s : State) : State := modTrib t (fun x => { x with latch := x.latch &&& ~~~ v }) s

/-- HWY_LOOP and OLD_LOOP (R44, R267, R321). -/
def hwyLoopReg (m : Master) (h : Nat) (v : Word) (s : State) : State :=
  inModes [.diagnostic] m (ra (pg .hwy h) 0x108) (hwyLoop h (fld v 1 0)) s
def oldLoopReg (m : Master) (v : Word) (s : State) : State := inModes [.diagnostic] m (ra (pg .old) 0x108) (oldLoop (fld v 1 0)) s

/-- APS_GRPn_B (R279). -/
def apsCmd (m : Master) (g : Nat) (v : Word) (s : State) : State :=
  putFields m (ra (pg .aps) (0x404 + 8 * g)) 0xE000FFFF (if 5 < fld v 31 29 then [(31, 29)] else []) v s

/-- A write of APS_GRPn_A that enables a group is refused whole when it pairs a tributary with itself or with a tributary of
another enabled group (R277). -/
def apsBad (s : State) (n : Nat) (v : Word) : Bool :=
  let w := fld v 7 0
  let p := fld v 23 16
  let a := fun (g : Nat) => getReg s (ra (pg .aps) (0x400 + 8 * g))
  bit v 31 && (w == p || (List.range 128).any (fun g =>
    g != n && bit (a g) 31 && (fld (a g) 7 0 == w || fld (a g) 7 0 == p || fld (a g) 23 16 == w || fld (a g) 23 16 == p)))

/-- BUN_CMD. -/
def bunCmd (m : Master) (v : Word) (s : State) : State :=
  let s1 := if bit v 1 then bunWriteCmd m s else s
  if bit v 0 then bunReadCmd s1 else s1

/-! ### Trig outputs (R350) -/

/-- The registers of a Trig output beside its control: not while it is armed, and within the ranges of R350. -/
def trgReg2 (m : Master) (k off : Nat) (r : RegRow) (v : Word) (s : State) : State :=
  let a := trgReg k off
  let per := (getReg s (trgReg k 0x10)).toNat
  let bad :=
    if off = 0x10 then v.toNat < 1000 || 4000000000 < v.toNat
    else if off = 0x14 then v.toNat < 8 || (if trgPeriodic s k then decide (per < v.toNat + 8) else decide (1000000000 < v.toNat))
    else false
  if trgArmed s k then regErr m a 0x40 s else putReg m a r (if bad then [(31, 0)] else []) v s

/-! ### Memory, boundaries and the Lunar page (R379, R380, R390, R405) -/

/-- SEAL_B2MAP (R379, R380). -/
def b2mapWrite (m : Master) (k : Nat) (v : Word) (s : State) : State :=
  let a := ra (pg .seal) (0x120 + 4 * k)
  let bad := ((List.range 8).filter (fun i => fld v (4 * i + 3) (4 * i) < 4)).map (fun i => (4 * i + 3, 4 * i))
  inModes [.configure] m a (putFields m a 0xFFFFFFFF bad v) s

/-- A staged region's word: ignored once the region is locked in the active set; LOCK is only set (R390). -/
def stagedWrite (m : Master) (u off : Nat) (r : RegRow) (v : Word) (s : State) : State :=
  let a := ra (pg .bdy u) off
  if bit (regionWord s u ((off - 0x400) / 16) 2) 30 then regErr m a 0x02 s
  else putReg m a r [] (if off % 16 = 8 then v ||| (getReg s a &&& 0x40000000) else v) s

/-- LUN_TEMP_THR out of its ranges (HI and LO as signed degrees). -/
def lunTempBad (v : Word) : Bool :=
  decide (signed 8 (fld v 15 8) < -55) || decide (signed 8 (fld v 7 0) < -55) || decide (signed 8 (fld v 15 8) ≤ signed 8 (fld v 7 0))

/-- The Lunar page's registers (R405). -/
def lunReg (m : Master) (off : Nat) (r : RegRow) (v : Word) (s : State) : State :=
  let a := ra (pg .lun) off
  if off = 0x10C then { s with lun := { s.lun with latch := s.lun.latch &&& (0x1FFF ^^^ fld v 12 0) } }
  else if off = 0x1C4 then putReg m a r [] v s
  else inModes [.provision, .configure] m a (putReg m a r (if off = 0x150 && lunTempBad v then [(15, 0)] else []) v) s

/-! ### Rings (R409, R410, R420) -/

/-- Whether two BAR2 ranges overlap. -/
def rangesMeet (a n b k : Nat) : Bool := decide (a < b + k) && decide (b < a + n)

/-- The rings' places: offset and length of the SQ, the CQ and the Errata ring. -/
def sqRange (s : State) : Nat × Nat := ((getReg s (ra (pg .ord) 0x104)).toNat, sqSlots s * (if slotBytes32 s then 32 else 64))
def cqRange (s : State) : Nat × Nat := ((getReg s (ra (pg .ord) 0x114)).toNat, cqSlots s * 16)
def eraRange (s : State) : Nat × Nat := ((getReg s (ra (pg .era) 0x104)).toNat, 65536 * 32)

/-- Whether the order rings may be enabled (R409). -/
def ordRingsOk (s : State) : Bool :=
  let q := sqRange s
  let c := cqRange s
  let e := eraRange s
  inBar2 q.1 q.2 && inBar2 c.1 c.2 && !rangesMeet q.1 q.2 c.1 c.2 &&
    !(eraEn s && (rangesMeet q.1 q.2 e.1 e.2 || rangesMeet c.1 c.2 e.1 e.2))

/-- ORD_CTRL.EN (R409). -/
def ordEnWrite (m : Master) (on : Bool) (s : State) : State :=
  let a := ra (pg .ord) 0x100
  if on = ordEn s then s
  else if on then
    if ordRingsOk s then { setReg s a 0x80000000 with ords := { s.ords with sqHead := 0, sqTail := 0, cqHead := 0, cqTail := 0 } }
    else regErr m a 0x06 s
  else if outstanding s != 0 then regErr m a 0x41 s
  else setReg s a 0

/-- ORD_SQ_TAIL and ORD_CQ_HEAD (R410). -/
def sqTailWrite (m : Master) (v : Word) (s : State) : State :=
  if sqSlots s < tdiff v s.ords.sqHead then regErr m (ra (pg .ord) 0x10C) 0x06 s else { s with ords := { s.ords with sqTail := v } }
def cqHeadWrite (m : Master) (v : Word) (s : State) : State :=
  if tdiff s.ords.cqTail s.ords.cqHead < tdiff v s.ords.cqHead then regErr m (ra (pg .ord) 0x11C) 0x06 s
  else { s with ords := { s.ords with cqHead := v } }

/-- The order page's registers. -/
def ordReg (m : Master) (off : Nat) (r : RegRow) (v : Word) (s : State) : State :=
  let a := ra (pg .ord) off
  match off with
  | 0x100 => ordEnWrite m (bit v 31) s
  | 0x10C => sqTailWrite m v s
  | 0x11C => cqHeadWrite m v s
  | _ => if ordEn s then regErr m a 0x40 s else putReg m a r [] v s

/-- Whether the Errata ring may be enabled (R420). -/
def eraRingOk (s : State) : Bool :=
  let q := sqRange s
  let c := cqRange s
  let e := eraRange s
  inBar2 e.1 e.2 && !(ordEn s && (rangesMeet q.1 q.2 e.1 e.2 || rangesMeet c.1 c.2 e.1 e.2))

/-- ERA_CTRL.EN (R420). -/
def eraEnWrite (m : Master) (on : Bool) (s : State) : State :=
  let a := ra (pg .era) 0x100
  if on = eraEn s then s
  else if on then
    if eraRingOk s then { setReg s a 0x80000000 with era := { s.era with prod := 0, cons := 0 } } else regErr m a 0x06 s
  else setReg s a 0

/-- ERA_CONS (R420). -/
def eraConsWrite (m : Master) (v : Word) (s : State) : State :=
  if tdiff s.era.prod s.era.cons < tdiff v s.era.cons then regErr m (ra (pg .era) 0x10C) 0x06 s
  else { s with era := { s.era with cons := v } }

/-- The Errata page's registers. -/
def eraReg (m : Master) (off : Nat) (r : RegRow) (v : Word) (s : State) : State :=
  let a := ra (pg .era) off
  match off with
  | 0x100 => eraEnWrite m (bit v 31) s
  | 0x104 => if eraEn s then regErr m a 0x40 s else putReg m a r [] v s
  | 0x10C => eraConsWrite m v s
  | _ => putReg m a r [] v s

/-! ### Engines -/

/-- UCU_LOCK (R441, R442). -/
def ucuLockWrite (m : Master) (v : Word) (s : State) : State :=
  let s1 := if bit v 2 then ucuForceCmd m s else s
  let s2 := if bit v 1 then ucuRelease m s1 else s1
  if bit v 0 then ucuAcquire m s2 else s2

/-- The UCU page's registers (R438-R441). -/
def ucuReg (m : Master) (off : Nat) (r : RegRow) (v : Word) (s : State) : State :=
  let a := ra (pg .ucu) off
  if off = 0x100 then ucuLockWrite m v s
  else if off = 0x104 then putReg m a r [] v s
  else if off = 0x108 then ucuModeWrite m v s
  else if off = 0x124 then goBit v (ucuStart m) s
  else if 0x140 ≤ off && off < 0x160 then ucuOwned m off (fun s => { s with ucu := { s.ucu with key := s.ucu.key.set ((off - 0x140) / 4) v } }) s
  else if 0x160 ≤ off && off < 0x180 then ucuOwned m off (fun s => { s with ucu := { s.ucu with key2 := s.ucu.key2.set ((off - 0x160) / 4) v } }) s
  else ucuOwned m off (putReg m a r (if off = 0x120 && decide (ucuLen s < fld v 24 0) then [(24, 0)] else []) v) s

/-- SMP_BASE (R466): only while EN = 0, and the ring within BAR2. DESIGN CHOICE, unsafe (log entry 29). -/
def smpBase (m : Master) (r : RegRow) (v : Word) (s : State) : State :=
  let a := ra (pg .smp) 0x104
  if regFld s (ra (pg .smp) 0x100) 31 31 = 1 then s
  else putReg m a r (if inBar2 (fld v 27 12 * 4096) 0x40000 then [] else [(27, 12)]) v s

/-! ### Checks of plain registers against others -/

/-- Further fields that a plain write refuses: ranges that depend on other registers (R131, R251, R252, R288, R304, R463). Where the value
that a refused field keeps would break its rule beside another field of the write, that field is refused too.
DESIGN CHOICE, unsafe (log entry 27). -/
def moreBad (s : State) (k : PageKind) (off : Nat) (v : Word) : List Fld :=
  match k with
  | .lrn =>
    if off = 0x104 && !inBar2 (fld v 27 12 * 4096) 0x40000 then [(27, 12)]
    else if 0x110 ≤ off && bit v 31 && (List.range 4).any (fun i =>
        let w := getReg s (ra (pg .lrn) (0x110 + 4 * i))
        0x110 + 4 * i != off && bit w 31 && fld w 27 24 == fld v 27 24) then [(31, 31), (27, 24)]
    else []
  | .trn =>
    if 0x400 ≤ off && off % 8 == 0 then
      let named := fun (n : Nat) => (List.range 256).any (fun i =>
        let w := getReg s (ra (pg .trn) (0x400 + 8 * i))
        0x400 + 8 * i != off && bit w 31 && fld w 20 0 == n)
      let old := getReg s (ra (pg .trn) off)
      let phase := if 2 ^ fld v 29 28 ≤ fld v 27 25 then
          (27, 25) :: (if 2 ^ fld v 29 28 ≤ fld old 27 25 then [(29, 28)] else []) else []
      let sa := if named (fld v 20 0) then (20, 0) :: (if bit v 31 && named (fld old 20 0) then [(31, 31)] else []) else []
      phase ++ sa
    else []
  | .bun =>
    if off = 0x100 && [0x0800, 0x86DD, 0x8100, 0x88A8, 0x8808, 0x888E, 0x88E5, 0x88F7].contains (fld v 15 0) then [(15, 0)] else []
  | .pmb => if off = 0x104 && !inBar2 (fld v 27 16 * 65536) (1280 * 104 * 32) then [(27, 16)] else []
  | .hlt => if off = 0x180 && decide (fld v 15 8 ≤ fld v 7 0) then [(15, 0)] else []
  | .aps => if off % 8 = 0 && apsBad s ((off - 0x400) / 8) v then [(31, 30), (23, 16), (7, 0)] else []
  | _ => []

/-! ### SCH (R244, R248) -/

/-- The ingress side and port of SCH_PRESVn, and the egress side and port of SCH_RATEn. -/
def presvPort (n : Nat) : Side × Nat := if n < 16 then (.plain, n) else (.line, n - 16)
def ratePort (n : Nat) : Side × Nat := if n < 16 then (.line, n) else (.plain, n - 16)

/-- A Polar reserve that SCH_PRESVn may not hold (R248). -/
def presvBad (s : State) (n q : Nat) : Bool :=
  let p := presvPort n
  (q != 0 && decide (q < 9)) || (portOn s p.1 p.2 && decide (partCells s p.1 p.2 - q < 2 * maxCells p.1))

/-- A TROPIC_RATE above the committed rate of SCH_RATEn's port (R244). -/
def tropicBad (s : State) (n r : Nat) : Bool :=
  let p := ratePort n
  decide (portRate s p.1 p.2 * 10 < r)

/-- A register of the SCH page. -/
def schReg (m : Master) (off : Nat) (r : RegRow) (v : Word) (s : State) : State :=
  let a := ra (pg .sch) off
  if off = 0x118 then goBit v clrMax s
  else if 0x140 ≤ off && off < 0x1C0 then
    inModes [.configure] m a (putReg m a r (if presvBad s ((off - 0x140) / 4) (fld v 9 0) then [(9, 0)] else []) v) s
  else if 0x200 ≤ off && off < 0x280 then
    putReg m a r (if tropicBad s ((off - 0x200) / 4) (fld v 15 0) then [(15, 0)] else []) v s
  else putReg m a r [] v s

/-! ### A block's registers -/

/-- A write of a block-specific register that is not wholly read-only and not locked. -/
def blockWrite (m : Master) (k : PageKind) (i off : Nat) (r : RegRow) (v : Word) (s : State) : State :=
  let a := ra (pg k i) off
  let plain := putReg m a r (moreBad s k off v) v
  match k with
  | .sys => if off = 0x104 then compatWrite m v s else if off = 0x114 then goBit v (gsnapGo m) s else plain s
  | .int => if off = 0x300 then eoiWrite v s else plain s
  | .plain => portReg m .plain i off r v s
  | .line => portReg m .line i off r v s
  | .gaz => if off ≤ 0x104 then seedWrite m ((off - 0x100) / 4) v s else if off = 0x114 then goBit v gazRead s else plain s
  | .con => if off = 0x108 then goBit v conRead s else plain s
  | .lrn => if off = 0x10C then lrnCons v s else plain s
  | .swp => if off = 0x110 then goBit v surveyStopReq s else if off = 0x128 then goBit v misPop s else plain s
  | .orb => if off = 0x124 then goBit v orbRead s else plain s
  | .seq => if off = 0x104 then goBit v seqRead s else plain s
  | .alm => if off = 0x388 then goBit v almPop s else plain s
  | .ecl => if off = 0x124 then eclRdGo v s else if off = 0x388 then goBit v eclPop s else plain s
  | .sch => schReg m off r v s
  | .hwy => if off = 0x108 then hwyLoopReg m i v s else plain s
  | .old => if off = 0x108 then oldLoopReg m v s else plain s
  | .trb =>
    let t := 16 * i + (off - 0x100) / 0xF0
    if (off - 0x100) % 0xF0 = 4 then (let s1 := plain s; if bit v 0 then tribHunt t s1 else s1)
    else if (off - 0x100) % 0xF0 = 0x10 then trbLatch t v s else plain s
  | .tsi =>
    if off = 0x114 then tsiWrite m v s else if off = 0x118 then tsiRidx v s else if off = 0x120 then tsiCopyGo m v s
    else if off = 0x124 then tsiCancel v s else plain s
  | .bun => if off = 0x124 then bunCmd m v s else plain s
  | .pmb => if off = 0x118 then goBit v pmRead s else if off = 0x168 then goBit v tcaPop s else plain s
  | .mer =>
    if off = 0x108 then merRateCmd m v s
    else if off = 0x124 || off = 0x128 || off = 0x134 then adriftUpdate (plain s)
    else plain s
  | .trg =>
    let n := (off - 0x100) / 0x20
    if (off - 0x100) % 0x20 = 0 then trgArmWrite n v s else trgReg2 m n ((off - 0x100) % 0x20) r v s
  | .seal => if off = 0x120 || off = 0x124 then b2mapWrite m ((off - 0x120) / 4) v s else plain s
  | .bdy => if off = 0x104 then goBit v (bdyCommit m i) s else if off = 0x120 then goBit v (bdyPop i) s else stagedWrite m i off r v s
  | .lun => lunReg m off r v s
  | .ord => ordReg m off r v s
  | .era => eraReg m off r v s
  | .ucu => ucuReg m off r v s
  | .pke => if bit v 8 then pkeAbortCmd m (fld v 3 0) s else s
  | .rng => if off = 0x104 then goBit v (rngFill m) s else goBit v rngReseedCmd s
  | .smp =>
    if off = 0x100 then smpEn (bit v 31) s else if off = 0x104 then smpBase m r v s else if off = 0x10C then smpConsWrite m v s else plain s
  | .grt | .pipe | .trn | .aps | .twn | .mem | .fwu | .hlt | .crt => plain s

/-- A permitted write of one word (R63, R64, R67, R68). DESIGN CHOICE, unsafe (log entry 27). -/
def writeWord (m : Master) (a : Nat) (v : Word) (s : State) : State :=
  match pageAt (a / 0x1000) with
  | none => unmapped m a s
  | some (k, i) =>
    match regRow a with
    | none => s
    | some r =>
      let off := a % 0x1000
      if off < 0x100 then legendWrite m (a / 0x1000) off r v s
      else if r.acc = .ro then regErr m a 0x05 s
      else if r.acc = .rwl && (legend s (a / 0x1000)).lock then regErr m a 0x02 s
      else blockWrite m k i off r v s

/-- A write of a register by a master (R65): one aligned word; with fewer than four byte enables it is discarded with WIDTH, at an
offset that the page does not define too. DESIGN CHOICE, unsafe (log entry 92). -/
def regWrite (m : Master) (off be : Nat) (v : Word) (s : State) : State :=
  let a := off % 2 ^ 24 / 4 * 4
  regCmd m a (fun s =>
    if (pageAt (a / 0x1000)).isNone then unmapped m a s
    else if be % 16 = 15 then writeWord m a v s else regErr m a 0x03 s) s

/-- The further words of a write of 8 bytes or more: consecutive 32-bit writes at rising addresses (R65). -/
def regWriteOn (m : Master) : Nat → List Word → State → State
  | _, [], s => s
  | off, w :: r, s => regWriteOn m (off + 4) r (regWrite m off 15 w s)

/-- REGISTER_WRITE: a write access of one word or more (R65). -/
def regWriteAll (m : Master) (off be : Nat) (v : Word) (more : List Word) (s : State) : State :=
  regWriteOn m (off + 4) more (regWrite m off be v s)

/-- A command on a Legend header: of an assigned page. -/
def headerCmd (m : Master) (page off : Nat) (f : State → State) (s : State) : State :=
  if page < 4096 then regCmd m (ra page off) (fun s => if (pageAt page).isSome then f s else unmapped m (ra page off) s) s else s

end Sys2Proof.Machine
end

