-- ==== Sys2Proof/Machine/RegRead.lean ====
section
/-! DEFINITION. Reads of registers: the value each register of BAR0 shows a master (R65, R66, R70-R90 and the register tables), and the
check of one access by a Boundary unit (R383-R395). -/

namespace Sys2Proof.Machine

/-! ### Snapshots (R78) -/

/-- A master's snapshot set of a page. -/
def snapOf (s : State) (m : Master) (page : Nat) : Snap := spGet Snap.init s.snaps (2 * page + mSet m)

/-- A register of the snapshot set held as one word. -/
def snapWord (s : State) (m : Master) (page off : Nat) : Nat := spGet 0 (snapOf s m page).ctrs off

/-- A word of a 64-bit counter of the snapshot set: LO at the lower offset. -/
def snapCtr (s : State) (m : Master) (page off : Nat) : Nat :=
  snapWord s m page (off / 8 * 8) / 2 ^ (32 * (off / 4 % 2))

/-- Whether a row of a page kind holds counters. -/
def ctrRow (k : PageKind) (r : RegRow) : Bool :=
  r.acc == .ro && (match k with
    | .sch => r.off == 0x400
    | .mer => r.off == 0x300
    | .trb => decide (0x120 ≤ r.off)
    | .int | .crt => false
    | _ => r.off == 0x200)

/-! ### The Legend header (R70-R84) -/

/-- LEGEND_CAP: BLOCK, PMC_EVENTS, QUIESCABLE, TAGPOINT and INT_SRCS. -/
def legendCap (page : Nat) : Nat :=
  let block := match pageAt page with
    | some (.line, _) => 0x8000
    | some (.pipe, p) => if p < 21 then 0 else 1
    | _ => 0
  let srcs := match pageRowAt page with
    | some (r, _) => r.srcs
    | none => 0
  block * 2 ^ 16 + pmcMax page * 2 ^ 8 + b2n (quiescable page) * 2 ^ 7 + b2n (tagPoint page) * 2 ^ 6 + srcs

/-- LEGEND_ID: TYPE, INST, MAJOR 2, MINOR 0. -/
def legendId (page : Nat) : Nat :=
  match pageRowAt page with
  | some (r, i) => r.type * 2 ^ 20 + i * 2 ^ 12 + 2 * 2 ^ 8
  | none => 0

/-- A register of a page's Legend header. -/
def readLegend (s : State) (m : Master) (page off : Nat) : Nat :=
  let l := legend s page
  let x := snapOf s m page
  match off with
  | 0x000 => legendId page
  | 0x004 => legendCap page
  | 0x008 => b2n l.lock * 2 ^ 31 + b2n l.qreq * 4 + b2n l.en
  | 0x00C => b2n l.lock * 8 + b2n l.fault * 4 + b2n l.quiesced * 2 + b2n l.ready
  | 0x010 => l.intStat.toNat
  | 0x014 => l.intEn.toNat
  | 0x01C => (l.intStat &&& l.intEn).toNat
  | 0x020 => l.errInfo.toNat
  | 0x024 => l.errLo.toNat
  | 0x028 => l.errHi.toNat
  | 0x02C => l.errCount.toNat
  | 0x044 => x.tick.toNat
  | 0x048 => x.clk
  | 0x080 => x.cyc
  | 0x084 => x.cyc / 2 ^ 32
  | 0x0C8 => l.pmcCtrl.toNat
  | _ =>
    if 0x088 ≤ off && off < 0x0A8 then (x.pmc.getD ((off - 0x088) / 4) 0).toNat
    else if 0x0A8 ≤ off && off < 0x0C8 then (l.pmcSel.getD ((off - 0x0A8) / 4) 0).toNat
    else 0

/-! ### SYS, GRT and INT (R84-R90) -/

/-- SYS_MODE and the rest of the SYS page. -/
def readSys (s : State) (off : Nat) (plain : Nat) : Nat :=
  match off with
  | 0x100 => s.dev.cause * 2 ^ 8 + s.dev.prev.code * 2 ^ 4 + s.dev.mode.code
  | 0x108 => s.dev.strap
  | 0x110 => sysFault s
  | _ => plain

/-- Items of the chore queue of two parts: host parts 0 and 1, agent parts 2 and 3. -/
def choresIn (s : State) (agent : Bool) : Nat := s.grt.queue.countP (fun c => decide (2 ≤ c.part) == agent)

def readGrt (s : State) (m : Master) (off : Nat) (plain : Nat) : Nat :=
  let x := snapOf s m (pg .grt)
  match off with
  | 0x100 => x.tick.toNat
  | 0x104 => x.clk
  | 0x108 => s.time.lastLen
  | 0x10C => s.grt.usedA.toNat
  | 0x110 => s.grt.usedB.toNat
  | 0x114 => s.grt.usedC.toNat
  | 0x118 => choresIn s true * 2 ^ 16 + choresIn s false
  | 0x11C => match s.grt.queue with
    | c :: _ => tdiff (now s) c.tick
    | [] => 0
  | 0x128 => resvOf s (getReg s (ra (pg .grt) 0x124))
  | _ => plain

/-- INT_SRC_PENDj: the pending outputs of 32 sources. -/
def srcPend (s : State) (j : Nat) : Nat :=
  ((allPages.filter (fun p => pageSrc p / 32 == j && pendingOut (legend s p))).map (fun p => 2 ^ (pageSrc p % 32))).sum

def readInt (s : State) (off : Nat) (plain : Nat) : Nat :=
  match off with
  | 0x304 => s.intr.asserted
  | 0x308 => s.intr.asserted / 2 ^ 32
  | 0x30C => b2n (behaviour s 4)
  | 0xC00 => s.intr.pba
  | 0xC04 => s.intr.pba / 2 ^ 32
  | _ => if 0x100 ≤ off && off < 0x120 then srcPend s ((off - 0x100) / 4) else plain

/-! ### Ports (R116) -/

/-- PORT_CFG. -/
def portCfgWord (s : State) (side : Side) (p : Nat) : Nat :=
  let x := portOf s side p
  let rate := portRate s side p
  let speed := if rate = 0 then 0 else if rate = 100 then 1 else if rate = 200 then 2 else if rate = 400 then 3 else if rate = 800 then 4 else 5
  let lanes := if rate = 0 then 0 else if x.mode = 1 then 8 else if x.mode = 2 then 4 else if x.mode = 3 then 2 else 1
  if rate = 0 then 0
  else 2 ^ 31 + lanes * 2 ^ 27 + p * 2 ^ 23 + speed * 2 ^ 20 + b2n (x.mode != 5) * 2 ^ 19 + x.iftype * 2 ^ 17 + x.part

/-- PORT_STAT. -/
def portStatWord (s : State) (side : Side) (p : Nat) : Nat :=
  let x := portOf s side p
  b2n x.xoff * 2 ^ 7 + x.verify * 2 ^ 5 + b2n (preemptActive s side p) * 2 ^ 4 + b2n x.eq.isSome * 2 ^ 3 + b2n x.training * 2 ^ 2 +
    b2n x.aligned * 2 + b2n (linkUp x)

/-- The board chart entries a page reports: 0 until BOOT has read the chart (R50, R261). -/
def chartWord (s : State) (page : Nat) : Word := if s.dev.chartRead then Config.chart page else 0

def readPort (s : State) (side : Side) (p off : Nat) (plain : Nat) : Nat :=
  match off with
  | 0x104 => portCfgWord s side p
  | 0x10C => portStatWord s side p
  | 0x110 => reservations s side p * 2 ^ 24 + holdings s side p
  | 0x124 => b2n (portOf s side p).eqTrained * 2 ^ 16 + fld (chartWord s (portPage side p)) 15 0
  | _ => plain

/-! ### Tables (R142) -/

def readGaz (s : State) (off : Nat) (plain : Nat) : Nat :=
  match off with
  | 0x108 => gazCount s.gaz.work
  | 0x10C => gazDynCount s.gaz.work
  | 0x118 => s.gaz.rdPos.toNat
  | _ => if 0x140 ≤ off && off < 0x158 then (s.gaz.rdData.getD ((off - 0x140) / 4) 0).toNat else plain

def readCon (s : State) (off : Nat) (plain : Nat) : Nat :=
  if off = 0x100 then s.con.work.length
  else if 0x140 ≤ off && off < 0x170 then (s.con.rd.getD ((off - 0x140) / 4) 0).toNat else plain

/-- Learned entries of LRN_TRUNK i. -/
def trunkCount (s : State) (i : Nat) : Nat :=
  let r := getReg s (ra (pg .lrn) (0x110 + 4 * i))
  if bit r 31 then learnedCount s.gaz.work (fld r 27 24) else 0

def readLrn (s : State) (off : Nat) (plain : Nat) : Nat :=
  match off with
  | 0x108 => s.lrn.prod
  | 0x10C => s.lrn.cons
  | 0x130 => learnPend s
  | _ => if 0x120 ≤ off && off < 0x130 then trunkCount s ((off - 0x120) / 4) else plain

def readSwp (s : State) (off : Nat) (plain : Nat) : Nat :=
  match off with
  | 0x108 => match s.swp.survey with
    | some v => b2n v.active * 2 ^ 31 + b2n v.rep * 2 ^ 30 + v.count
    | none => 0
  | 0x10C => match s.swp.survey with
    | some v => v.base
    | none => 0
  | 0x114 => s.swp.passSeen
  | 0x118 => s.swp.passStatic
  | 0x11C => s.swp.passEdits
  | 0x120 => match s.swp.mis with
    | (ty, i, _) :: _ => 2 ^ 31 + ty * 2 ^ 28 + i
    | [] => 0
  | 0x124 => match s.swp.mis with
    | (_, _, t) :: _ => t.toNat
    | [] => 0
  | 0x12C => s.swp.mis.length
  | _ => plain

/-! ### SA store, ledger, Almanac and Eclipse (R171, R226, R239) -/

def readOrb (s : State) (off : Nat) (plain : Nat) : Nat :=
  match off with
  | 0x100 => (residents s).length
  | 0x104 => pinnedCount s
  | 0x108 => (installedSas s).length
  | 0x10C => s.orb.fills.length
  | 0x110 => (extUsed s).length
  | 0x114 => retiredUsed s
  | 0x128 => s.orb.rdDir.toNat
  | _ => if 0x400 ≤ off && off < 0x500 then (s.orb.rdData.getD ((off - 0x400) / 4) 0).toNat else plain

def readSeq (s : State) (off : Nat) (plain : Nat) : Nat :=
  if 0x108 ≤ off && off < 0x114 then (s.orb.seqRd.getD ((off - 0x108) / 4) 0).toNat else plain

/-- The head of a notice FIFO: its two words. -/
def noteHead (l : List (Nat × Nat × Nat × Tick)) (sh : Nat) : Nat × Nat :=
  match l with
  | (ty, x, sa, t) :: _ => (2 ^ 31 + ty * 2 ^ 28 + x * 2 ^ sh + sa, t.toNat)
  | [] => (0, 0)

/-- ALM_EPOCHc. -/
def almEpochWord (a : AlmCtr) : Nat :=
  let adv := a.req.isSome || a.wrote.isSome
  b2n a.spent * 2 ^ 31 + b2n a.stale * 2 ^ 30 + b2n adv * 2 ^ 29 + a.epoch

def readAlm (s : State) (off : Nat) (plain : Nat) : Nat :=
  let mask := fun (p : AlmCtr → Bool) => ((List.range 16).map (fun c => b2n (p (almOf s c)) * 2 ^ c)).sum
  match off with
  | 0x100 => mask (·.spent)
  | 0x104 => mask (·.stale)
  | 0x380 => (noteHead s.alm.notes 24).1
  | 0x384 => (noteHead s.alm.notes 24).2
  | 0x38C => s.alm.notes.length
  | _ =>
    let c := off / 4 % 16
    if 0x140 ≤ off && off < 0x180 then almEpochWord (almOf s c)
    else if 0x180 ≤ off && off < 0x1C0 then (if twinMode s then (almOf s c).peer else 0)
    else if 0x1C0 ≤ off && off < 0x200 then almBound s c
    else if 0x300 ≤ off && off < 0x340 then (almOf s c).gen * 2 ^ 16 + almSpares (almOf s c) * 2 ^ 8 + (almOf s c).retired.length
    else plain

/-- The earliest target of the pending Eclipse items. -/
def eclNext (s : State) : Option Tick :=
  (s.ecl.entries.filter (fun e => !e.active)).foldl (fun a e => match a with
    | some t => if tdiff e.target (now s) < tdiff t (now s) then some e.target else some t
    | none => some e.target) none

def readEcl (s : State) (off : Nat) (plain : Nat) : Nat :=
  match off with
  | 0x100 => s.ecl.entries.length
  | 0x104 => s.ecl.entries.countP (fun e => !e.active)
  | 0x110 => ((eclNext s).getD 0).toNat
  | 0x114 => b2n (eclNext s).isSome
  | 0x380 => (noteHead s.ecl.notes 21).1
  | 0x384 => (noteHead s.ecl.notes 21).2
  | 0x38C => s.ecl.notes.length
  | _ => if 0x128 ≤ off && off < 0x138 then (s.ecl.rd.getD ((off - 0x128) / 4) 0).toNat else plain

/-! ### Pipelines and egress (R206, R258) -/

/-- PIPE_WORK: the frame in hand. -/
def pipeWork (s : State) (p : Nat) : Nat :=
  match s.frames.list.find? (fun f => f.gang.contains p) with
  | some f => 2 ^ 31 + b2n (f.cls == 0) * 2 ^ 30 + (f.gang.length - 1) * 2 ^ 26 + f.sa
  | none => 0

/-- Whether the round-key registers hold a key (R196). -/
def keysHeld (s : State) (p : Nat) : Bool := !(pipeOf s p).keyReg.isEmpty

def readPipe (s : State) (p off : Nat) (plain : Nat) : Nat :=
  let x := pipeOf s p
  let d := pipeDir p
  match off with
  | 0x100 => x.role * 2 ^ 29 + d * 2 ^ 28 + b2n (keysHeld s p) * 2 + b2n (pipeBusy s p)
  | 0x104 => (occulted s d).getD 0x3F * 2 ^ 24 + (pipesOf d).countP (inService s) * 2 ^ 16 + (s.rota.getD d ⟨0, 0, false⟩).left
  | 0x108 => b2n x.running * 2 ^ 31 + b2n x.lastPass * 2 ^ 30 + x.failCode * 2 ^ 16 + x.cycles
  | 0x10C => x.testTick.toNat
  | 0x110 => x.faultInfo.toNat
  | 0x114 => x.faultTick.toNat
  | 0x118 => pipeWork s p
  | _ => plain

/-- SCH_QOCCn: Comet and Tropic cells queued at an egress port, 0-15 the line ports and 16-31 the plain ports. -/
def qocc (s : State) (n : Nat) : Nat :=
  let d : Dir := if n < 16 then .enc else .dec
  min 0xFFFF (queueCells s d (n % 16) 2) * 2 ^ 16 + min 0xFFFF (queueCells s d (n % 16) 1)

def readSch (s : State) (off : Nat) (plain : Nat) : Nat :=
  match off with
  | 0x110 => inFlight s .dec * 2 ^ 16 + inFlight s .enc
  | 0x114 => min 0xFFFF (s.frames.polarMax.getD 1 0) * 2 ^ 16 + min 0xFFFF (s.frames.polarMax.getD 0 0)
  | _ => if 0x300 ≤ off && off < 0x380 then qocc s ((off - 0x300) / 4) else plain

def readTrn (s : State) (off : Nat) (plain : Nat) : Nat :=
  match off with
  | 0x104 => (List.range 256).countP (fun n => bit (getReg s (ra (pg .trn) (0x400 + 8 * n))) 31)
  | 0x108 => s.frames.list.countP (fun f => f.launch.isSome && f.kind != .bundle && f.stage != .emitting)
  | _ => plain

/-! ### The circuit plane (R281, R305) -/

def readHwy (s : State) (h off : Nat) (plain : Nat) : Nat :=
  let x := hwyOf s h
  let lof := x.lof || x.loopLof
  match off with
  | 0x104 => x.locked.getD 0 * 2 ^ 16 + b2n (!lof && !x.losync && !x.los) * 8 + b2n lof * 4 + b2n x.losync * 2 + b2n x.los
  | 0x10C => (chartWord s (pg .hwy h)).toNat
  | _ => plain

/-- TRB_STAT.CANDIDATES while a framer hunts: for an E1, candidates whose run holds a passed check (R270); for a T1, positions whose last
six FPS bits stand in step with the pattern (R271). -/
def huntCount (s : State) (t : Nat) : Nat :=
  let x := tribOf s t
  if !trbOn s t || x.aligned then 0
  else if trbType s t = 2 then
    (List.range 772).countP (fun p =>
      let d := (p + 772 - x.abs % 772) % 772
      let n := if d < x.buf.length then (x.buf.length - d - 1) / 772 + 1 else 0
      let last := (List.range 6).map (fun k => x.buf.getD (d + 772 * (n - 6 + k)) false)
      decide (6 ≤ n) && (List.range 6).any (fun r => last == fps.drop r ++ fps.take r))
  else (List.range 512).countP (fun p => decide (1 ≤ (candE1 (trbType s t == 0) x.abs x.buf p).run))

def readTrb (s : State) (i off : Nat) (plain : Nat) : Nat :=
  let t := 16 * i + (off - 0x100) / 0xF0
  let x := tribOf s t
  match (off - 0x100) % 0xF0 with
  | 0x08 => hwyMask (hwyOf s (t / 32)) + x.defs
  | 0x0C => x.rep
  | 0x10 => x.latch.toNat
  | 0x14 => b2n x.aligned * 2 ^ 31 + b2n x.mfAligned * 2 ^ 30 + x.slip.length * 2 ^ 28 + x.pos * 2 ^ 16 + huntCount s t
  | _ => plain

def readAps (s : State) (off : Nat) (plain : Nat) : Nat :=
  if 0x800 ≤ off && off < 0xA00 then
    let x := apsOf s ((off - 0x800) / 4)
    b2n x.sel * 2 ^ 31 + x.req * 2 ^ 27 + b2n x.cfgErr * 2 ^ 26
  else plain

/-- The target of the earliest pending swap of a direction, 0 while none is pending. -/
def swapTick (s : State) (d : Nat) : Nat :=
  match s.tsi.swap.getD d [] with
  | (t, _) :: _ => t.toNat
  | [] => 0

def readTsi (s : State) (off : Nat) (plain : Nat) : Nat :=
  match off with
  | 0x100 => b2n (s.tsi.copy.getD 1 false) * 2 ^ 19 + b2n (s.tsi.copy.getD 0 false) * 2 ^ 18 + b2n (!(s.tsi.swap.getD 1 []).isEmpty) * 2 ^ 17 +
      b2n (!(s.tsi.swap.getD 0 []).isEmpty) * 2 ^ 16 + s.tsi.active.getD 1 0 * 2 + s.tsi.active.getD 0 0
  | 0x108 => swapTick s 0
  | 0x10C => swapTick s 1
  | 0x11C => s.tsi.rdata.toNat
  | _ => plain

/-- Enabled bundle entries of a direction. -/
def bunsOn (s : State) (d : Nat) : List Bun := (s.buns.map (·.2)).filter (fun x => bcEn x.cfg && bcDir x.cfg == d)

def readBun (s : State) (off : Nat) (plain : Nat) : Nat :=
  match off with
  | 0x110 => (bunsOn s 1).length * 2 ^ 16 + (bunsOn s 0).length
  | 0x114 => ((bunsOn s 1).map (fun x => bunStore x.cfg)).sum
  | _ => if 0x180 ≤ off && off < 0x1A0 then (s.bunSt.getD ((off - 0x180) / 4) 0).toNat else plain

def readPmb (s : State) (off : Nat) (plain : Nat) : Nat :=
  match off with
  | 0x10C => s.pmb.qh / 96 % 2 ^ 16 * 2 ^ 16 + s.pmb.qh % 96
  | 0x110 => s.pmb.lastClose.toNat
  | 0x160 => match s.pmb.tca with
    | (w, _) :: _ => w.toNat
    | [] => 0
  | 0x164 => match s.pmb.tca with
    | (_, t) :: _ => t.toNat
    | [] => 0
  | 0x16C => s.pmb.tca.length
  | _ => if 0x120 ≤ off && off < 0x140 then (s.pmb.rd.getD ((off - 0x120) / 4) 0).toNat else plain

/-! ### Twin pair and time (R336, chapter 14) -/

/-- TWN_STAT. -/
def twnStat (s : State) : Nat :=
  let t := s.twin
  t.peerMode * 2 ^ 28 + b2n t.present * 2 ^ 27 + b2n s.keys.pairKey.isSome * 2 ^ 26 + t.joinPhase * 2 ^ 24 + t.disState * 2 ^ 22 +
    b2n t.selfPass * 2 ^ 21 + b2n (t.peerSelf.getD false) * 2 ^ 20 + b2n t.alignFixed * 2 ^ 19 + b2n (mkaActs s) * 2 ^ 18 +
    min 3 t.missed * 2 ^ 16

def readTwn (s : State) (off : Nat) (plain : Nat) : Nat :=
  let t := s.twin
  match off with
  | 0x104 => twnStat s
  | 0x108 => t.alignTick.toNat
  | 0x114 => t.digestStat.toNat
  | 0x118 => t.digestTick.toNat
  | 0x11C => t.disInfo.toNat
  | 0x120 => t.disTick.toNat
  | 0x128 => min 0xFFFF t.skewMax * 2 ^ 16 + min 0xFFFF t.skewLast
  | _ => if 0x140 ≤ off && off < 0x180 then t.epochs.getD ((off - 0x140) / 4) 0 else plain

def readOld (s : State) (off : Nat) (plain : Nat) : Nat :=
  let t := s.twin
  match off with
  | 0x104 => b2n (oldSync s) * 2 ^ 31 + b2n t.clkOk * 2 ^ 30 + b2n t.deskewed * 2 ^ 29 + t.lanes * 2 ^ 16 + t.skewSym
  | 0x10C => (chartWord s (pg .old)).toNat
  | 0x110 => t.latency % 2 ^ 16
  | _ => plain

/-- A signed value as a register shows it, saturating at 32 bits. -/
def sat32s (v : Int) : Nat := twos 32 (max (-(2 ^ 31)) (min (2 ^ 31 - 1) v))

def readMer (s : State) (m : Master) (off : Nat) (plain : Nat) : Nat :=
  match off with
  | 0x104 => b2n s.mer.pairAdrift * 2 ^ 10 + b2n s.mer.adrift * 2 ^ 9 + b2n s.time.stepped * 2 ^ 8 + s.mer.servo
  | 0x10C => s.time.rate.toNat
  | 0x120 => sat32s s.mer.offset
  | 0x12C => if twinMode s then sat32s s.mer.pairOfs else 0
  | 0x150 => sat32s s.mer.ppsErr
  | _ => if (0x110 ≤ off && off < 0x120) || (0x140 ≤ off && off < 0x14C) then snapWord s m (pg .mer) off else plain

def readTrg (s : State) (off : Nat) (plain : Nat) : Nat :=
  if off < 0x180 && off % 0x20 = 0x18 then
    let x := s.mer.trig.getD ((off - 0x100) / 0x20) Trig.init
    b2n x.pulsing * 2 ^ 31 + b2n x.missed * 2 ^ 30
  else plain

/-! ### Memory, boundaries and the Lunar page -/

def readChan (s : State) (c off : Nat) (plain : Nat) : Nat :=
  let x := chanState s c
  match off with
  | 0x100 => x.gib * 2 ^ 16 + x.mts
  | 0x104 => x.st * 2 ^ 28
  | 0x108 => b2n x.pass * 2 ^ 31 + x.attempts * 2 ^ 28 + x.failStep * 2 ^ 24
  | 0x10C => x.trainTick.toNat
  | 0x110 => x.prog
  | _ => plain

def readSealPage (s : State) (off : Nat) (plain : Nat) : Nat :=
  let q := s.sealPath
  let p := q.poison.getD (regFld s (ra (pg .seal) 0x12C) 11 0) 0
  match off with
  | 0x100 => q.gib * 2 ^ 24 + b2n q.initDone * 2 ^ 8
  | 0x104 => match q.rekey with
    | some (k, _) => 2 ^ 31 + k * 2 ^ 24 + q.rekeySwept
    | none => 0
  | 0x108 => b2n q.changing * 2 + b2n q.provisional
  | 0x128 => q.poison.length
  | 0x130 => p
  | 0x134 => p / 2 ^ 32
  | _ => if 0x140 ≤ off && off < 0x160 then
      let j := (off - 0x140) / 4
      q.gen.getD (2 * j) 0 % 2 ^ 16 + q.gen.getD (2 * j + 1) 0 % 2 ^ 16 * 2 ^ 16
    else plain

/-- BDY_CLASSES of a unit (R383); unit 7 serves no class, and what its register shows is a free value. -/
def bdyClasses : Nat → Nat
  | 0 => 0x0 | 1 => 0x1 | 2 => 0x2 | 3 => 0x3 | 4 => 0x184 | 5 => 0x195 | 6 => 0x176 | _ => Config.noClass % 512

/-- LOCK bits of 32 active regions. -/
def bdyLocked (s : State) (u o : Nat) : Nat := ((List.range 32).map (fun n => b2n (bit (regionWord s u (o + n) 2) 30) * 2 ^ n)).sum

def readBdy (s : State) (u off : Nat) (plain : Nat) : Nat :=
  let b := bdyOf s u
  let head := fun (f : BdyNotice → Nat) => match b.notices with
    | n :: _ => f n
    | [] => 0
  match off with
  | 0x100 => bdyClasses u
  | 0x104 => b2n b.pending * 2 ^ 31
  | 0x108 => bdyLocked s u 0
  | 0x10C => bdyLocked s u 32
  | 0x110 => head (fun n => 2 ^ 31 + b2n n.user * 2 ^ 30 + n.cls * 2 ^ 20 + n.region)
  | 0x114 => head (·.addr)
  | 0x118 => head (fun n => n.addr / 2 ^ 32 % 2 ^ 16)
  | 0x11C => head (·.tick.toNat)
  | 0x124 => b.notices.length
  | _ => plain

def readLun (s : State) (m : Master) (off : Nat) (plain : Nat) : Nat :=
  let e := s.lun.copied[regFld s (ra (pg .lun) 0x1C4) 2 0]?
  match off with
  | 0x100 => kekState s * 2 ^ 30 + b2n s.lun.vbatLost * 2 ^ 29 + b2n s.dev.vbatOk * 2 ^ 28 + b2n s.lun.xtalOk * 2 ^ 27 + b2n s.lun.rtcSet * 2 ^ 26
  | 0x108 => s.lun.alarm
  | 0x10C => s.lun.latch
  | 0x154 => snapWord s m (pg .lun) off
  | 0x158 => snapWord s m (pg .lun) off
  | 0x1C0 => s.lun.copiedOvf * 2 ^ 8 + s.lun.copied.length
  | 0x1C8 => match e with
    | some x => b2n x.onCell * 2 ^ 31 + x.src
    | none => 0
  | 0x1CC => match e with
    | some x => x.sec.toNat
    | none => 0
  | 0x1D0 => match e with
    | some x => x.frac
    | none => 0
  | _ => plain

/-! ### Orders, Errata and engines -/

def readOrd (s : State) (off : Nat) (plain : Nat) : Nat :=
  match off with
  | 0x10C => s.ords.sqTail.toNat
  | 0x110 => s.ords.sqHead.toNat
  | 0x11C => s.ords.cqHead.toNat
  | 0x120 => s.ords.cqTail.toNat
  | 0x124 => outstanding s
  | 0x128 => s.ords.lastTag.toNat
  | _ => plain

def readEra (s : State) (m : Master) (off : Nat) (plain : Nat) : Nat :=
  match off with
  | 0x108 => s.era.prod.toNat
  | 0x10C => s.era.cons.toNat
  | 0x144 => (sumOf s (regFld s (ra (pg .era) 0x140) 7 0)).count
  | _ =>
    if 0x120 ≤ off && off < 0x140 then
      let j := (off - 0x120) / 4
      ((List.range 32).map (fun i => b2n ((sumOf s (32 * j + i)).count != 0) * 2 ^ i)).sum
    else if 0x160 ≤ off && off < 0x1A0 then snapWord s m (pg .era) off else plain

/-- The registers of the utility cipher unit: results read 0 to non-owners (R441). -/
def readUcu (s : State) (m : Master) (off : Nat) (plain : Nat) : Nat :=
  match off with
  | 0x100 => b2n s.ucu.held * 2 ^ 31 + s.ucu.ownCls * 2 ^ 24 + s.ucu.ownCore * 2 ^ 16
  | 0x128 => b2n s.ucu.busy * 2 ^ 31 + b2n s.ucu.doneFlag * 2 ^ 30 + s.ucu.res
  | _ =>
    if 0x1A0 ≤ off && off < 0x1E0 then (if ucuOwner s m then beNat (slice s.ucu.result (off - 0x1A0) 4) else 0) else plain

def readPke (s : State) (off : Nat) (plain : Nat) : Nat :=
  match off with
  | 0x100 => match s.pke.jobs with
    | j :: r => 2 ^ 31 + r.length * 2 ^ 24 + j.area * 2 ^ 16 + j.op
    | [] => 0
  | 0x108 => s.pke.lastClk
  | 0x10C => ((List.range 8).map (fun i => b2n (spGet none s.pke.curves i).isSome * 2 ^ i)).sum
  | _ => plain

def readRng (s : State) (m : Master) (off : Nat) (plain : Nat) : Nat :=
  match off with
  | 0x100 => s.rng.st * 2 ^ 30 + s.rng.reqs % 2 ^ 20
  | 0x108 => b2n (s.rng.ready.getD (mSet m) false)
  | _ => if 0x140 ≤ off && off < 0x180 then ((s.rng.out.getD (mSet m) []).getD ((off - 0x140) / 4) 0).toNat else plain

/-- Word `i` of a byte string held with byte 0 in bits 7:0 of the first word. -/
def leWord (b : Bytes) (i : Nat) : Nat := leNat (slice b (4 * i) 4)

def readCrt (s : State) (off : Nat) (plain : Nat) : Nat :=
  match off with
  | 0x100 => devId % 2 ^ 32
  | 0x104 => devId / 2 ^ 32
  | 0x108 => Config.certLen % 2 ^ 11
  | 0x10C => b2n s.keys.owner.isSome
  | _ =>
    if 0x200 ≤ off && off < 0x260 then leWord attPub ((off - 0x200) / 4)
    else if 0x300 ≤ off && off < 0x330 then (match s.keys.owner with
      | some k => leWord (sha384 k) ((off - 0x300) / 4)
      | none => 0)
    else if 0x400 ≤ off && off < 0x800 then
      leNat ((List.range 4).map (fun i => if off - 0x400 + i < Config.certLen % 2 ^ 11 then Config.cert (off - 0x400 + i) else 0))
    else plain

def readFwu (s : State) (off : Nat) (plain : Nat) : Nat :=
  let a := imgSlot s 0
  let b := imgSlot s 1
  match off with
  | 0x100 => s.fwu.running * 2 ^ 31 + s.fwu.phase * 2 ^ 24 + s.fwu.agent
  | 0x104 => b2n b.ok * 2 + b2n a.ok
  | 0x108 => a.version
  | 0x10C => a.version / 2 ^ 32
  | 0x110 => b.version
  | 0x114 => b.version / 2 ^ 32
  | 0x118 => a.arb
  | 0x11C => a.arb / 2 ^ 32
  | 0x120 => b.arb
  | 0x124 => b.arb / 2 ^ 32
  | 0x128 => s.fwu.arbCtr
  | 0x12C => s.fwu.arbCtr / 2 ^ 32
  | _ => plain

/-- WARN bits of `n` monitors from monitor `o`. -/
def warnBits (s : State) (o n : Nat) : Nat := ((List.range n).map (fun i => b2n (s.hlt.mons.getD (o + i) Monitor.init).warn * 2 ^ i)).sum

def readHlt (s : State) (off : Nat) (plain : Nat) : Nat :=
  match off with
  | 0x100 => hltStat s
  | 0x104 => warnBits s 8 10
  | 0x108 => warnBits s 0 8
  | 0x184 => s.log.next
  | 0x188 => logOldest s
  | 0x18C => s.log.copied
  | _ =>
    if 0x110 ≤ off && off < 0x130 then twos 32 (monValue s ((off - 0x110) / 4))
    else if 0x130 ≤ off && off < 0x158 then twos 16 (monValue s (8 + (off - 0x130) / 4))
    else if 0x160 ≤ off && off < 0x178 then twos 32 (monValue s (18 + (off - 0x160) / 4))
    else if 0x1A0 ≤ off && off < 0x1C0 then (match s.hlt.agents[(off - 0x1A0) / 4]? with
      | some a => b2n a.running * 2 ^ 31 + a.last * 2 ^ 8 + a.first
      | none => 0)
    else plain

/-- Tagged frames in flight in a direction. -/
def taggedIn (s : State) (d : Dir) : Nat := s.frames.list.countP (fun f => f.dir == d && f.tag.isSome)

def readSmp (s : State) (off : Nat) (plain : Nat) : Nat :=
  match off with
  | 0x108 => s.smp.prod.toNat
  | 0x10C => s.smp.cons.toNat
  | 0x110 => taggedIn s .dec * 2 ^ 16 + taggedIn s .enc
  | _ => plain

/-! ### The whole map -/

/-- A block-specific register; `plain` is the register as last written. DEDUCED, unsafe (log entry 30). -/
def readBlock (s : State) (m : Master) (k : PageKind) (i off : Nat) (plain : Nat) : Nat :=
  match k with
  | .sys => readSys s off plain
  | .grt => readGrt s m off plain
  | .int => readInt s off plain
  | .plain => readPort s .plain i off plain
  | .line => readPort s .line i off plain
  | .gaz => readGaz s off plain
  | .con => readCon s off plain
  | .lrn => readLrn s off plain
  | .swp => readSwp s off plain
  | .orb => readOrb s off plain
  | .ecl => readEcl s off plain
  | .alm => readAlm s off plain
  | .seq => readSeq s off plain
  | .pipe => readPipe s i off plain
  | .sch => readSch s off plain
  | .trn => readTrn s off plain
  | .hwy => readHwy s i off plain
  | .trb => readTrb s i off plain
  | .tsi => readTsi s off plain
  | .bun => readBun s off plain
  | .pmb => readPmb s off plain
  | .aps => readAps s off plain
  | .twn => readTwn s off plain
  | .old => readOld s off plain
  | .mer => readMer s m off plain
  | .trg => readTrg s off plain
  | .mem => readChan s i off plain
  | .seal => readSealPage s off plain
  | .bdy => readBdy s i off plain
  | .lun => readLun s m off plain
  | .ord => readOrd s off plain
  | .era => readEra s m off plain
  | .ucu => readUcu s m off plain
  | .pke => readPke s off plain
  | .rng => readRng s m off plain
  | .fwu => readFwu s off plain
  | .hlt => readHlt s off plain
  | .smp => readSmp s off plain
  | .crt => readCrt s off plain

/-- What a master reads at BAR0 offset `a`, 4-byte aligned: 0 where the page defines no register (R64), on an unassigned page
(R63) and of a write-only register (R66); counters from the master's snapshot (R78); else the register's current value. -/
def readReg (s : State) (m : Master) (a : Nat) : Word :=
  let page := a / 0x1000
  let off := a % 0x1000
  match pageAt page, regRow a with
  | some (k, i), some r =>
    if off < 0x100 then wd (readLegend s m page off)
    else if r.acc = .wo then 0
    else if ctrRow k r then wd (snapCtr s m page off)
    else wd (readBlock s m k i off (getReg s a).toNat)
  | _, _ => 0

/-! ### One access on the interconnect (R382-R386, R394, R395) -/

/-- A bus integrity error at a register page: SYS captures for an unassigned page.
DESIGN CHOICE, unsafe (log entry 32). -/
def regIntegrity (m : Master) (a : Nat) (s : State) : State :=
  busError m (declareAlarm 10 (regErr m (if (pageAt (a / 0x1000)).isSome then a else 0) 0x08 s))

/-- One 32-bit access of a read: the enabled bytes of the register behind those before it; an unassigned page captures UNMAPPED (R63,
R65). -/
def readWord (m : Master) (a be : Nat) (r : Bytes × State) : Bytes × State :=
  let b := leBytes 4 (readReg r.2 m a).toNat
  let on := (List.range 4).filterMap (fun i => if be.testBit i then b[i]? else none)
  (r.1 ++ on, if (pageAt (a / 0x1000)).isNone then unmapped m a r.2 else r.2)

/-- A permitted read or fetch of a register: its value is returned; an unassigned page is captured (R63). -/
def regAccess (m : Master) (k : Access) (a be n : Nat) (s : State) : State :=
  let r := (List.range n).foldl (fun r i => readWord m (a + 4 * i) (if i = 0 then be else 15) r) ([], s)
  if k = .write then r.2 else emit (.data r.1) r.2

/-- A permitted access goes to its target: register space, DRAM, or a target of the core alone; any other is refused by the
sealed path (R382, R359). `integ` is 1 for an integrity error at the target and 2 for one in returned data. -/
def reachTarget (m : Master) (k : Access) (addr integ be n : Nat) (s : State) : State :=
  let t := addr / 2 ^ 36 % 256
  let a := addr % 2 ^ 24 / 4 * 4
  if t = 0xF0 then
    if integ = 1 then regIntegrity m a s
    else if integ = 2 && k != .write then portIntegrity m addr s
    else regAccess m k a be n s
  else if t = 0xF4 || t = 0xF8 || t = 0xFC then (if integ = 2 && k != .write then portIntegrity m addr s else s)
  else if integ = 1 then busError m (integrityAt (pg .seal) m addr s)
  else if t != 0 then addrRefuse m addr s
  else if integ = 2 && k != .write then portIntegrity m addr s
  else s

/-- BOUNDARY_CHECK: an access of a master to an internal address is checked by its unit (R383-R386); `x` says how the access is made.
DESIGN CHOICE, safe (log entry 72). -/
def boundaryCheck (m : Master) (k : Access) (addr : Nat) (x : AccessForm) (s : State) : State :=
  if reachable m s then checked m k (addr % 2 ^ 48) (reachTarget m k (addr % 2 ^ 48) x.integ x.be x.n) s else s

end Sys2Proof.Machine
end

