-- ==== Sys2Proof/WellFormed.lean ====
section
/-! DEFINITION. Well-formedness of a command: every operand within the width or the range its field, register or unit has in the
spec. What the spec judges when it takes a command (an order's ARG, a RANGE error) is no part of this. -/

namespace Sys2Proof

/-- A master's core number: Tircy runs on cores 0-3, agents on cores 4-63 (R381). -/
def Master.wf : Master → Bool
  | .tircy c => decide (c < 4)
  | .agentUser c => decide (4 ≤ c) && decide (c < 64)
  | .agentKernel c => decide (4 ≤ c) && decide (c < 64)
  | _ => true

/-- An SA index (R143) and a BAR2 offset as a descriptor carries it (R413). -/
def isSa (i : Nat) : Bool := decide (i < 2 ^ 21)
def isOff (o : Nat) : Bool := decide (o < 2 ^ 28)

/-- The codewords and symbols of a reception. -/
def RxEnd.wf : RxEnd → Bool
  | .corrected cw sym => decide (cw < 2 ^ 16) && decide (sym < 2 ^ 16)
  | .uncorrectable cw => decide (1 ≤ cw) && decide (cw < 2 ^ 16)
  | _ => true

/-- The operands of GAZ_EDIT and CON_EDIT at their widths (R413). -/
def GazEditArgs.wf (a : GazEditArgs) : Bool :=
  decide (a.op < 4) && decide (a.kind < 16) && decide (a.port < 16) && decide (a.action < 4) && decide (a.cls < 4) && isSa a.sa &&
    decide (a.key < 2 ^ 128)
def ConEditArgs.wf (a : ConEditArgs) : Bool :=
  decide (a.op < 4) && decide (a.action < 4) && decide (a.cls < 4) && decide (a.prio < 256) && isSa a.sa && decide (a.value < 2 ^ 160) &&
    decide (a.mask < 2 ^ 160)

/-- Whether a command's operands stand in their ranges. DESIGN CHOICE, safe (log entry 2). -/
def Instr.wf : Instr → Bool
  | .nop _ => true
  | .logRead _ first count off => decide (first < 2 ^ 32) && decide (count < 2 ^ 32) && isOff off
  | .warmReset _ => true
  | .modeSet _ mode => decide (mode < 16)
  | .attest _ challenge report => isOff challenge && isOff report
  | .fwStage _ image len slot => isOff image && decide (len < 2 ^ 32) && decide (slot < 2)
  | .fwActivate _ slot => decide (slot < 2)
  | .fwAgentRestarted core _ => decide (core < 64)
  | .ownerEnrol _ off => isOff off
  | .kekGenerate _ => true
  | .provisionCommit _ => true
  | .provisionSweepDone _ => true
  | .zeroize _ _ => true
  | .portMap _ _ group parts => decide (group < 2) && decide (parts.length = 8) && parts.all (fun n => decide (n < 2 ^ 11))
  | .portEq _ _ _ port => decide (port < 16)
  | .portEqTimeout _ port => decide (port < 16)
  | .memRetrain _ ch => decide (ch < 8)
  | .remapOutDone ch => decide (ch < 8)
  | .retrainingDone ch attempts failStep _ => decide (ch < 8) && decide (attempts < 4) && decide (failStep < 6)
  | .remapInDone ch => decide (ch < 8)
  | .merStep _ _ _ sec ns frac => decide (sec < 2 ^ 48) && decide (ns < 2 ^ 30) && decide (frac < 2 ^ 16)
  | .merStepPpsTimeout => true
  | .keyImport _ slot off => decide (slot < 16) && isOff off
  | .cakLoad _ slot off => decide (slot < 16) && isOff off
  | .saInstall _ sa off slot => isSa sa && isOff off && decide (slot < 16)
  | .saRewrite _ sa off slot => isSa sa && isOff off && decide (slot < 16)
  | .saErase _ sa => isSa sa
  | .saPin _ sa => isSa sa
  | .saUnpin _ sa => isSa sa
  | .saExport _ sa off slot => isSa sa && isOff off && decide (slot < 16)
  | .saImport _ sa off slot => isSa sa && isOff off && decide (slot < 16)
  | .gazEdit _ a => a.wf
  | .conEdit _ a => a.wf
  | .surveyStart _ base count _ => isOff base && decide (count < 2 ^ 22)
  | .eclSchedule _ kind sa new _ floor => decide (kind < 4) && isSa sa && isSa new && decide (floor < 2 ^ 64)
  | .eclCancel _ kind sa _ => decide (kind < 4) && isSa sa
  | .tsiSwap _ _ _ => true
  | .almAdvance _ mask target => decide (mask < 2 ^ 16) && decide (target < 2 ^ 23)
  | .almRenew _ ctr => decide (ctr < 16)
  | .sealRekey _ kid => decide (kid < 16)
  | .rekeyDone kid _ => decide (kid < 16)
  | .pkeJob _ off => isOff off
  | .pkeJobDone _ => true
  | .twinArbitrate _ retire => decide (retire < 4)
  | .twinSwitchback _ => true
  | .diagSaLoad _ sa romKey off => isSa sa && decide (romKey < 16) && isOff off
  | .diagLoopback _ mode inst block _ => decide (mode < 4) && decide (inst < 256) && decide (block < 4)
  | .orderTake => true
  | .completionPost => true
  | .choreItemCommit clk => decide (clk < 2 ^ 18)
  | .tickBoundary => true
  | .drainLimit => true
  | .almanacWrite _ => true
  | .sweeperVisit slot _ _ => decide (slot < 2 ^ 21)
  | .surveyCompareTick => true
  | .surveyRecheck rec => decide (rec < 2 ^ 21)
  | .surveyPassEnd => true
  | .plainFrameRx port clk _ e _ => decide (port < 16) && decide (clk < 2 ^ 18) && e.wf
  | .lineFrameRx port clk _ e _ => decide (port < 16) && decide (clk < 2 ^ 18) && e.wf
  | .frameAdmit _ => true
  | .orbitFillDone sa _ => isSa sa
  | .dispatch _ => true
  | .gangFinish _ clk _ => decide (clk < 2 ^ 18)
  | .egressBegin _ port clk => decide (port < 16) && decide (clk < 2 ^ 18)
  | .frameStomp _ _ => true
  | .transitLaunch _ clk => decide (clk < 2 ^ 18)
  | .bundleAssembly b => decide (b < 1024)
  | .bundleDeadline b => decide (b < 1024)
  | .linkUp _ port => decide (port < 16)
  | .linkDown _ port cond => decide (port < 16) && decide (cond < 3)
  | .pfcRefresh _ port => decide (port < 16)
  | .preemptVerify _ port _ => decide (port < 16)
  | .pipeFault p unit stage => decide (p < 42) && decide (unit < 4) && decide (stage < 16) && (unit == 0 || stage == 0)
  | .occultationRotaStep _ => true
  | .testCycleEnd p fail => decide (p < 42) && decide (fail < 256)
  | .shortKatEnd p fail => decide (p < 42) && decide (fail < 256)
  | .returnCycleEnd p fail => decide (p < 42) && decide (fail < 256)
  | .quiesceDone page => decide (page < 4096)
  | .highwayFrameRx h pos syms => decide (h < 8) && decide (pos < 1024) && syms.all (fun x => decide (x < 1024))
  | .highwayLos h => decide (h < 8)
  | .tribFrameComplete t => decide (t < 256)
  | .compassHunt t => decide (t < 256)
  | .tribDefectChange t defect _ => decide (t < 256) && decide (defect < 5)
  | .pmSecondClassify entity => decide (entity < 1280)
  | .pmBinClose => true
  | .heartbeatRx _ clk => decide (clk < 2 ^ 18)
  | .digestCut port => decide (port < 16)
  | .cutRx _ => true
  | .digestRx _ => true
  | .tickListRx _ => true
  | .tickListDeadline => true
  | .saItemRx _ => true
  | .rxCheckpointSend sa => isSa sa
  | .bundleForwardRx _ => true
  | .controlRx _ => true
  | .crossCheckSend key => decide (key < 16)
  | .crossCheckRx _ => true
  | .stateCopyRx _ => true
  | .selfCheckEnd => true
  | .arbTimeout => true
  | .joinTrust _ qx qy peerId nonce => decide (qx < 2 ^ 384) && decide (qy < 2 ^ 384) && decide (peerId < 2 ^ 64) &&
      decide (nonce.length = 32)
  | .joinReady => true
  | .joinAbandon => true
  | .pairedOrderHold => true
  | .realignment => true
  | .configFingerprintMismatch => true
  | .mkaNewSak _ => true
  | .ppsCapture => true
  | .trigPulse k => decide (k < 4)
  | .servoChange port _ => port.all (fun p => decide (p < 32))
  | .rtcLoad => true
  | .porstN _ straps => decide (straps < 16)
  | .sysrstN _ => true
  | .supplyLoss => true
  | .supplyValid => true
  | .pciePerstN _ => true
  | .thermalTrip sensor => decide (sensor < 8)
  | .watchdog => true
  | .agentRestart core => decide (core < 64)
  | .bootSequence inp => inp.gib.length == 8 && inp.failed.all (fun f => decide (f.1 < 8) && decide (f.2.1 ≤ 3) && decide (f.2.2 ≤ 5))
  | .lunarSample sensor value => decide (sensor < 9) && decide (value < 2 ^ 16)
  | .alarm => true
  | .boundaryCheck m _ addr x =>
    m.wf && decide (addr < 2 ^ 48) && decide (x.integ < 3) && decide (x.be < 16) && decide (1 ≤ x.n) && decide (x.n ≤ 1024)
  | .sealedRead m addr _ _ => m.wf && decide (addr < 2 ^ 48)
  | .sealedWrite m addr _ _ _ => m.wf && decide (addr < 2 ^ 48)
  | .scrub place idx _ => decide (place < 6) && (place != 4 || isSa idx)
  | .healthSample sensor value => decide (sensor < 24) && decide (value < 2 ^ 32)
  | .drbgReseed => true
  | .rngHealthWindow _ _ => true
  | .ucuJobDone => true
  | .ucuLeaseExpiry => true
  | .errataRecord => true
  | .summaryFlush => true
  | .sampleRecord => true
  | .smbusRead cmd => decide (cmd < 256)
  | .smbusWrite cmd => decide (cmd < 256)
  | .debugToken _ regions => regions.all (fun n => decide (n < 64))
  | .extest => true
  | .idcode => true
  | .samplePreload => true
  | .extestPulse => true
  | .extestTrain => true
  | .clamp => true
  | .highz => true
  | .dap => true
  | .bypass => true
  | .snapGo m page => m.wf && decide (page < 4096)
  | .sysGsnapGo m => m.wf
  | .qreq m page _ => m.wf && decide (page < 4096)
  | .srst m page => m.wf && decide (page < 4096)
  | .blockEn m page _ => m.wf && decide (page < 4096)
  | .lock m page => m.wf && decide (page < 4096)
  | .intForce m page _ => m.wf && decide (page < 4096)
  | .intStatClear m page _ => m.wf && decide (page < 4096)
  | .errInfoClear m page => m.wf && decide (page < 4096)
  | .errCountWrite m page _ => m.wf && decide (page < 4096)
  | .pmcWrite m page off _ => m.wf && decide (page < 4096) && decide (0x088 ≤ off) && decide (off ≤ 0x0C8) && decide (off % 4 = 0)
  | .intEoi m _ => m.wf
  | .msixUnmask m vec => m.wf && decide (vec < 64)
  | .sysCompatWrite m _ => m.wf
  | .grtResvQuery m _ => m.wf
  | .portLoopWrite m _ port _ => m.wf && decide (port < 16)
  | .portPfcThrWrite m _ port _ => m.wf && decide (port < 16)
  | .gazSeedWrite m k _ => m.wf && decide (k < 2)
  | .gazRdGo m => m.wf
  | .conRdGo m => m.wf
  | .orbRdGo m => m.wf
  | .seqRdGo m => m.wf
  | .eclRdGo m _ => m.wf
  | .eclRdNext m => m.wf
  | .swpSurveyStop m => m.wf
  | .swpMisPop m => m.wf
  | .almNotePop m => m.wf
  | .eclNotePop m => m.wf
  | .tsiWdata m _ => m.wf
  | .tsiCopy m _ => m.wf
  | .tsiCancel m _ => m.wf
  | .tsiRidxWrite m _ => m.wf
  | .bunWrite m => m.wf
  | .bunRead m => m.wf
  | .trbHunt m t => m.wf && decide (t < 256)
  | .apsCmdWrite m g _ => m.wf && decide (g < 128)
  | .hwyLoopWrite m h _ => m.wf && decide (h < 8)
  | .oldLoopWrite m _ => m.wf
  | .merRateWrite m _ => m.wf
  | .trgArm m k _ => m.wf && decide (k < 4)
  | .pmbRdGo m => m.wf
  | .pmbTcaPop m => m.wf
  | .schClrMax m => m.wf
  | .sealB2mapWrite m k _ => m.wf && decide (k < 2)
  | .bdyCommit m u => m.wf && decide (u < 8)
  | .bdyCommitDrained u => decide (u < 8)
  | .bdyNoticePop m u => m.wf && decide (u < 8)
  | .ordCtrlEn m _ => m.wf
  | .ordSqTail m _ => m.wf
  | .ordCqHead m _ => m.wf
  | .eraCtrlEn m _ => m.wf
  | .eraCons m _ => m.wf
  | .lrnRingCons m _ => m.wf
  | .smpCtrlEn m _ => m.wf
  | .smpCons m _ => m.wf
  | .ucuAcq w => w.writer.wf && w.rival.all Master.wf
  | .ucuRel m => m.wf
  | .ucuForce m => m.wf
  | .ucuGo m => m.wf
  | .ucuKeysrcWrite m _ => m.wf
  | .pkeAbort m area => m.wf && decide (area < 16)
  | .rngReq m => m.wf
  | .rngReseed m => m.wf
  | .registerWrite m off be v => m.wf && decide (off + 4 * v.more.length < 2 ^ 24) && decide (be < 16)
  | .highwayLosync h _ => decide (h < 8)
  | .oldunSyncChange _ lanes _ skew errs => decide (lanes < 256) && decide (skew ≤ 16) && decide (errs < 2 ^ 21)
  | .vbatLoss => true
  | .pcieLinkDown _ => true
  | .thermalRelease => true
  | .supplyRelease straps => decide (straps < 16)
  | .fwStageDone _ => true
  | .tsiCopyDone _ => true
  | .segmentRewriteDone seg => decide (seg < 16)
  | .zeroizeSweepDone _ => true
  | .controlFrameTx _ port _ => decide (port < 16)
  | .agentChoreItem core a => decide (core < 64) && a.wf

end Sys2Proof
end

