-- ==== Sys2Proof/Machine/Meaning.lean ====
section
/-! DEFINITION. What every meaning shares: a command's effect, then what follows every command (Flags.lean); and the few effects that
the table's rows need beside the operations of the other files. -/

namespace Sys2Proof.Machine

/-- The meaning of a command with effect `f`: a command whose operands stand outside their ranges names nothing on the device
and changes nothing. DESIGN CHOICE, unsafe (log entry 1). DESIGN CHOICE, safe (log entry 2). -/
def meaning (i : Instr) (f : State → State) (s : State) : Host.Outcome State Fault Refusal := done (if i.wf then f s else s)

/-- QUIESCE_DONE on a page: the pipelines are the quiescable blocks (R71, R205). -/
def pageQuiesced (page : Nat) (s : State) : State :=
  match pageAt page with
  | some (.pipe, p) => pipeQuiesced p s
  | _ => s

/-- WATCHDOG: Tircy's watchdog takes a warm reset (R52, R455). -/
def watchdogExpiry (s : State) : State := if modeIn [.lunar, .reset] s then s else warmReset 0x04 s

/-- AGENT_CHORE_ITEM: a Gazetteer edit of an agent enters its part of the chore queue in the modes in which the order of the same edit
is allowed (R22, R42); an agent that finds its part full waits. -/
def agentGaz (core : Nat) (a : GazEditArgs) (s : State) : State :=
  if (agentOf s core).isSome && modeIn (orderModes (.gazEdit a)) s then (agentItem (.gaz a) s).2 else s

/-- ECL_RD_CTRL.NEXT with the KIND last written (R229). -/
def eclNextRead (s : State) : State := eclRdGo (getReg s (ra (pg .ecl) 0x124) ||| 8) s

end Sys2Proof.Machine
end

