-- ==== Sys2Proof/Machine/DeviceEvents.lean ====
section
/-! DEFINITION. The meanings of the events of time, pins, power, memory, engines, records and the test access port. -/

namespace Sys2Proof.Machine

/-- PPS_CAPTURE (R348): A rising PPS_IN edge captures Meridian time. -/
def execPpsCapture (s : State) : Host.Outcome State Fault Refusal :=
  meaning .ppsCapture ppsEdge s

/-- TRIG_PULSE (R349): A Trig output begins or ends a pulse at its Meridian instant. -/
def execTrigPulse (k : Nat) (s : State) : Host.Outcome State Fault Refusal :=
  meaning (.trigPulse k) (trgPulse k) s

/-- SERVO_CHANGE (R346): The PTP agent's servo changes state. -/
def execServoChange (port : Option Nat) (off : Int) (s : State) : Host.Outcome State Fault Refusal :=
  meaning (.servoChange port off) (servoReport port off) s

/-- RTC_LOAD (R397): At each whole second the RTC is loaded from Meridian. -/
def execRtcLoad (s : State) : Host.Outcome State Fault Refusal :=
  meaning .rtcLoad rtcLoadNow s

/-- PORST_N (R473): PORST_N low resets the device; its rise latches straps and enters BOOT. -/
def execPorstN (level : Bool) (straps : Nat) (s : State) : Host.Outcome State Fault Refusal :=
  meaning (.porstN level straps) (porstPin level straps) s

/-- SYSRST_N (R52): SYSRST_N low takes a warm reset; its rise enters BOOT. -/
def execSysrstN (level : Bool) (s : State) : Host.Outcome State Fault Refusal :=
  meaning (.sysrstN level) (sysrstPin level) s

/-- SUPPLY_LOSS (R478): A main supply falls below its reset threshold and the device enters LUNAR. -/
def execSupplyLoss (s : State) : Host.Outcome State Fault Refusal :=
  meaning .supplyLoss supplyGone s

/-- SUPPLY_VALID (R491): Main supplies become valid and the device enters RESET, releasing after 1 ms if PORST_N is high. -/
def execSupplyValid (s : State) : Host.Outcome State Fault Refusal :=
  meaning .supplyValid supplyBack s

/-- PCIE_PERST_N (R474): PCIE_PERST_N low resets only the PCIe endpoint. -/
def execPciePerstN (level : Bool) (s : State) : Host.Outcome State Fault Refusal :=
  meaning (.pciePerstN level) (perstPin level) s

/-- THERMAL_TRIP (R486): A sensor at 118 C for 4 samples takes a warm reset held until 95 C. -/
def execThermalTrip (sensor : Nat) (s : State) : Host.Outcome State Fault Refusal :=
  meaning (.thermalTrip sensor) thermalTripAt s

/-- WATCHDOG (R455): Tircy watchdog expiry after 64 ticks takes a warm reset. -/
def execWatchdog (s : State) : Host.Outcome State Fault Refusal :=
  meaning .watchdog watchdogExpiry s

/-- AGENT_RESTART (R455): An agent silent for 8 ticks is restarted, or moved after 3 restarts. -/
def execAgentRestart (core : Nat) (s : State) : Host.Outcome State Fault Refusal :=
  meaning (.agentRestart core) (agentSilent core) s

/-- BOOT_SEQUENCE (R50): In BOOT the device loads, verifies firmware, advances counters, trains memory and changes mode. -/
def execBootSequence (inp : BootInput) (s : State) : Host.Outcome State Fault Refusal :=
  meaning (.bootSequence inp) (bootRun inp) s

/-- LUNAR_SAMPLE (R400): Lunar sensors are sampled and alarms declared after N tamper samples. -/
def execLunarSample (sensor : Nat) (value : Nat) (s : State) : Host.Outcome State Fault Refusal :=
  meaning (.lunarSample sensor value) (lunarSample sensor value) s

/-- ALARM (R401): A declared alarm source executes its response set. -/
def execAlarm (s : State) : Host.Outcome State Fault Refusal :=
  meaning .alarm alarmRespond s

/-- BOUNDARY_CHECK (R386): A Boundary unit checks an access and denies it if no region permits. -/
def execBoundaryCheck (m : Master) (k : Access) (addr : Nat) (x : AccessForm) (s : State) : Host.Outcome State Fault Refusal :=
  meaning (.boundaryCheck m k addr x) (boundaryCheck m k addr x) s

/-- SEALED_READ (R367): A DRAM line read checks its tag, retries and poisons on failure. -/
def execSealedRead (m : Master) (addr : Nat) (fails : Nat) (integ : Bool) (s : State) : Host.Outcome State Fault Refusal :=
  meaning (.sealedRead m addr fails integ) (sealedRead m addr fails integ) s

/-- SEALED_WRITE (R369): A DRAM line write is full or read-modify-write, abandoned on poison. -/
def execSealedWrite (m : Master) (addr : Nat) (fails : Nat) (bytes : Bytes) (integ : Bool) (s : State) : Host.Outcome State Fault Refusal :=
  meaning (.sealedWrite m addr fails bytes integ) (sealedWrite m addr fails bytes integ) s

/-- SCRUB (R464): The scrubber reads and corrects on-die SRAM words. -/
def execScrub (place : Nat) (idx : Nat) (correctable : Bool) (s : State) : Host.Outcome State Fault Refusal :=
  meaning (.scrub place idx correctable) (scrubAt place idx correctable) s

/-- HEALTH_SAMPLE (R463): Health monitors are sampled each tick and limits crossed or cleared. -/
def execHealthSample (sensor : Nat) (value : Nat) (s : State) : Host.Outcome State Fault Refusal :=
  meaning (.healthSample sensor value) (healthIn sensor value) s

/-- DRBG_RESEED (R451): The DRBG reseeds after 2^20 requests or every 8,000 ticks. -/
def execDrbgReseed (s : State) : Host.Outcome State Fault Refusal :=
  meaning .drbgReseed drbgDue s

/-- RNG_HEALTH_WINDOW (R452): An entropy window passes or fails the health tests. -/
def execRngHealthWindow (rctFail : Bool) (aptFail : Bool) (s : State) : Host.Outcome State Fault Refusal :=
  meaning (.rngHealthWindow rctFail aptFail) (rngWindow rctFail aptFail) s

/-- UCU_JOB_DONE (R439): A UCU job ends with OK or AUTH_FAIL. -/
def execUcuJobDone (s : State) : Host.Outcome State Fault Refusal :=
  meaning .ucuJobDone ucuFinish s

/-- UCU_LEASE_EXPIRY (R442): UCU_LEASE idle ticks force release of the lock. -/
def execUcuLeaseExpiry (s : State) : Host.Outcome State Fault Refusal :=
  meaning .ucuLeaseExpiry ucuLease s

/-- ERRATA_RECORD (R421): A failure record is written to the Errata ring or enters a summary. -/
def execErrataRecord (s : State) : Host.Outcome State Fault Refusal :=
  meaning .errataRecord errataOut s

/-- SUMMARY_FLUSH (R425): With 1,024 free slots, non-empty overflow summaries are written as record pairs. -/
def execSummaryFlush (s : State) : Host.Outcome State Fault Refusal :=
  meaning .summaryFlush summaryOut s

/-- SAMPLE_RECORD (R466): A tagged frame that ends writes a sample record. -/
def execSampleRecord (s : State) : Host.Outcome State Fault Refusal :=
  meaning .sampleRecord sampleOut s

/-- SMBUS_READ (R467): An SMBus read command returns a health value. -/
def execSmbusRead (cmd : Nat) (s : State) : Host.Outcome State Fault Refusal :=
  meaning (.smbusRead cmd) (smbusReadAt cmd) s

/-- SMBUS_WRITE (R467): An SMBus write after the command byte is NACKed and counted. -/
def execSmbusWrite (cmd : Nat) (s : State) : Host.Outcome State Fault Refusal :=
  meaning (.smbusWrite cmd) smbusWriteAt s

/-- DEBUG_TOKEN (R391): A signed debug token is verified and unit 3 regions enabled. -/
def execDebugToken (valid : Bool) (regions : List Nat) (s : State) : Host.Outcome State Fault Refusal :=
  meaning (.debugToken valid regions) (debugTokenIn valid regions) s

/-- EXTEST (R488): JTAG EXTEST drives and observes boundary balls while PORST_N is low. -/
def execExtest (s : State) : Host.Outcome State Fault Refusal :=
  meaning .extest (tapLoad 0x00) s

/-- IDCODE (R487): JTAG IDCODE selects the identification register. -/
def execIdcode (s : State) : Host.Outcome State Fault Refusal :=
  meaning .idcode tapId s

/-- SAMPLE_PRELOAD (R487): JTAG SAMPLE/PRELOAD captures or loads the boundary register. -/
def execSamplePreload (s : State) : Host.Outcome State Fault Refusal :=
  meaning .samplePreload (tapLoad 0x02) s

/-- EXTEST_PULSE (R488): JTAG 1149.6 EXTEST_PULSE on AC lanes while PORST_N is low. -/
def execExtestPulse (s : State) : Host.Outcome State Fault Refusal :=
  meaning .extestPulse (tapLoad 0x03) s

/-- EXTEST_TRAIN (R488): JTAG 1149.6 EXTEST_TRAIN on AC lanes while PORST_N is low. -/
def execExtestTrain (s : State) : Host.Outcome State Fault Refusal :=
  meaning .extestTrain (tapLoad 0x04) s

/-- CLAMP (R488): JTAG CLAMP holds outputs while PORST_N is low. -/
def execClamp (s : State) : Host.Outcome State Fault Refusal :=
  meaning .clamp (tapLoad 0x05) s

/-- HIGHZ (R488): JTAG HIGHZ floats outputs while PORST_N is low. -/
def execHighz (s : State) : Host.Outcome State Fault Refusal :=
  meaning .highz (tapLoad 0x06) s

/-- DAP (R488): JTAG DAP opens the debug access port as R391 allows. -/
def execDap (s : State) : Host.Outcome State Fault Refusal :=
  meaning .dap (tapLoad 0x20) s

/-- BYPASS (R487): JTAG BYPASS selects the one-bit bypass register. -/
def execBypass (s : State) : Host.Outcome State Fault Refusal :=
  meaning .bypass (tapLoad 0xFF) s

/-- BDY_COMMIT_DRAINED (R392): Accesses checked under the old set complete and PENDING returns to 0. -/
def execBdyCommitDrained (u : Nat) (s : State) : Host.Outcome State Fault Refusal :=
  meaning (.bdyCommitDrained u) (bdyDrained u) s

/-- HIGHWAY_LOSYNC (R273): The Clause 36 synchronisation process loses or regains sync on a highway's inbound data lane, declaring
or clearing highway LOSYNC. -/
def execHighwayLosync (h : Nat) (lost : Bool) (s : State) : Host.Outcome State Fault Refusal :=
  meaning (.highwayLosync h lost) (highwayLosync h lost) s

/-- OLDUN_SYNC_CHANGE (R317): The Oldun link's inbound clock, lane synchronisation or deskew is lost or regained, changing
OLD_STAT.SYNC. -/
def execOldunSyncChange (clk : Bool) (lanes : Nat) (desk : Bool) (skew errs : Nat) (s : State) : Host.Outcome State Fault Refusal :=
  meaning (.oldunSyncChange clk lanes desk skew errs) (oldSyncChange clk lanes desk skew errs) s

/-- VBAT_LOSS (R396): VBAT is removed or falls below 2.2 V, so that with the main supplies absent the KEK and Lunar state are lost
and VBAT_LOST is set. -/
def execVbatLoss (s : State) : Host.Outcome State Fault Refusal :=
  meaning .vbatLoss vbatGone s

/-- PCIE_LINK_DOWN (R408): The PCIe link goes down or comes back up, or a hot reset arrives without PCIE_PERST_N, and pending MSI-X
messages are sent once it is up. -/
def execPcieLinkDown (up : Bool) (s : State) : Host.Outcome State Fault Refusal :=
  meaning (.pcieLinkDown up) (pcieLink up) s

/-- THERMAL_RELEASE (R486): After a thermal trip, every die sensor reads 95 C or less and the device leaves RESET for BOOT. -/
def execThermalRelease (s : State) : Host.Outcome State Fault Refusal :=
  meaning .thermalRelease thermalOff s

/-- SUPPLY_RELEASE (R491): With PORST_N already high, 1 ms after every main supply is within R483 the device releases itself from
RESET, latches the straps, starts Meridian and enters BOOT. -/
def execSupplyRelease (straps : Nat) (s : State) : Host.Outcome State Fault Refusal :=
  meaning (.supplyRelease straps) (supplyReleaseAt straps) s

/-- FW_STAGE_DONE (R458): Programming of a staged image ends, the slot is read back and verified, and FW_STAGE completes OK or
FAULT, restarting verification in BOOT. -/
def execFwStageDone (readBackOk : Bool) (s : State) : Host.Outcome State Fault Refusal :=
  meaning (.fwStageDone readBackOk) (fwStaged readBackOk) s

/-- TSI_COPY_DONE (R283): A TSI_COPY of the active page to standby finishes, clearing COPY_BUSY so that writes to that standby page
are accepted again. -/
def execTsiCopyDone (dir : Dir) (s : State) : Host.Outcome State Fault Refusal :=
  meaning (.tsiCopyDone dir) (tsiCopyEnd (dirNum dir)) s

/-- SEGMENT_REWRITE_DONE (R380): The rewrite of a reassigned BAR2 segment as zeros under its new identifier ends, releasing the
waiting host accesses. -/
def execSegmentRewriteDone (seg : Nat) (s : State) : Host.Outcome State Fault Refusal :=
  meaning (.segmentRewriteDone seg) (segmentDone seg) s

/-- ZEROIZE_SWEEP_DONE (R365): The root-change sweeps and rewrites on entry into ZEROIZED end, the old-root keys are wiped and
CHANGING clears, so ZEROIZE can complete. -/
def execZeroizeSweepDone (failed : List Nat) (s : State) : Host.Outcome State Fault Refusal :=
  meaning (.zeroizeSweepDone failed) (zeroSwept failed) s

/-- CONTROL_FRAME_TX (R343): An agent hands an EAPOL or PTP control frame to egress, with its egress timestamp captured or the
frame suppressed while PORT_MAC is unset. -/
def execControlFrameTx (side : Side) (port : Nat) (bytes : Bytes) (s : State) : Host.Outcome State Fault Refusal :=
  meaning (.controlFrameTx side port bytes) (controlTx side port bytes) s

/-- AGENT_CHORE_ITEM (R22): An agent other than through an MKA key change, such as the learning agent with SINK = 1, places an item
in its part of the chore queue, or waits while that part is full. -/
def execAgentChoreItem (core : Nat) (a : GazEditArgs) (s : State) : Host.Outcome State Fault Refusal :=
  meaning (.agentChoreItem core a) (agentGaz core a) s

end Sys2Proof.Machine
end

