-- ==== Sys2Proof/Machine/FrameEvents.lean ====
section
/-! DEFINITION. The meanings of the events of orders, the tick, the tables, frames and bundles. -/

namespace Sys2Proof.Machine

/-- FW_AGENT_RESTARTED (R460): An agent answers or fails its first poll after restart on the new image, continuing or rolling back
activation. -/
def execFwAgentRestarted (core : Nat) (answered : Bool) (s : State) : Host.Outcome State Fault Refusal :=
  meaning (.fwAgentRestarted core answered) (fwAgentRestartedAt core answered) s

/-- PROVISION_SWEEP_DONE (R364): The last root-change sweep ends; old keys are wiped, TKW derived and the order completes. -/
def execProvisionSweepDone (failed : List Nat) (s : State) : Host.Outcome State Fault Refusal :=
  meaning (.provisionSweepDone failed) (provisionSweepDone failed) s

/-- PORT_EQ_TIMEOUT (R115): A port not up within 16,000 ticks after PORT_EQ completes the order with FAULT. -/
def execPortEqTimeout (side : Side) (port : Nat) (s : State) : Host.Outcome State Fault Refusal :=
  meaning (.portEqTimeout side port) (portEqLimit side port) s

/-- REMAP_OUT_DONE (R374): The last granule has left the channel and retraining starts. -/
def execRemapOutDone (ch : Nat) (s : State) : Host.Outcome State Fault Refusal :=
  meaning (.remapOutDone ch) (remapOutDone ch) s

/-- RETRAINING_DONE (R376): Retraining passes and REMAP_IN starts, or all attempts fail and the channel is mapped out. -/
def execRetrainingDone (ch : Nat) (attempts : Nat) (failStep : Nat) (pass : Bool) (s : State) : Host.Outcome State Fault Refusal :=
  meaning (.retrainingDone ch attempts failStep pass) (retrainingDone ch attempts failStep pass) s

/-- REMAP_IN_DONE (R374): The last granule is back on the channel; it becomes ACTIVE and the order completes OK. -/
def execRemapInDone (ch : Nat) (s : State) : Host.Outcome State Fault Refusal :=
  meaning (.remapInDone ch) (remapInDone ch) s

/-- MER_STEP_PPS_TIMEOUT (R340): No PPS edge within 2 s of a PPS-mode step; the order completes with FAULT. -/
def execMerStepPpsTimeout (s : State) : Host.Outcome State Fault Refusal :=
  meaning .merStepPpsTimeout merStepLimit s

/-- REKEY_DONE (R377): A re-key sweep ends; old keys wiped, GEN advanced and the order completes. -/
def execRekeyDone (kid : Nat) (failed : List Nat) (s : State) : Host.Outcome State Fault Refusal :=
  meaning (.rekeyDone kid failed) (rekeyDone kid failed) s

/-- PKE_JOB_DONE (R445): A PKE job ends after its fixed time, with result, INVALID_INPUT or FAULT. -/
def execPkeJobDone (deviceFault : Bool) (s : State) : Host.Outcome State Fault Refusal :=
  meaning (.pkeJobDone deviceFault) (pkeDone deviceFault) s

/-- ORDER_TAKE (R411): Tircy takes the order at SQ_HEAD when room allows and judges its legality. -/
def execOrderTake (s : State) : Host.Outcome State Fault Refusal :=
  meaning .orderTake orderTake s

/-- COMPLETION_POST (R415): A 16-B completion record is written to the CQ and CQ_TAIL advances. -/
def execCompletionPost (s : State) : Host.Outcome State Fault Refusal :=
  meaning .completionPost completionPost s

/-- CHORE_ITEM_COMMIT (R21): The queued chore item at the head commits if it fits its budget, in acceptance order. -/
def execChoreItemCommit (clk : Nat) (s : State) : Host.Outcome State Fault Refusal :=
  meaning (.choreItemCommit clk) (choreCommitCmd clk) s

/-- TICK_BOUNDARY (R17): At clock 0 the tick advances and the boundary actions run in order. -/
def execTickBoundary (s : State) : Host.Outcome State Fault Refusal :=
  meaning .tickBoundary tickBoundary s

/-- DRAIN_LIMIT (R55): 64 ticks after DRAIN entry every item still in flight is ended. -/
def execDrainLimit (s : State) : Host.Outcome State Fault Refusal :=
  meaning .drainLimit drainLimit s

/-- ALMANAC_WRITE (R212): At clock 180,000 merged Almanac advances are written and verified in eMRAM. -/
def execAlmanacWrite (fails : List Nat) (s : State) : Host.Outcome State Fault Refusal :=
  meaning (.almanacWrite fails) (almanacWrite fails) s

/-- SWEEPER_VISIT (R136): The sweeper visits a Gazetteer slot, checking its code and ageing it. -/
def execSweeperVisit (slot : Nat) (bad hit : Bool) (s : State) : Host.Outcome State Fault Refusal :=
  meaning (.sweeperVisit slot bad hit) (sweeperVisitCmd slot bad hit) s

/-- SURVEY_COMPARE_TICK (R141): A compare pass reads 16,384 shadow records and looks them up. -/
def execSurveyCompareTick (s : State) : Host.Outcome State Fault Refusal :=
  meaning .surveyCompareTick surveyTick s

/-- SURVEY_RECHECK (R141): After SWP_RECHECK ticks a mismatched record is compared again and reported. -/
def execSurveyRecheck (rec : Nat) (s : State) : Host.Outcome State Fault Refusal :=
  meaning (.surveyRecheck rec) (surveyRecheck rec) s

/-- SURVEY_PASS_END (R142): A compare pass ends, loading pass counts and reporting a COUNT mismatch. -/
def execSurveyPassEnd (s : State) : Host.Outcome State Fault Refusal :=
  meaning .surveyPassEnd surveyPassEnd s

/-- PLAIN_FRAME_RX (R7): A frame arriving at a plain port passes parse, classification and the sequence point. -/
def execPlainFrameRx (port : Nat) (clk : Nat) (bytes : Bytes) (e : RxEnd) (express : Bool) (s : State) : Host.Outcome State Fault Refusal :=
  meaning (.plainFrameRx port clk bytes e express) (plainRx port clk bytes e express) s

/-- LINE_FRAME_RX (R119): A frame arriving at a line port is parsed and looked up to a receive SA. -/
def execLineFrameRx (port : Nat) (clk : Nat) (bytes : Bytes) (e : RxEnd) (express : Bool) (s : State) : Host.Outcome State Fault Refusal :=
  meaning (.lineFrameRx port clk bytes e express) (lineRx port clk bytes e express) s

/-- FRAME_ADMIT (R104): A waiting frame is admitted when an in-flight slot frees. -/
def execFrameAdmit (dir : Dir) (s : State) : Host.Outcome State Fault Refusal :=
  meaning (.frameAdmit dir) (frameAdmit dir) s

/-- ORBIT_FILL_DONE (R152): A fill of an SA record from DRAM completes or fails. -/
def execOrbitFillDone (sa : Nat) (r : FillEnd) (s : State) : Host.Outcome State Fault Refusal :=
  meaning (.orbitFillDone sa r) (orbitFill sa r) s

/-- DISPATCH (R194): A frame is dispatched to a gang of free live pipelines. -/
def execDispatch (dir : Dir) (s : State) : Host.Outcome State Fault Refusal :=
  meaning (.dispatch dir) (dispatchOne dir) s

/-- GANG_FINISH (R193): A gang finishes a frame's blocks and tag, and a decrypt frame's ICV is compared. -/
def execGangFinish (frame : Nat) (clk : Nat) (icvFault : Bool) (s : State) : Host.Outcome State Fault Refusal :=
  meaning (.gangFinish frame clk icvFault) (gangEnd frame clk icvFault) s

/-- EGRESS_BEGIN (R243): A free egress begins the highest-priority available frame. -/
def execEgressBegin (side : Side) (port : Nat) (clk : Nat) (s : State) : Host.Outcome State Fault Refusal :=
  meaning (.egressBegin side port clk) (egressNext side port clk) s

/-- FRAME_STOMP (R15): A frame in emission that proves bad is ended with zeros and an inverted FCS. -/
def execFrameStomp (frame : Nat) (reason : Nat) (s : State) : Host.Outcome State Fault Refusal :=
  meaning (.frameStomp frame reason) (frameBad frame reason) s

/-- TRANSIT_LAUNCH (R253): At a launch instant a timed frame or bundle is emitted, or handled as late. -/
def execTransitLaunch (frame : Nat) (clk : Nat) (s : State) : Host.Outcome State Fault Refusal :=
  meaning (.transitLaunch frame clk) (launchFrame frame clk) s

/-- BUNDLE_ASSEMBLY (R291): At OFFSET minus 2,000 ns of its launch tick a bundle reaches its sequence point. -/
def execBundleAssembly (b : Nat) (s : State) : Host.Outcome State Fault Refusal :=
  meaning (.bundleAssembly b) (bunAssemble b) s

/-- BUNDLE_DEADLINE (R299): At a synced bundle's deadline with nothing held, the bundle is lost. -/
def execBundleDeadline (b : Nat) (s : State) : Host.Outcome State Fault Refusal :=
  meaning (.bundleDeadline b) (bunMiss b) s

end Sys2Proof.Machine
end

