-- ==== Sys2Proof/Machine/HostOrders.lean ====
section
/-! DEFINITION. The meanings of the host orders (R413): the host submits one descriptor and Tircy takes it. -/

namespace Sys2Proof.Machine

/-- NOP (R413): Order that does nothing and completes with OK. -/
def execNop (h : OrdHdr) (s : State) : Host.Outcome State Fault Refusal :=
  meaning (.nop h) (submitOrder h .nop) s

/-- LOG_READ (R462): Order that copies NV event log entries into BAR2. -/
def execLogRead (h : OrdHdr) (first : Nat) (count : Nat) (off : Nat) (s : State) : Host.Outcome State Fault Refusal :=
  meaning (.logRead h first count off) (submitOrder h (.logRead first count off)) s

/-- WARM_RESET (R419): Order that takes a warm reset and never completes. -/
def execWarmReset (h : OrdHdr) (s : State) : Host.Outcome State Fault Refusal :=
  meaning (.warmReset h) (submitOrder h .warmReset) s

/-- MODE_SET (R43): Order that requests a mode change, completing when the new mode takes effect. -/
def execModeSet (h : OrdHdr) (mode : Nat) (s : State) : Host.Outcome State Fault Refusal :=
  meaning (.modeSet h mode) (submitOrder h (.modeSet mode)) s

/-- ATTEST (R454): Order that signs a 288-B attestation report over a host challenge. -/
def execAttest (h : OrdHdr) (challenge : Nat) (report : Nat) (s : State) : Host.Outcome State Fault Refusal :=
  meaning (.attest h challenge report) (submitOrder h (.attest challenge report)) s

/-- FW_STAGE (R458): Order that writes a firmware image from BAR2 into a slot and verifies it. -/
def execFwStage (h : OrdHdr) (image : Nat) (len : Nat) (slot : Nat) (s : State) : Host.Outcome State Fault Refusal :=
  meaning (.fwStage h image len slot) (submitOrder h (.fwStage image len slot)) s

/-- FW_ACTIVATE (R459): Order that loads a staged image and restarts agents and Tircy on it. -/
def execFwActivate (h : OrdHdr) (slot : Nat) (s : State) : Host.Outcome State Fault Refusal :=
  meaning (.fwActivate h slot) (submitOrder h (.fwActivate slot)) s

/-- OWNER_ENROL (R437): Order that stores the owner public key in eMRAM. -/
def execOwnerEnrol (h : OrdHdr) (off : Nat) (s : State) : Host.Outcome State Fault Refusal :=
  meaning (.ownerEnrol h off) (submitOrder h (.ownerEnrol off)) s

/-- KEK_GENERATE (R437): Order that generates and verifies a KEK in Lunar SRAM. -/
def execKekGenerate (h : OrdHdr) (s : State) : Host.Outcome State Fault Refusal :=
  meaning (.kekGenerate h) (submitOrder h .kekGenerate) s

/-- PROVISION_COMMIT (R364): Order that starts sweeping the sealed path from the provisional root onto KEK-derived keys. -/
def execProvisionCommit (h : OrdHdr) (s : State) : Host.Outcome State Fault Refusal :=
  meaning (.provisionCommit h) (submitOrder h .provisionCommit) s

/-- ZEROIZE (R61): Order that erases the KEK and enters ZEROIZED at once. -/
def execZeroize (h : OrdHdr) (magic : Word) (s : State) : Host.Outcome State Fault Refusal :=
  meaning (.zeroize h magic) (submitOrder h (.zeroize magic)) s

/-- PORT_MAP (R92): Order that reads a group's staged mode and partition sizes for commit at the next boundary. -/
def execPortMap (h : OrdHdr) (side : Side) (group : Nat) (parts : List Nat) (s : State) : Host.Outcome State Fault Refusal :=
  meaning (.portMap h side group parts) (submitOrder h (.portMap side group parts)) s

/-- PORT_EQ (R115): Order that reloads or retrains one port's lanes, taking it link-down. -/
def execPortEq (h : OrdHdr) (retrain : Bool) (side : Side) (port : Nat) (s : State) : Host.Outcome State Fault Refusal :=
  meaning (.portEq h retrain side port) (submitOrder h (.portEq retrain side port)) s

/-- MEM_RETRAIN (R374): Order that starts moving a channel's granules into the reserve for retraining. -/
def execMemRetrain (h : OrdHdr) (ch : Nat) (s : State) : Host.Outcome State Fault Refusal :=
  meaning (.memRetrain h ch) (submitOrder h (.memRetrain ch)) s

/-- MER_STEP (R340): Order that steps Meridian by an offset or at the next PPS edge. -/
def execMerStep (h : OrdHdr) (neg : Bool) (pps : Bool) (sec : Nat) (ns : Nat) (frac : Nat) (s : State) : Host.Outcome State Fault Refusal :=
  meaning (.merStep h neg pps sec ns frac) (submitOrder h (.merStep neg pps sec ns frac)) s

/-- KEY_IMPORT (R433): Order that loads a transport key slot by ECDH agreement or blob reload. -/
def execKeyImport (h : OrdHdr) (slot : Nat) (off : Nat) (s : State) : Host.Outcome State Fault Refusal :=
  meaning (.keyImport h slot off) (submitOrder h (.keyImport slot off)) s

/-- CAK_LOAD (R434): Order that unwraps and holds an MKA CAK. -/
def execCakLoad (h : OrdHdr) (slot : Nat) (off : Nat) (s : State) : Host.Outcome State Fault Refusal :=
  meaning (.cakLoad h slot off) (submitOrder h (.cakLoad slot off)) s

/-- SA_INSTALL (R156): Order that queues installation of an SA from a wrapped image. -/
def execSaInstall (h : OrdHdr) (sa : Nat) (off : Nat) (slot : Nat) (s : State) : Host.Outcome State Fault Refusal :=
  meaning (.saInstall h sa off slot) (submitOrder h (.saInstall sa off slot)) s

/-- SA_REWRITE (R157): Order that queues replacement of an installed SA's writable fields. -/
def execSaRewrite (h : OrdHdr) (sa : Nat) (off : Nat) (slot : Nat) (s : State) : Host.Outcome State Fault Refusal :=
  meaning (.saRewrite h sa off slot) (submitOrder h (.saRewrite sa off slot)) s

/-- SA_ERASE (R158): Order that queues erasure of an SA. -/
def execSaErase (h : OrdHdr) (sa : Nat) (s : State) : Host.Outcome State Fault Refusal :=
  meaning (.saErase h sa) (submitOrder h (.saErase sa)) s

/-- SA_PIN (R153): Order that queues making an SA resident and pinned. -/
def execSaPin (h : OrdHdr) (sa : Nat) (s : State) : Host.Outcome State Fault Refusal :=
  meaning (.saPin h sa) (submitOrder h (.saPin sa)) s

/-- SA_UNPIN (R153): Order that queues clearing an SA's pin and writing it back. -/
def execSaUnpin (h : OrdHdr) (sa : Nat) (s : State) : Host.Outcome State Fault Refusal :=
  meaning (.saUnpin h sa) (submitOrder h (.saUnpin sa)) s

/-- SA_EXPORT (R169): Order that writes an installed SA to BAR2 with its key wrapped. -/
def execSaExport (h : OrdHdr) (sa : Nat) (off : Nat) (slot : Nat) (s : State) : Host.Outcome State Fault Refusal :=
  meaning (.saExport h sa off slot) (submitOrder h (.saExport sa off slot)) s

/-- SA_IMPORT (R170): Order that queues installation from an exported image. -/
def execSaImport (h : OrdHdr) (sa : Nat) (off : Nat) (slot : Nat) (s : State) : Host.Outcome State Fault Refusal :=
  meaning (.saImport h sa off slot) (submitOrder h (.saImport sa off slot)) s

/-- GAZ_EDIT (R126): Order that queues an add, modify or delete of a Gazetteer entry. -/
def execGazEdit (h : OrdHdr) (a : GazEditArgs) (s : State) : Host.Outcome State Fault Refusal :=
  meaning (.gazEdit h a) (submitOrder h (.gazEdit a)) s

/-- CON_EDIT (R128): Order that queues an add, modify or delete of a Contour entry. -/
def execConEdit (h : OrdHdr) (a : ConEditArgs) (s : State) : Host.Outcome State Fault Refusal :=
  meaning (.conEdit h a) (submitOrder h (.conEdit a)) s

/-- SURVEY_START (R140): Order that starts Survey compare against a BAR2 shadow. -/
def execSurveyStart (h : OrdHdr) (base : Nat) (count : Nat) (rep : Bool) (s : State) : Host.Outcome State Fault Refusal :=
  meaning (.surveyStart h base count rep) (submitOrder h (.surveyStart base count rep)) s

/-- ECL_SCHEDULE (R229): Order that creates a TX_SWITCH, RX_FLOOR or RX_CLOSE item for a target tick. -/
def execEclSchedule (h : OrdHdr) (kind : Nat) (sa : Nat) (new : Nat) (target : Tick) (floor : Nat) (s : State) : Host.Outcome State Fault Refusal :=
  meaning (.eclSchedule h kind sa new target floor) (submitOrder h (.eclSchedule kind sa new target floor)) s

/-- ECL_CANCEL (R236): Order that removes a pending Eclipse item. -/
def execEclCancel (h : OrdHdr) (kind : Nat) (sa : Nat) (target : Tick) (s : State) : Host.Outcome State Fault Refusal :=
  meaning (.eclCancel h kind sa target) (submitOrder h (.eclCancel kind sa target)) s

/-- TSI_SWAP (R284): Order that schedules the standby TSI page to become active at a target tick. -/
def execTsiSwap (h : OrdHdr) (dir : Dir) (target : Tick) (s : State) : Host.Outcome State Fault Refusal :=
  meaning (.tsiSwap h dir target) (submitOrder h (.tsiSwap dir target)) s

/-- ALM_ADVANCE (R221): Order that requests an advance of a set of Almanac counters. -/
def execAlmAdvance (h : OrdHdr) (mask : Nat) (target : Nat) (s : State) : Host.Outcome State Fault Refusal :=
  meaning (.almAdvance h mask target) (submitOrder h (.almAdvance mask target)) s

/-- ALM_RENEW (R220): Order that renews a spent Almanac counter to epoch 1 with a new generation. -/
def execAlmRenew (h : OrdHdr) (ctr : Nat) (s : State) : Host.Outcome State Fault Refusal :=
  meaning (.almRenew h ctr) (submitOrder h (.almRenew ctr)) s

/-- SEAL_REKEY (R377): Order that starts a re-key sweep of one key identifier. -/
def execSealRekey (h : OrdHdr) (kid : Nat) (s : State) : Host.Outcome State Fault Refusal :=
  meaning (.sealRekey h kid) (submitOrder h (.sealRekey kid)) s

/-- PKE_JOB (R443): Order that queues a public-key job in an operand area. -/
def execPkeJob (h : OrdHdr) (off : Nat) (s : State) : Host.Outcome State Fault Refusal :=
  meaning (.pkeJob h off) (submitOrder h (.pkeJob off)) s

/-- TWIN_ARBITRATE (R330): Paired order that retires a named twin or keeps both. -/
def execTwinArbitrate (h : OrdHdr) (retire : Nat) (s : State) : Host.Outcome State Fault Refusal :=
  meaning (.twinArbitrate h retire) (submitOrder h (.twinArbitrate retire)) s

/-- TWIN_SWITCHBACK (R334): Order that fixes the realignment tick and epochs for a joined partner. -/
def execTwinSwitchback (h : OrdHdr) (s : State) : Host.Outcome State Fault Refusal :=
  meaning (.twinSwitchback h) (submitOrder h .twinSwitchback) s

/-- DIAG_SA_LOAD (R58): Order that sets up a diagnostic SA from a ROM test key. -/
def execDiagSaLoad (h : OrdHdr) (sa : Nat) (romKey : Nat) (off : Nat) (s : State) : Host.Outcome State Fault Refusal :=
  meaning (.diagSaLoad h sa romKey off) (submitOrder h (.diagSaLoad sa romKey off)) s

/-- DIAG_LOOPBACK (R60): Order that sets a port, highway or Oldun loopback in DIAGNOSTIC. -/
def execDiagLoopback (h : OrdHdr) (mode : Nat) (inst : Nat) (block : Nat) (side : Side) (s : State) : Host.Outcome State Fault Refusal :=
  meaning (.diagLoopback h mode inst block side) (submitOrder h (.diagLoopback mode inst block side)) s

end Sys2Proof.Machine
end

