-- ==== Sys2Proof/Machine/LinkEvents.lean ====
section
/-! DEFINITION. The meanings of the events of ports, pipelines, the circuit plane and the twin pair. -/

namespace Sys2Proof.Machine

/-- LINK_UP (R96): After UP_HOLD of clean alignment the port is declared link-up. -/
def execLinkUp (side : Side) (port : Nat) (s : State) : Host.Outcome State Fault Refusal :=
  meaning (.linkUp side port) (linkUpCmd side port) s

/-- LINK_DOWN (R97): A loss, fault or admin action declares a port link-down and ends frames in reception. -/
def execLinkDown (side : Side) (port : Nat) (cond : Nat) (s : State) : Host.Outcome State Fault Refusal :=
  meaning (.linkDown side port cond) (linkDownCmd side port cond) s

/-- PFC_REFRESH (R105): While above XON the PFC frame is resent each half QUANTA. -/
def execPfcRefresh (side : Side) (port : Nat) (s : State) : Host.Outcome State Fault Refusal :=
  meaning (.pfcRefresh side port) (pfcAgain side port) s

/-- PREEMPT_VERIFY (R108): An 802.3br verify attempt is made every VERIFY_TIME ms, up to 3. -/
def execPreemptVerify (side : Side) (port : Nat) (v : Verify) (s : State) : Host.Outcome State Fault Refusal :=
  meaning (.preemptVerify side port v) (verifyStep side port v) s

/-- PIPE_FAULT (R200): A parity or comparator disagreement in a live pipeline ends its frames and retires it. -/
def execPipeFault (p : Nat) (unit : Nat) (stage : Nat) (s : State) : Host.Outcome State Fault Refusal :=
  meaning (.pipeFault p unit stage) (pipeFaultAt p unit stage) s

/-- OCCULTATION_ROTA_STEP (R201): Every 8,000 boundaries the occulted pipeline returns and the next is occulted. -/
def execOccultationRotaStep (dir : Dir) (s : State) : Host.Outcome State Fault Refusal :=
  meaning (.occultationRotaStep dir) (rotaRun (dirNum dir)) s

/-- TEST_CYCLE_END (R202): An occulted pipeline's 320-tick test cycle ends, passing or failing. -/
def execTestCycleEnd (p : Nat) (fail : Nat) (s : State) : Host.Outcome State Fault Refusal :=
  meaning (.testCycleEnd p fail) (testCycleEnd p fail) s

/-- SHORT_KAT_END (R203): A replacement pipeline's short known-answer set ends and it goes live or is retired. -/
def execShortKatEnd (p : Nat) (fail : Nat) (s : State) : Host.Outcome State Fault Refusal :=
  meaning (.shortKatEnd p fail) (shortKatEnd p fail) s

/-- RETURN_CYCLE_END (R205): A pipeline leaving quiesce finishes its full test cycle and takes a role or is retired. -/
def execReturnCycleEnd (p : Nat) (fail : Nat) (s : State) : Host.Outcome State Fault Refusal :=
  meaning (.returnCycleEnd p fail) (returnCycleEnd p fail) s

/-- QUIESCE_DONE (R71): A block asked to quiesce has ended its items and sets QUIESCED. -/
def execQuiesceDone (page : Nat) (s : State) : Host.Outcome State Fault Refusal :=
  meaning (.quiesceDone page) (pageQuiesced page) s

/-- HIGHWAY_FRAME_RX (R266): An inbound highway frame is received, judged good or bad and its slots passed on. -/
def execHighwayFrameRx (h : Nat) (pos : Nat) (syms : List Nat) (s : State) : Host.Outcome State Fault Refusal :=
  meaning (.highwayFrameRx h pos syms) (highwayRx h pos syms) s

/-- HIGHWAY_LOS (R273): No transitions for 64 symbol times declare highway LOS. -/
def execHighwayLos (h : Nat) (s : State) : Host.Outcome State Fault Refusal :=
  meaning (.highwayLos h) (highwayLos h) s

/-- TRIB_FRAME_COMPLETE (R276): A framer completes a tributary frame into its slip buffer, dropping one if full. -/
def execTribFrameComplete (t : Nat) (s : State) : Host.Outcome State Fault Refusal :=
  meaning (.tribFrameComplete t) (tribFrame t) s

/-- COMPASS_HUNT (R270): The framer's candidates are tested and alignment declared when one qualifies. -/
def execCompassHunt (t : Nat) (s : State) : Host.Outcome State Fault Refusal :=
  meaning (.compassHunt t) (compassHunt t) s

/-- TRIB_DEFECT_CHANGE (R274): A tributary defect is declared or cleared and the reported defect updated. -/
def execTribDefectChange (t : Nat) (defect : Nat) (declared : Bool) (s : State) : Host.Outcome State Fault Refusal :=
  meaning (.tribDefectChange t defect declared) (tribDefect t defect declared) s

/-- PM_SECOND_CLASSIFY (R303): 10 s after each UTC second ends it is classified and added to its bin. -/
def execPmSecondClassify (entity : Nat) (s : State) : Host.Outcome State Fault Refusal :=
  meaning (.pmSecondClassify entity) (pmClassify entity) s

/-- PM_BIN_CLOSE (R304): 80,000 ticks after a quarter-hour the bin is closed and its records written. -/
def execPmBinClose (s : State) : Host.Outcome State Fault Refusal :=
  meaning .pmBinClose pmBinClose s

/-- HEARTBEAT_RX (R320): A partner heartbeat is received and accepted within 50 us of the tick. -/
def execHeartbeatRx (bytes : Bytes) (clk : Nat) (s : State) : Host.Outcome State Fault Refusal :=
  meaning (.heartbeatRx bytes clk) (heartbeatRx bytes clk) s

/-- DIGEST_CUT (R325): At clock 180,000 Twin A takes and sends the cut of each plain port. -/
def execDigestCut (port : Nat) (s : State) : Host.Outcome State Fault Refusal :=
  meaning (.digestCut port) (digestCut port) s

/-- CUT_RX (R325): A cut message is received and the skew of the cut frame measured. -/
def execCutRx (bytes : Bytes) (s : State) : Host.Outcome State Fault Refusal :=
  meaning (.cutRx bytes) (cutRx bytes) s

/-- DIGEST_RX (R327): A partner digest is received and compared, declaring a disagreement if needed. -/
def execDigestRx (bytes : Bytes) (s : State) : Host.Outcome State Fault Refusal :=
  meaning (.digestRx bytes) (digestRx bytes) s

/-- TICK_LIST_RX (R313): A partner tick list or its acknowledgement is received. -/
def execTickListRx (bytes : Bytes) (s : State) : Host.Outcome State Fault Refusal :=
  meaning (.tickListRx bytes) (tickListRx bytes) s

/-- TICK_LIST_DEADLINE (R313): At clock 180,000 of t+1 an incomplete list is excluded. -/
def execTickListDeadline (s : State) : Host.Outcome State Fault Refusal :=
  meaning .tickListDeadline tickListDeadline s

/-- SA_ITEM_RX (R322): An SA-level mirrored item such as an Eclipse acknowledgement or relayed EAPOL is received. -/
def execSaItemRx (bytes : Bytes) (s : State) : Host.Outcome State Fault Refusal :=
  meaning (.saItemRx bytes) (saItemRx bytes) s

/-- RX_CHECKPOINT_SEND (R323): At most every 256 ticks a receive high-water checkpoint is sent. -/
def execRxCheckpointSend (sa : Nat) (s : State) : Host.Outcome State Fault Refusal :=
  meaning (.rxCheckpointSend sa) (checkpointSend sa) s

/-- BUNDLE_FORWARD_RX (R316): A forwarded bundle from the partner is checked and held. -/
def execBundleForwardRx (bytes : Bytes) (s : State) : Host.Outcome State Fault Refusal :=
  meaning (.bundleForwardRx bytes) (bunForwarded bytes) s

/-- CONTROL_RX (R57): A control message such as a retire notice or self-check result is received. -/
def execControlRx (bytes : Bytes) (s : State) : Host.Outcome State Fault Refusal :=
  meaning (.controlRx bytes) (controlRx bytes) s

/-- CROSS_CHECK_SEND (R331): Every 8 ticks a twin sends a cross-check to its partner. -/
def execCrossCheckSend (key : Nat) (s : State) : Host.Outcome State Fault Refusal :=
  meaning (.crossCheckSend key) (crossSend key) s

/-- CROSS_CHECK_RX (R331): A cross-check is answered, or an answer is compared with the local result. -/
def execCrossCheckRx (bytes : Bytes) (s : State) : Host.Outcome State Fault Refusal :=
  meaning (.crossCheckRx bytes) (crossRx bytes) s

/-- STATE_COPY_RX (R324): A whole copy of the partner's tick-level state or bulk copy is received and applied. -/
def execStateCopyRx (bytes : Bytes) (s : State) : Host.Outcome State Fault Refusal :=
  meaning (.stateCopyRx bytes) (stateCopyRx bytes) s

/-- SELF_CHECK_END (R329): After 16 ticks self-check results are exchanged and the outcome applied. -/
def execSelfCheckEnd (s : State) : Host.Outcome State Fault Refusal :=
  meaning .selfCheckEnd selfCheckEnd s

/-- ARB_TIMEOUT (R329): ARB_TIMEOUT ticks awaiting the arbiter send Twin B to DRAIN. -/
def execArbTimeout (s : State) : Host.Outcome State Fault Refusal :=
  meaning .arbTimeout arbTimeout s

/-- JOIN_TRUST (R436): Twins verify attestation and derive the pair key. -/
def execJoinTrust (verified : Bool) (qx : Nat) (qy : Nat) (peerId : Nat) (nonce : Bytes) (s : State) : Host.Outcome State Fault Refusal :=
  meaning (.joinTrust verified qx qy peerId nonce) (joinTrust verified qx qy peerId nonce) s

/-- JOIN_READY (R333): The joiner has applied the snapshot and items and its fingerprint matches. -/
def execJoinReady (s : State) : Host.Outcome State Fault Refusal :=
  meaning .joinReady joinReady s

/-- JOIN_ABANDON (R333): A partner not emitting for 3 ticks ends the join. -/
def execJoinAbandon (s : State) : Host.Outcome State Fault Refusal :=
  meaning .joinAbandon joinAbandon s

/-- PAIRED_ORDER_HOLD (R334): From T-130 no further paired order is taken until T. -/
def execPairedOrderHold (s : State) : Host.Outcome State Fault Refusal :=
  meaning .pairedOrderHold pairedHold s

/-- REALIGNMENT (R226): At tick T counters take the agreed epochs; at T+1 ledgers reset and TWIN_EMIT starts. -/
def execRealignment (s : State) : Host.Outcome State Fault Refusal :=
  meaning .realignment realignment s

/-- CONFIG_FINGERPRINT_MISMATCH (R314): Fingerprints differing for 8 ticks declare a CONFIG disagreement. -/
def execConfigFingerprintMismatch (s : State) : Host.Outcome State Fault Refusal :=
  meaning .configFingerprintMismatch configMismatch s

/-- MKA_NEW_SAK (R238): The MKA agent carries out the steps of a key change for a new SAK. -/
def execMkaNewSak (st : MkaStep) (s : State) : Host.Outcome State Fault Refusal :=
  meaning (.mkaNewSak st) (mkaStep st) s

end Sys2Proof.Machine
end

