-- ==== Sys2Proof/Machine/RegCommands.lean ====
section
/-! DEFINITION. The meanings of the register commands: a write of one register by a master, checked by its Boundary unit. -/

namespace Sys2Proof.Machine

/-- SNAP_GO (R78): Write that captures a page's counters into the writer's snapshot set. -/
def execSnapGo (m : Master) (page : Nat) (s : State) : Host.Outcome State Fault Refusal :=
  meaning (.snapGo m page) (headerCmd m page 0x040 (snapGo m page)) s

/-- SYS_GSNAP_GO (R80): Write that captures every page's snapshot set in one clock. -/
def execSysGsnapGo (m : Master) (s : State) : Host.Outcome State Fault Refusal :=
  meaning (.sysGsnapGo m) (regCmd m (ra (pg .sys) 0x114) (gsnapGo m)) s

/-- QREQ (R71): Write of LEGEND_CTRL.QREQ that starts or ends a quiesce. -/
def execQreq (m : Master) (page : Nat) (on : Bool) (s : State) : Host.Outcome State Fault Refusal :=
  meaning (.qreq m page on) (headerCmd m page 0x008 (qreqWrite page on)) s

/-- SRST (R71): Write of LEGEND_CTRL.SRST that soft-resets a quiesced block. -/
def execSrst (m : Master) (page : Nat) (s : State) : Host.Outcome State Fault Refusal :=
  meaning (.srst m page) (headerCmd m page 0x008 (srstWrite m page)) s

/-- BLOCK_EN (R71): Write of LEGEND_CTRL.EN that enables or stops a quiesced block. -/
def execBlockEn (m : Master) (page : Nat) (on : Bool) (s : State) : Host.Outcome State Fault Refusal :=
  meaning (.blockEn m page on) (headerCmd m page 0x008 (enWrite m page on)) s

/-- LOCK (R68): Write of LEGEND_CTRL.LOCK that locks a page's RWL fields. -/
def execLock (m : Master) (page : Nat) (s : State) : Host.Outcome State Fault Refusal :=
  meaning (.lock m page) (headerCmd m page 0x008 (lockPage page)) s

/-- INT_FORCE (R74): Write that sets INT_STAT bits as hardware would. -/
def execIntForce (m : Master) (page : Nat) (v : Word) (s : State) : Host.Outcome State Fault Refusal :=
  meaning (.intForce m page v) (headerCmd m page 0x018 (forceInt page v)) s

/-- INT_STAT_CLEAR (R73): W1C write to INT_STAT, set-priority against hardware. -/
def execIntStatClear (m : Master) (page : Nat) (v : Word) (s : State) : Host.Outcome State Fault Refusal :=
  meaning (.intStatClear m page v) (headerCmd m page 0x010 (clearInt page v)) s

/-- ERR_INFO_CLEAR (R75): Write of 1 to ERR_INFO.VALID that re-arms error capture. -/
def execErrInfoClear (m : Master) (page : Nat) (s : State) : Host.Outcome State Fault Refusal :=
  meaning (.errInfoClear m page) (headerCmd m page 0x020 (clearErr page (oneBit 31))) s

/-- ERR_COUNT_WRITE (R76): Write of ERR_COUNT, combined with a same-clock increment. -/
def execErrCountWrite (m : Master) (page : Nat) (v : Word) (s : State) : Host.Outcome State Fault Refusal :=
  meaning (.errCountWrite m page v) (headerCmd m page 0x02C (modLegend page (fun l => { l with errCount := v }))) s

/-- PMC_WRITE (R84): Write to PMCn, PMC_SELn or PMC_CTRL, applying pending carries first. -/
def execPmcWrite (m : Master) (page : Nat) (off : Nat) (v : Word) (s : State) : Host.Outcome State Fault Refusal :=
  meaning (.pmcWrite m page off v) (headerCmd m page off (pmcPut m page off v)) s

/-- INT_EOI (R85): Write of a vector number that resends its message if still asserted. -/
def execIntEoi (m : Master) (v : Word) (s : State) : Host.Outcome State Fault Refusal :=
  meaning (.intEoi m v) (regCmd m (ra (pg .int) 0x300) (eoiWrite v)) s

/-- MSIX_UNMASK (R86): Unmasking a vector with its PBA bit set sends one message. -/
def execMsixUnmask (m : Master) (vec : Nat) (s : State) : Host.Outcome State Fault Refusal :=
  meaning (.msixUnmask m vec) (regCmd m (ra (pg .int) (0x80C + 16 * vec)) (maskVec vec false)) s

/-- SYS_COMPAT_WRITE (R49): Write of SYS_COMPAT that changes DX08 behaviours, subject to mode and use. -/
def execSysCompatWrite (m : Master) (v : Word) (s : State) : Host.Outcome State Fault Refusal :=
  meaning (.sysCompatWrite m v) (regCmd m (ra (pg .sys) 0x104) (compatWrite m v)) s

/-- GRT_RESV_QUERY (R89): Write of GRT_RESV_TICK that loads the reservations of that tick. -/
def execGrtResvQuery (m : Master) (v : Word) (s : State) : Host.Outcome State Fault Refusal :=
  meaning (.grtResvQuery m v) (regCmd m (ra (pg .grt) 0x124) (fun s => setReg s (ra (pg .grt) 0x124) v)) s

/-- PORT_LOOP_WRITE (R114): Write of PORT_LOOP.MODE in DIAGNOSTIC that takes the port link-down. -/
def execPortLoopWrite (m : Master) (side : Side) (port : Nat) (v : Word) (s : State) : Host.Outcome State Fault Refusal :=
  meaning (.portLoopWrite m side port v) (regCmd m (ra (portPage side port) 0x120) (portLoopReg m side port v)) s

/-- PORT_PFC_THR_WRITE (R107): Write of PFC thresholds, refused when XON is not below XOFF. -/
def execPortPfcThrWrite (m : Master) (side : Side) (port : Nat) (v : Word) (s : State) : Host.Outcome State Fault Refusal :=
  meaning (.portPfcThrWrite m side port v) (regCmd m (ra (portPage side port) 0x114) (fun s => if side = .plain then pfcThr m port v s else s)) s

/-- GAZ_SEED_WRITE (R122): Write of a Gazetteer seed in CONFIGURE that empties the working image. -/
def execGazSeedWrite (m : Master) (k : Nat) (v : Word) (s : State) : Host.Outcome State Fault Refusal :=
  meaning (.gazSeedWrite m k v) (regCmd m (ra (pg .gaz) (0x100 + 4 * k)) (seedWrite m k v)) s

/-- GAZ_RD_GO (R121): Command that looks up a key in the working Gazetteer image. -/
def execGazRdGo (m : Master) (s : State) : Host.Outcome State Fault Refusal :=
  meaning (.gazRdGo m) (regCmd m (ra (pg .gaz) 0x114) gazRead) s

/-- CON_RD_GO (R121): Command that reads a Contour position from the working image. -/
def execConRdGo (m : Master) (s : State) : Host.Outcome State Fault Refusal :=
  meaning (.conRdGo m) (regCmd m (ra (pg .con) 0x108) conRead) s

/-- ORB_RD_GO (R168): Command that reads an SA directory entry and record. -/
def execOrbRdGo (m : Master) (s : State) : Host.Outcome State Fault Refusal :=
  meaning (.orbRdGo m) (regCmd m (ra (pg .orb) 0x124) orbRead) s

/-- SEQ_RD_GO (R148): Command that reads an SA's ledger entry. -/
def execSeqRdGo (m : Master) (s : State) : Host.Outcome State Fault Refusal :=
  meaning (.seqRdGo m) (regCmd m (ra (pg .seq) 0x104) seqRead) s

/-- ECL_RD_GO (R229): Command that reads the first Eclipse entry of a kind for an SA. -/
def execEclRdGo (m : Master) (v : Word) (s : State) : Host.Outcome State Fault Refusal :=
  meaning (.eclRdGo m v) (regCmd m (ra (pg .ecl) 0x124) (eclRdGo (setBit v 2 true))) s

/-- ECL_RD_NEXT (R229): Command that reads the next pending Eclipse entry. -/
def execEclRdNext (m : Master) (s : State) : Host.Outcome State Fault Refusal :=
  meaning (.eclRdNext m) (regCmd m (ra (pg .ecl) 0x124) eclNextRead) s

/-- SWP_SURVEY_STOP (R140): Command that stops a repeating compare at the end of the tick. -/
def execSwpSurveyStop (m : Master) (s : State) : Host.Outcome State Fault Refusal :=
  meaning (.swpSurveyStop m) (regCmd m (ra (pg .swp) 0x110) surveyStopReq) s

/-- SWP_MIS_POP (R141): Command that discards the head of the mismatch FIFO. -/
def execSwpMisPop (m : Master) (s : State) : Host.Outcome State Fault Refusal :=
  meaning (.swpMisPop m) (regCmd m (ra (pg .swp) 0x128) misPop) s

/-- ALM_NOTE_POP (R215): Command that discards the head Almanac notice. -/
def execAlmNotePop (m : Master) (s : State) : Host.Outcome State Fault Refusal :=
  meaning (.almNotePop m) (regCmd m (ra (pg .alm) 0x388) almPop) s

/-- ECL_NOTE_POP (R235): Command that discards the head Eclipse notice. -/
def execEclNotePop (m : Master) (s : State) : Host.Outcome State Fault Refusal :=
  meaning (.eclNotePop m) (regCmd m (ra (pg .ecl) 0x388) eclPop) s

/-- TSI_WDATA (R283): Write of a standby TSI entry, auto-incrementing the index. -/
def execTsiWdata (m : Master) (v : Word) (s : State) : Host.Outcome State Fault Refusal :=
  meaning (.tsiWdata m v) (regCmd m (ra (pg .tsi) 0x114) (tsiWrite m v)) s

/-- TSI_COPY (R283): Command that copies the active TSI page to standby. -/
def execTsiCopy (m : Master) (v : Word) (s : State) : Host.Outcome State Fault Refusal :=
  meaning (.tsiCopy m v) (regCmd m (ra (pg .tsi) 0x120) (tsiCopyGo m v)) s

/-- TSI_CANCEL (R285): Command that cancels a pending TSI swap of one direction. -/
def execTsiCancel (m : Master) (dir : Dir) (s : State) : Host.Outcome State Fault Refusal :=
  meaning (.tsiCancel m dir) (regCmd m (ra (pg .tsi) 0x124) (tsiCancel (oneBit (dirNum dir)))) s

/-- TSI_RIDX_WRITE (R283): Write of TSI_RIDX that loads the named entry into TSI_RDATA. -/
def execTsiRidxWrite (m : Master) (v : Word) (s : State) : Host.Outcome State Fault Refusal :=
  meaning (.tsiRidxWrite m v) (regCmd m (ra (pg .tsi) 0x118) (tsiRidx v)) s

/-- BUN_WRITE (R289): Command that commits BUN_CFG to a bundle entry after checks. -/
def execBunWrite (m : Master) (s : State) : Host.Outcome State Fault Refusal :=
  meaning (.bunWrite m) (regCmd m (ra (pg .bun) 0x124) (bunWriteCmd m)) s

/-- BUN_READ (R288): Command that loads a bundle entry's configuration and status. -/
def execBunRead (m : Master) (s : State) : Host.Outcome State Fault Refusal :=
  meaning (.bunRead m) (regCmd m (ra (pg .bun) 0x124) bunReadCmd) s

/-- TRB_HUNT (R272): Command that declares LOF and restarts the Compass hunt. -/
def execTrbHunt (m : Master) (t : Nat) (s : State) : Host.Outcome State Fault Refusal :=
  meaning (.trbHunt m t) (regCmd m (trbReg t 4) (tribHunt t)) s

/-- APS_CMD_WRITE (R279): Write of an APS group command such as LOCKOUT or MANUAL. -/
def execApsCmdWrite (m : Master) (g : Nat) (v : Word) (s : State) : Host.Outcome State Fault Refusal :=
  meaning (.apsCmdWrite m g v) (regCmd m (ra (pg .aps) (0x404 + 8 * g)) (apsCmd m g v)) s

/-- HWY_LOOP_WRITE (R267): Write of HWY_LOOP.MODE in DIAGNOSTIC that declares highway LOF for a tick. -/
def execHwyLoopWrite (m : Master) (h : Nat) (v : Word) (s : State) : Host.Outcome State Fault Refusal :=
  meaning (.hwyLoopWrite m h v) (regCmd m (ra (pg .hwy h) 0x108) (hwyLoopReg m h v)) s

/-- OLD_LOOP_WRITE (R321): Write of OLD_LOOP.MODE in DIAGNOSTIC that drops SYNC. -/
def execOldLoopWrite (m : Master) (v : Word) (s : State) : Host.Outcome State Fault Refusal :=
  meaning (.oldLoopWrite m v) (regCmd m (ra (pg .old) 0x108) (oldLoopReg m v)) s

/-- MER_RATE_WRITE (R339): Write of MER_RATE applied at the next boundary when SRC is HOST. -/
def execMerRateWrite (m : Master) (v : Word) (s : State) : Host.Outcome State Fault Refusal :=
  meaning (.merRateWrite m v) (regCmd m (ra (pg .mer) 0x108) (merRateCmd m v)) s

/-- TRG_ARM (R350): Write of TRG_CTRL.ARM that arms or stops an output, missing a late one-shot. -/
def execTrgArm (m : Master) (k : Nat) (v : Word) (s : State) : Host.Outcome State Fault Refusal :=
  meaning (.trgArm m k v) (regCmd m (trgReg k 0) (trgArmWrite k v)) s

/-- PMB_RD_GO (R304): Command that loads the current PM bin of an entity. -/
def execPmbRdGo (m : Master) (s : State) : Host.Outcome State Fault Refusal :=
  meaning (.pmbRdGo m) (regCmd m (ra (pg .pmb) 0x118) pmRead) s

/-- PMB_TCA_POP (R305): Command that discards the head TCA record. -/
def execPmbTcaPop (m : Master) (s : State) : Host.Outcome State Fault Refusal :=
  meaning (.pmbTcaPop m) (regCmd m (ra (pg .pmb) 0x168) tcaPop) s

/-- SCH_CLR_MAX (R258): Command that clears SCH_POLAR_MAX. -/
def execSchClrMax (m : Master) (s : State) : Host.Outcome State Fault Refusal :=
  meaning (.schClrMax m) (regCmd m (ra (pg .sch) 0x118) clrMax) s

/-- SEAL_B2MAP_WRITE (R380): Write of BAR2 segment identifiers in CONFIGURE, applied at the next boundary. -/
def execSealB2mapWrite (m : Master) (k : Nat) (v : Word) (s : State) : Host.Outcome State Fault Refusal :=
  meaning (.sealB2mapWrite m k v) (regCmd m (ra (pg .seal) (0x120 + 4 * k)) (b2mapWrite m k v)) s

/-- BDY_COMMIT (R392): Command that copies a Boundary unit's staged regions into the active set. -/
def execBdyCommit (m : Master) (u : Nat) (s : State) : Host.Outcome State Fault Refusal :=
  meaning (.bdyCommit m u) (regCmd m (ra (pg .bdy u) 0x104) (bdyCommit m u)) s

/-- BDY_NOTICE_POP (R387): Command that discards the head imprecise notice. -/
def execBdyNoticePop (m : Master) (u : Nat) (s : State) : Host.Outcome State Fault Refusal :=
  meaning (.bdyNoticePop m u) (regCmd m (ra (pg .bdy u) 0x120) (bdyPop u)) s

/-- ORD_CTRL_EN (R409): Write of ORD_CTRL.EN that enables or disables the order rings. -/
def execOrdCtrlEn (m : Master) (en : Bool) (s : State) : Host.Outcome State Fault Refusal :=
  meaning (.ordCtrlEn m en) (regCmd m (ra (pg .ord) 0x100) (ordEnWrite m en)) s

/-- ORD_SQ_TAIL (R410): Doorbell write that submits orders. -/
def execOrdSqTail (m : Master) (v : Word) (s : State) : Host.Outcome State Fault Refusal :=
  meaning (.ordSqTail m v) (regCmd m (ra (pg .ord) 0x10C) (sqTailWrite m v)) s

/-- ORD_CQ_HEAD (R410): Write that consumes completion records. -/
def execOrdCqHead (m : Master) (v : Word) (s : State) : Host.Outcome State Fault Refusal :=
  meaning (.ordCqHead m v) (regCmd m (ra (pg .ord) 0x11C) (cqHeadWrite m v)) s

/-- ERA_CTRL_EN (R420): Write of ERA_CTRL.EN that enables or disables the Errata ring. -/
def execEraCtrlEn (m : Master) (en : Bool) (s : State) : Host.Outcome State Fault Refusal :=
  meaning (.eraCtrlEn m en) (regCmd m (ra (pg .era) 0x100) (eraEnWrite m en)) s

/-- ERA_CONS (R420): Write that consumes Errata records. -/
def execEraCons (m : Master) (v : Word) (s : State) : Host.Outcome State Fault Refusal :=
  meaning (.eraCons m v) (regCmd m (ra (pg .era) 0x10C) (eraConsWrite m v)) s

/-- LRN_RING_CONS (R132): Write that consumes learning notices. -/
def execLrnRingCons (m : Master) (v : Word) (s : State) : Host.Outcome State Fault Refusal :=
  meaning (.lrnRingCons m v) (regCmd m (ra (pg .lrn) 0x10C) (lrnCons v)) s

/-- SMP_CTRL_EN (R466): Write of SMP_CTRL.EN that enables tagging and resets the sample ring. -/
def execSmpCtrlEn (m : Master) (en : Bool) (s : State) : Host.Outcome State Fault Refusal :=
  meaning (.smpCtrlEn m en) (regCmd m (ra (pg .smp) 0x100) (smpEn en)) s

/-- SMP_CONS (R466): Write that consumes sample records. -/
def execSmpCons (m : Master) (v : Word) (s : State) : Host.Outcome State Fault Refusal :=
  meaning (.smpCons m v) (regCmd m (ra (pg .smp) 0x10C) (smpConsWrite m v)) s

/-- UCU_ACQ (R441): Command that acquires the UCU lock if free; a rival's write of the same clock is judged with it. -/
def execUcuAcq (w : AcqWrite) (s : State) : Host.Outcome State Fault Refusal :=
  meaning (.ucuAcq w) (fun s => (ucuOrder w).foldl (fun s m => regCmd m (ra (pg .ucu) 0x100) (ucuAcquire m) s) s) s

/-- UCU_REL (R441): Command by the owner that zeroes UCU registers and frees the lock. -/
def execUcuRel (m : Master) (s : State) : Host.Outcome State Fault Refusal :=
  meaning (.ucuRel m) (regCmd m (ra (pg .ucu) 0x100) (ucuRelease m)) s

/-- UCU_FORCE (R442): Privileged Tircy command that forces release of the UCU lock. -/
def execUcuForce (m : Master) (s : State) : Host.Outcome State Fault Refusal :=
  meaning (.ucuForce m) (regCmd m (ra (pg .ucu) 0x100) (ucuForceCmd m)) s

/-- UCU_GO (R438): Command that starts a UCU job in the selected mode. -/
def execUcuGo (m : Master) (s : State) : Host.Outcome State Fault Refusal :=
  meaning (.ucuGo m) (regCmd m (ra (pg .ucu) 0x124) (ucuStart m)) s

/-- UCU_KEYSRC_WRITE (R440): Write selecting a transport slot key, allowed only to privileged Tircy. -/
def execUcuKeysrcWrite (m : Master) (v : Word) (s : State) : Host.Outcome State Fault Refusal :=
  meaning (.ucuKeysrcWrite m v) (regCmd m (ra (pg .ucu) 0x108) (ucuModeWrite m v)) s

/-- PKE_ABORT (R448): Command that aborts the running and queued jobs of an area. -/
def execPkeAbort (m : Master) (area : Nat) (s : State) : Host.Outcome State Fault Refusal :=
  meaning (.pkeAbort m area) (regCmd m (ra (pg .pke) 0x104) (pkeAbortCmd m area)) s

/-- RNG_REQ (R453): Command that fills the writer's RNG_OUT set with DRBG output. -/
def execRngReq (m : Master) (s : State) : Host.Outcome State Fault Refusal :=
  meaning (.rngReq m) (regCmd m (ra (pg .rng) 0x104) (rngFill m)) s

/-- RNG_RESEED (R451): Command that reseeds the DRBG at once. -/
def execRngReseed (m : Master) (s : State) : Host.Outcome State Fault Refusal :=
  meaning (.rngReseed m) (regCmd m (ra (pg .rng) 0x10C) rngReseedCmd) s

/-- REGISTER_WRITE (R67): Write to a register with no behaviour of its own, checked for access and range. -/
def execRegisterWrite (m : Master) (off : Nat) (be : Nat) (v : WordRun) (s : State) : Host.Outcome State Fault Refusal :=
  meaning (.registerWrite m off be v) (regWriteAll m off be v.first v.more) s

end Sys2Proof.Machine
end

