-- ==== Sys2Proof/Machine/Dispatch.lean ====
section
/-! DEFINITION. The dispatch of commands: one arm for each constructor, each a direct call of the command's meaning. -/

namespace Sys2Proof.Machine

def exec (i : Instr) (s : State) : Host.Outcome State Fault Refusal :=
  match i with
  | .nop h => Sys2Proof.Machine.execNop h s
  | .logRead h first count off => Sys2Proof.Machine.execLogRead h first count off s
  | .warmReset h => Sys2Proof.Machine.execWarmReset h s
  | .modeSet h mode => Sys2Proof.Machine.execModeSet h mode s
  | .attest h challenge report => Sys2Proof.Machine.execAttest h challenge report s
  | .fwStage h image len slot => Sys2Proof.Machine.execFwStage h image len slot s
  | .fwActivate h slot => Sys2Proof.Machine.execFwActivate h slot s
  | .fwAgentRestarted core answered => Sys2Proof.Machine.execFwAgentRestarted core answered s
  | .ownerEnrol h off => Sys2Proof.Machine.execOwnerEnrol h off s
  | .kekGenerate h => Sys2Proof.Machine.execKekGenerate h s
  | .provisionCommit h => Sys2Proof.Machine.execProvisionCommit h s
  | .provisionSweepDone failed => Sys2Proof.Machine.execProvisionSweepDone failed s
  | .zeroize h magic => Sys2Proof.Machine.execZeroize h magic s
  | .portMap h side group parts => Sys2Proof.Machine.execPortMap h side group parts s
  | .portEq h retrain side port => Sys2Proof.Machine.execPortEq h retrain side port s
  | .portEqTimeout side port => Sys2Proof.Machine.execPortEqTimeout side port s
  | .memRetrain h ch => Sys2Proof.Machine.execMemRetrain h ch s
  | .remapOutDone ch => Sys2Proof.Machine.execRemapOutDone ch s
  | .retrainingDone ch attempts failStep pass => Sys2Proof.Machine.execRetrainingDone ch attempts failStep pass s
  | .remapInDone ch => Sys2Proof.Machine.execRemapInDone ch s
  | .merStep h neg pps sec ns frac => Sys2Proof.Machine.execMerStep h neg pps sec ns frac s
  | .merStepPpsTimeout => Sys2Proof.Machine.execMerStepPpsTimeout s
  | .keyImport h slot off => Sys2Proof.Machine.execKeyImport h slot off s
  | .cakLoad h slot off => Sys2Proof.Machine.execCakLoad h slot off s
  | .saInstall h sa off slot => Sys2Proof.Machine.execSaInstall h sa off slot s
  | .saRewrite h sa off slot => Sys2Proof.Machine.execSaRewrite h sa off slot s
  | .saErase h sa => Sys2Proof.Machine.execSaErase h sa s
  | .saPin h sa => Sys2Proof.Machine.execSaPin h sa s
  | .saUnpin h sa => Sys2Proof.Machine.execSaUnpin h sa s
  | .saExport h sa off slot => Sys2Proof.Machine.execSaExport h sa off slot s
  | .saImport h sa off slot => Sys2Proof.Machine.execSaImport h sa off slot s
  | .gazEdit h a => Sys2Proof.Machine.execGazEdit h a s
  | .conEdit h a => Sys2Proof.Machine.execConEdit h a s
  | .surveyStart h base count rep => Sys2Proof.Machine.execSurveyStart h base count rep s
  | .eclSchedule h kind sa new target floor => Sys2Proof.Machine.execEclSchedule h kind sa new target floor s
  | .eclCancel h kind sa target => Sys2Proof.Machine.execEclCancel h kind sa target s
  | .tsiSwap h dir target => Sys2Proof.Machine.execTsiSwap h dir target s
  | .almAdvance h mask target => Sys2Proof.Machine.execAlmAdvance h mask target s
  | .almRenew h ctr => Sys2Proof.Machine.execAlmRenew h ctr s
  | .sealRekey h kid => Sys2Proof.Machine.execSealRekey h kid s
  | .rekeyDone kid failed => Sys2Proof.Machine.execRekeyDone kid failed s
  | .pkeJob h off => Sys2Proof.Machine.execPkeJob h off s
  | .pkeJobDone deviceFault => Sys2Proof.Machine.execPkeJobDone deviceFault s
  | .twinArbitrate h retire => Sys2Proof.Machine.execTwinArbitrate h retire s
  | .twinSwitchback h => Sys2Proof.Machine.execTwinSwitchback h s
  | .diagSaLoad h sa romKey off => Sys2Proof.Machine.execDiagSaLoad h sa romKey off s
  | .diagLoopback h mode inst block side => Sys2Proof.Machine.execDiagLoopback h mode inst block side s
  | .orderTake => Sys2Proof.Machine.execOrderTake s
  | .completionPost => Sys2Proof.Machine.execCompletionPost s
  | .choreItemCommit clk => Sys2Proof.Machine.execChoreItemCommit clk s
  | .tickBoundary => Sys2Proof.Machine.execTickBoundary s
  | .drainLimit => Sys2Proof.Machine.execDrainLimit s
  | .almanacWrite fails => Sys2Proof.Machine.execAlmanacWrite fails s
  | .sweeperVisit slot bad hit => Sys2Proof.Machine.execSweeperVisit slot bad hit s
  | .surveyCompareTick => Sys2Proof.Machine.execSurveyCompareTick s
  | .surveyRecheck rec => Sys2Proof.Machine.execSurveyRecheck rec s
  | .surveyPassEnd => Sys2Proof.Machine.execSurveyPassEnd s
  | .plainFrameRx port clk bytes e express => Sys2Proof.Machine.execPlainFrameRx port clk bytes e express s
  | .lineFrameRx port clk bytes e express => Sys2Proof.Machine.execLineFrameRx port clk bytes e express s
  | .frameAdmit dir => Sys2Proof.Machine.execFrameAdmit dir s
  | .orbitFillDone sa r => Sys2Proof.Machine.execOrbitFillDone sa r s
  | .dispatch dir => Sys2Proof.Machine.execDispatch dir s
  | .gangFinish frame clk icvFault => Sys2Proof.Machine.execGangFinish frame clk icvFault s
  | .egressBegin side port clk => Sys2Proof.Machine.execEgressBegin side port clk s
  | .frameStomp frame reason => Sys2Proof.Machine.execFrameStomp frame reason s
  | .transitLaunch frame clk => Sys2Proof.Machine.execTransitLaunch frame clk s
  | .bundleAssembly b => Sys2Proof.Machine.execBundleAssembly b s
  | .bundleDeadline b => Sys2Proof.Machine.execBundleDeadline b s
  | .linkUp side port => Sys2Proof.Machine.execLinkUp side port s
  | .linkDown side port cond => Sys2Proof.Machine.execLinkDown side port cond s
  | .pfcRefresh side port => Sys2Proof.Machine.execPfcRefresh side port s
  | .preemptVerify side port v => Sys2Proof.Machine.execPreemptVerify side port v s
  | .pipeFault p unit stage => Sys2Proof.Machine.execPipeFault p unit stage s
  | .occultationRotaStep dir => Sys2Proof.Machine.execOccultationRotaStep dir s
  | .testCycleEnd p fail => Sys2Proof.Machine.execTestCycleEnd p fail s
  | .shortKatEnd p fail => Sys2Proof.Machine.execShortKatEnd p fail s
  | .returnCycleEnd p fail => Sys2Proof.Machine.execReturnCycleEnd p fail s
  | .quiesceDone page => Sys2Proof.Machine.execQuiesceDone page s
  | .highwayFrameRx h pos syms => Sys2Proof.Machine.execHighwayFrameRx h pos syms s
  | .highwayLos h => Sys2Proof.Machine.execHighwayLos h s
  | .tribFrameComplete t => Sys2Proof.Machine.execTribFrameComplete t s
  | .compassHunt t => Sys2Proof.Machine.execCompassHunt t s
  | .tribDefectChange t defect declared => Sys2Proof.Machine.execTribDefectChange t defect declared s
  | .pmSecondClassify entity => Sys2Proof.Machine.execPmSecondClassify entity s
  | .pmBinClose => Sys2Proof.Machine.execPmBinClose s
  | .heartbeatRx bytes clk => Sys2Proof.Machine.execHeartbeatRx bytes clk s
  | .digestCut port => Sys2Proof.Machine.execDigestCut port s
  | .cutRx bytes => Sys2Proof.Machine.execCutRx bytes s
  | .digestRx bytes => Sys2Proof.Machine.execDigestRx bytes s
  | .tickListRx bytes => Sys2Proof.Machine.execTickListRx bytes s
  | .tickListDeadline => Sys2Proof.Machine.execTickListDeadline s
  | .saItemRx bytes => Sys2Proof.Machine.execSaItemRx bytes s
  | .rxCheckpointSend sa => Sys2Proof.Machine.execRxCheckpointSend sa s
  | .bundleForwardRx bytes => Sys2Proof.Machine.execBundleForwardRx bytes s
  | .controlRx bytes => Sys2Proof.Machine.execControlRx bytes s
  | .crossCheckSend key => Sys2Proof.Machine.execCrossCheckSend key s
  | .crossCheckRx bytes => Sys2Proof.Machine.execCrossCheckRx bytes s
  | .stateCopyRx bytes => Sys2Proof.Machine.execStateCopyRx bytes s
  | .selfCheckEnd => Sys2Proof.Machine.execSelfCheckEnd s
  | .arbTimeout => Sys2Proof.Machine.execArbTimeout s
  | .joinTrust verified qx qy peerId nonce => Sys2Proof.Machine.execJoinTrust verified qx qy peerId nonce s
  | .joinReady => Sys2Proof.Machine.execJoinReady s
  | .joinAbandon => Sys2Proof.Machine.execJoinAbandon s
  | .pairedOrderHold => Sys2Proof.Machine.execPairedOrderHold s
  | .realignment => Sys2Proof.Machine.execRealignment s
  | .configFingerprintMismatch => Sys2Proof.Machine.execConfigFingerprintMismatch s
  | .mkaNewSak st => Sys2Proof.Machine.execMkaNewSak st s
  | .ppsCapture => Sys2Proof.Machine.execPpsCapture s
  | .trigPulse k => Sys2Proof.Machine.execTrigPulse k s
  | .servoChange port off => Sys2Proof.Machine.execServoChange port off s
  | .rtcLoad => Sys2Proof.Machine.execRtcLoad s
  | .porstN level straps => Sys2Proof.Machine.execPorstN level straps s
  | .sysrstN level => Sys2Proof.Machine.execSysrstN level s
  | .supplyLoss => Sys2Proof.Machine.execSupplyLoss s
  | .supplyValid => Sys2Proof.Machine.execSupplyValid s
  | .pciePerstN level => Sys2Proof.Machine.execPciePerstN level s
  | .thermalTrip sensor => Sys2Proof.Machine.execThermalTrip sensor s
  | .watchdog => Sys2Proof.Machine.execWatchdog s
  | .agentRestart core => Sys2Proof.Machine.execAgentRestart core s
  | .bootSequence inp => Sys2Proof.Machine.execBootSequence inp s
  | .lunarSample sensor value => Sys2Proof.Machine.execLunarSample sensor value s
  | .alarm => Sys2Proof.Machine.execAlarm s
  | .boundaryCheck m k addr x => Sys2Proof.Machine.execBoundaryCheck m k addr x s
  | .sealedRead m addr fails integ => Sys2Proof.Machine.execSealedRead m addr fails integ s
  | .sealedWrite m addr fails bytes integ => Sys2Proof.Machine.execSealedWrite m addr fails bytes integ s
  | .scrub place idx correctable => Sys2Proof.Machine.execScrub place idx correctable s
  | .healthSample sensor value => Sys2Proof.Machine.execHealthSample sensor value s
  | .drbgReseed => Sys2Proof.Machine.execDrbgReseed s
  | .rngHealthWindow rctFail aptFail => Sys2Proof.Machine.execRngHealthWindow rctFail aptFail s
  | .ucuJobDone => Sys2Proof.Machine.execUcuJobDone s
  | .ucuLeaseExpiry => Sys2Proof.Machine.execUcuLeaseExpiry s
  | .errataRecord => Sys2Proof.Machine.execErrataRecord s
  | .summaryFlush => Sys2Proof.Machine.execSummaryFlush s
  | .sampleRecord => Sys2Proof.Machine.execSampleRecord s
  | .smbusRead cmd => Sys2Proof.Machine.execSmbusRead cmd s
  | .smbusWrite cmd => Sys2Proof.Machine.execSmbusWrite cmd s
  | .debugToken valid regions => Sys2Proof.Machine.execDebugToken valid regions s
  | .extest => Sys2Proof.Machine.execExtest s
  | .idcode => Sys2Proof.Machine.execIdcode s
  | .samplePreload => Sys2Proof.Machine.execSamplePreload s
  | .extestPulse => Sys2Proof.Machine.execExtestPulse s
  | .extestTrain => Sys2Proof.Machine.execExtestTrain s
  | .clamp => Sys2Proof.Machine.execClamp s
  | .highz => Sys2Proof.Machine.execHighz s
  | .dap => Sys2Proof.Machine.execDap s
  | .bypass => Sys2Proof.Machine.execBypass s
  | .snapGo m page => Sys2Proof.Machine.execSnapGo m page s
  | .sysGsnapGo m => Sys2Proof.Machine.execSysGsnapGo m s
  | .qreq m page on => Sys2Proof.Machine.execQreq m page on s
  | .srst m page => Sys2Proof.Machine.execSrst m page s
  | .blockEn m page on => Sys2Proof.Machine.execBlockEn m page on s
  | .lock m page => Sys2Proof.Machine.execLock m page s
  | .intForce m page v => Sys2Proof.Machine.execIntForce m page v s
  | .intStatClear m page v => Sys2Proof.Machine.execIntStatClear m page v s
  | .errInfoClear m page => Sys2Proof.Machine.execErrInfoClear m page s
  | .errCountWrite m page v => Sys2Proof.Machine.execErrCountWrite m page v s
  | .pmcWrite m page off v => Sys2Proof.Machine.execPmcWrite m page off v s
  | .intEoi m v => Sys2Proof.Machine.execIntEoi m v s
  | .msixUnmask m vec => Sys2Proof.Machine.execMsixUnmask m vec s
  | .sysCompatWrite m v => Sys2Proof.Machine.execSysCompatWrite m v s
  | .grtResvQuery m v => Sys2Proof.Machine.execGrtResvQuery m v s
  | .portLoopWrite m side port v => Sys2Proof.Machine.execPortLoopWrite m side port v s
  | .portPfcThrWrite m side port v => Sys2Proof.Machine.execPortPfcThrWrite m side port v s
  | .gazSeedWrite m k v => Sys2Proof.Machine.execGazSeedWrite m k v s
  | .gazRdGo m => Sys2Proof.Machine.execGazRdGo m s
  | .conRdGo m => Sys2Proof.Machine.execConRdGo m s
  | .orbRdGo m => Sys2Proof.Machine.execOrbRdGo m s
  | .seqRdGo m => Sys2Proof.Machine.execSeqRdGo m s
  | .eclRdGo m v => Sys2Proof.Machine.execEclRdGo m v s
  | .eclRdNext m => Sys2Proof.Machine.execEclRdNext m s
  | .swpSurveyStop m => Sys2Proof.Machine.execSwpSurveyStop m s
  | .swpMisPop m => Sys2Proof.Machine.execSwpMisPop m s
  | .almNotePop m => Sys2Proof.Machine.execAlmNotePop m s
  | .eclNotePop m => Sys2Proof.Machine.execEclNotePop m s
  | .tsiWdata m v => Sys2Proof.Machine.execTsiWdata m v s
  | .tsiCopy m v => Sys2Proof.Machine.execTsiCopy m v s
  | .tsiCancel m dir => Sys2Proof.Machine.execTsiCancel m dir s
  | .tsiRidxWrite m v => Sys2Proof.Machine.execTsiRidxWrite m v s
  | .bunWrite m => Sys2Proof.Machine.execBunWrite m s
  | .bunRead m => Sys2Proof.Machine.execBunRead m s
  | .trbHunt m t => Sys2Proof.Machine.execTrbHunt m t s
  | .apsCmdWrite m g v => Sys2Proof.Machine.execApsCmdWrite m g v s
  | .hwyLoopWrite m h v => Sys2Proof.Machine.execHwyLoopWrite m h v s
  | .oldLoopWrite m v => Sys2Proof.Machine.execOldLoopWrite m v s
  | .merRateWrite m v => Sys2Proof.Machine.execMerRateWrite m v s
  | .trgArm m k v => Sys2Proof.Machine.execTrgArm m k v s
  | .pmbRdGo m => Sys2Proof.Machine.execPmbRdGo m s
  | .pmbTcaPop m => Sys2Proof.Machine.execPmbTcaPop m s
  | .schClrMax m => Sys2Proof.Machine.execSchClrMax m s
  | .sealB2mapWrite m k v => Sys2Proof.Machine.execSealB2mapWrite m k v s
  | .bdyCommit m u => Sys2Proof.Machine.execBdyCommit m u s
  | .bdyCommitDrained u => Sys2Proof.Machine.execBdyCommitDrained u s
  | .bdyNoticePop m u => Sys2Proof.Machine.execBdyNoticePop m u s
  | .ordCtrlEn m en => Sys2Proof.Machine.execOrdCtrlEn m en s
  | .ordSqTail m v => Sys2Proof.Machine.execOrdSqTail m v s
  | .ordCqHead m v => Sys2Proof.Machine.execOrdCqHead m v s
  | .eraCtrlEn m en => Sys2Proof.Machine.execEraCtrlEn m en s
  | .eraCons m v => Sys2Proof.Machine.execEraCons m v s
  | .lrnRingCons m v => Sys2Proof.Machine.execLrnRingCons m v s
  | .smpCtrlEn m en => Sys2Proof.Machine.execSmpCtrlEn m en s
  | .smpCons m v => Sys2Proof.Machine.execSmpCons m v s
  | .ucuAcq w => Sys2Proof.Machine.execUcuAcq w s
  | .ucuRel m => Sys2Proof.Machine.execUcuRel m s
  | .ucuForce m => Sys2Proof.Machine.execUcuForce m s
  | .ucuGo m => Sys2Proof.Machine.execUcuGo m s
  | .ucuKeysrcWrite m v => Sys2Proof.Machine.execUcuKeysrcWrite m v s
  | .pkeAbort m area => Sys2Proof.Machine.execPkeAbort m area s
  | .rngReq m => Sys2Proof.Machine.execRngReq m s
  | .rngReseed m => Sys2Proof.Machine.execRngReseed m s
  | .registerWrite m off be v => Sys2Proof.Machine.execRegisterWrite m off be v s
  | .highwayLosync h lost => Sys2Proof.Machine.execHighwayLosync h lost s
  | .oldunSyncChange clk lanes desk skew errs => Sys2Proof.Machine.execOldunSyncChange clk lanes desk skew errs s
  | .vbatLoss => Sys2Proof.Machine.execVbatLoss s
  | .pcieLinkDown up => Sys2Proof.Machine.execPcieLinkDown up s
  | .thermalRelease => Sys2Proof.Machine.execThermalRelease s
  | .supplyRelease straps => Sys2Proof.Machine.execSupplyRelease straps s
  | .fwStageDone readBackOk => Sys2Proof.Machine.execFwStageDone readBackOk s
  | .tsiCopyDone dir => Sys2Proof.Machine.execTsiCopyDone dir s
  | .segmentRewriteDone seg => Sys2Proof.Machine.execSegmentRewriteDone seg s
  | .zeroizeSweepDone failed => Sys2Proof.Machine.execZeroizeSweepDone failed s
  | .controlFrameTx side port bytes => Sys2Proof.Machine.execControlFrameTx side port bytes s
  | .agentChoreItem core a => Sys2Proof.Machine.execAgentChoreItem core a s

end Sys2Proof.Machine
end

