-- ==== Sys2Proof/Safety.lean ====
section
/-! DEFINITION. What counts as a safe outcome, and the words the claims are stated in: a register command that its master's
Boundary unit lets through, and an order that Tircy takes. -/

namespace Sys2Proof

open Sys2Proof.Machine

/-- A step is safe when it answers a next state: no fault and no refusal. -/
def Safe (o : Host.Outcome State Fault Refusal) : Prop := ∃ t, o = .next t

/-- The state with one access of a master counted in CHECKED of its unit (R383, R386). -/
def checkedBy (m : Master) (s : State) : State := bump (pg .bdy (unitOf m).1) 0x200 1 s

/-- A register command `i` of master `m` reaches the register at BAR0 offset `a`: its operands stand in their ranges, registers can
be reached (R42, R408) and the master's Boundary unit permits the write (R383, R384). -/
abbrev Granted (i : Instr) (m : Master) (a : Nat) (s : State) : Prop :=
  i.wf = true ∧ reachable m s = true ∧ permitted s m .write (regAddr a) = true

/-- Tircy takes an order that the host submits: the host can reach the device, the ring is empty and enabled with room for it
(R411), and descriptors have 64 bytes (DX08 behaviour 3 off). -/
abbrev Takes (h : OrdHdr) (o : Order) (s : State) : Prop :=
  reachable .host s = true ∧ s.ords.sqHead = s.ords.sqTail ∧ mayTake s h.fence o = true ∧ behaviour s 3 = false

/-- An order is well-formed (R40, R490) and the present mode allows it (R42, R43). -/
abbrev Legal (o : Order) (s : State) : Prop := orderFormed s o = true ∧ orderLegal s o = true

/-- The identity an order taken in `s` receives. -/
def takenId (s : State) : Nat := s.ords.nextId

/-- The state in which an order has just been taken: it is outstanding, the ring's indices have passed its slot, LAST_TAG shows
its TAG and ORD_TAKEN counts it (R410, R411). -/
def taken (h : OrdHdr) (o : Order) (s : State) : State :=
  { s with
    ctrs := spSet 0 s.ctrs (ra (pg .ord) 0x200) (add64 (getCtr s (ra (pg .ord) 0x200)) 1)
    ords := { s.ords with
      sqHead := s.ords.sqHead + 1, sqTail := s.ords.sqTail + 1, lastTag := h.tag, nextId := s.ords.nextId + 1
      outs := s.ords.outs ++ [{ id := takenId s, tag := h.tag, op := orderCode o, int := h.int }] } }

/-- An order `o` of command `i` is taken and judged legal: what an order row's effect rests on. -/
abbrev Accepted (i : Instr) (h : OrdHdr) (o : Order) (s : State) : Prop := i.wf = true ∧ Takes h o s ∧ Legal o s

/-- The signed distance in nanoseconds of Meridian from the nearest second (R350). -/
def ppsError (s : State) : Int :=
  let r := merNs s % 1000000000
  if r < 500000000 then r else (r : Int) - 1000000000

/-- The order a command submits, for the rows of the table that are host orders (R413). -/
def orderOfCmd : Instr → Option (OrdHdr × Order)
  | .nop h => some (h, .nop)
  | .logRead h first count off => some (h, .logRead first count off)
  | .warmReset h => some (h, .warmReset)
  | .modeSet h mode => some (h, .modeSet mode)
  | .attest h challenge report => some (h, .attest challenge report)
  | .fwStage h image len slot => some (h, .fwStage image len slot)
  | .fwActivate h slot => some (h, .fwActivate slot)
  | .ownerEnrol h off => some (h, .ownerEnrol off)
  | .kekGenerate h => some (h, .kekGenerate)
  | .provisionCommit h => some (h, .provisionCommit)
  | .zeroize h magic => some (h, .zeroize magic)
  | .portMap h side group parts => some (h, .portMap side group parts)
  | .portEq h retrain side port => some (h, .portEq retrain side port)
  | .memRetrain h ch => some (h, .memRetrain ch)
  | .merStep h neg pps sec ns frac => some (h, .merStep neg pps sec ns frac)
  | .keyImport h slot off => some (h, .keyImport slot off)
  | .cakLoad h slot off => some (h, .cakLoad slot off)
  | .saInstall h sa off slot => some (h, .saInstall sa off slot)
  | .saRewrite h sa off slot => some (h, .saRewrite sa off slot)
  | .saErase h sa => some (h, .saErase sa)
  | .saPin h sa => some (h, .saPin sa)
  | .saUnpin h sa => some (h, .saUnpin sa)
  | .saExport h sa off slot => some (h, .saExport sa off slot)
  | .saImport h sa off slot => some (h, .saImport sa off slot)
  | .gazEdit h a => some (h, .gazEdit a)
  | .conEdit h a => some (h, .conEdit a)
  | .surveyStart h base count rep => some (h, .surveyStart base count rep)
  | .eclSchedule h kind sa new target floor => some (h, .eclSchedule kind sa new target floor)
  | .eclCancel h kind sa target => some (h, .eclCancel kind sa target)
  | .tsiSwap h dir target => some (h, .tsiSwap dir target)
  | .almAdvance h mask target => some (h, .almAdvance mask target)
  | .almRenew h ctr => some (h, .almRenew ctr)
  | .sealRekey h kid => some (h, .sealRekey kid)
  | .pkeJob h off => some (h, .pkeJob off)
  | .twinArbitrate h retire => some (h, .twinArbitrate retire)
  | .twinSwitchback h => some (h, .twinSwitchback)
  | .diagSaLoad h sa romKey off => some (h, .diagSaLoad sa romKey off)
  | .diagLoopback h mode inst block side => some (h, .diagLoopback mode inst block side)
  | _ => none

/-- The master and the BAR0 offset of a register command, for the rows of the table that are register commands; a write of several
words makes an access for each (R65) and has no one target. -/
def regTarget : Instr → Option (Master × Nat)
  | .snapGo m page => some (m, ra page 0x040)
  | .sysGsnapGo m => some (m, ra (pg .sys) 0x114)
  | .qreq m page _ => some (m, ra page 0x008)
  | .srst m page => some (m, ra page 0x008)
  | .blockEn m page _ => some (m, ra page 0x008)
  | .lock m page => some (m, ra page 0x008)
  | .intForce m page _ => some (m, ra page 0x018)
  | .intStatClear m page _ => some (m, ra page 0x010)
  | .errInfoClear m page => some (m, ra page 0x020)
  | .errCountWrite m page _ => some (m, ra page 0x02C)
  | .pmcWrite m page off _ => some (m, ra page off)
  | .intEoi m _ => some (m, ra (pg .int) 0x300)
  | .msixUnmask m vec => some (m, ra (pg .int) (0x80C + 16 * vec))
  | .sysCompatWrite m _ => some (m, ra (pg .sys) 0x104)
  | .grtResvQuery m _ => some (m, ra (pg .grt) 0x124)
  | .portLoopWrite m side port _ => some (m, ra (portPage side port) 0x120)
  | .portPfcThrWrite m side port _ => some (m, ra (portPage side port) 0x114)
  | .gazSeedWrite m k _ => some (m, ra (pg .gaz) (0x100 + 4 * k))
  | .gazRdGo m => some (m, ra (pg .gaz) 0x114)
  | .conRdGo m => some (m, ra (pg .con) 0x108)
  | .orbRdGo m => some (m, ra (pg .orb) 0x124)
  | .seqRdGo m => some (m, ra (pg .seq) 0x104)
  | .eclRdGo m _ => some (m, ra (pg .ecl) 0x124)
  | .eclRdNext m => some (m, ra (pg .ecl) 0x124)
  | .swpSurveyStop m => some (m, ra (pg .swp) 0x110)
  | .swpMisPop m => some (m, ra (pg .swp) 0x128)
  | .almNotePop m => some (m, ra (pg .alm) 0x388)
  | .eclNotePop m => some (m, ra (pg .ecl) 0x388)
  | .tsiWdata m _ => some (m, ra (pg .tsi) 0x114)
  | .tsiCopy m _ => some (m, ra (pg .tsi) 0x120)
  | .tsiCancel m _ => some (m, ra (pg .tsi) 0x124)
  | .tsiRidxWrite m _ => some (m, ra (pg .tsi) 0x118)
  | .bunWrite m => some (m, ra (pg .bun) 0x124)
  | .bunRead m => some (m, ra (pg .bun) 0x124)
  | .trbHunt m t => some (m, trbReg t 4)
  | .apsCmdWrite m g _ => some (m, ra (pg .aps) (0x404 + 8 * g))
  | .hwyLoopWrite m h _ => some (m, ra (pg .hwy h) 0x108)
  | .oldLoopWrite m _ => some (m, ra (pg .old) 0x108)
  | .merRateWrite m _ => some (m, ra (pg .mer) 0x108)
  | .trgArm m k _ => some (m, trgReg k 0)
  | .pmbRdGo m => some (m, ra (pg .pmb) 0x118)
  | .pmbTcaPop m => some (m, ra (pg .pmb) 0x168)
  | .schClrMax m => some (m, ra (pg .sch) 0x118)
  | .sealB2mapWrite m k _ => some (m, ra (pg .seal) (0x120 + 4 * k))
  | .bdyCommit m u => some (m, ra (pg .bdy u) 0x104)
  | .bdyNoticePop m u => some (m, ra (pg .bdy u) 0x120)
  | .ordCtrlEn m _ => some (m, ra (pg .ord) 0x100)
  | .ordSqTail m _ => some (m, ra (pg .ord) 0x10C)
  | .ordCqHead m _ => some (m, ra (pg .ord) 0x11C)
  | .eraCtrlEn m _ => some (m, ra (pg .era) 0x100)
  | .eraCons m _ => some (m, ra (pg .era) 0x10C)
  | .lrnRingCons m _ => some (m, ra (pg .lrn) 0x10C)
  | .smpCtrlEn m _ => some (m, ra (pg .smp) 0x100)
  | .smpCons m _ => some (m, ra (pg .smp) 0x10C)
  | .ucuAcq w => some (w.writer, ra (pg .ucu) 0x100)
  | .ucuRel m => some (m, ra (pg .ucu) 0x100)
  | .ucuForce m => some (m, ra (pg .ucu) 0x100)
  | .ucuGo m => some (m, ra (pg .ucu) 0x124)
  | .ucuKeysrcWrite m _ => some (m, ra (pg .ucu) 0x108)
  | .pkeAbort m _ => some (m, ra (pg .pke) 0x104)
  | .rngReq m => some (m, ra (pg .rng) 0x104)
  | .rngReseed m => some (m, ra (pg .rng) 0x10C)
  | .registerWrite m off _ ⟨_, []⟩ => some (m, off / 4 * 4)
  | .registerWrite _ _ _ ⟨_, _ :: _⟩ => none
  | _ => none

/-- The device is powered and out of reset: in neither LUNAR nor RESET. -/
abbrev Awake (s : State) : Prop := s.dev.mode ≠ .lunar ∧ s.dev.mode ≠ .reset

end Sys2Proof
end

