-- ==== Sys2Proof/Certificates/Slice0/Obligations.lean ====
section
/-! DEFINITION. The statements for the provers: what each command of the DX32 does to the state, what it leaves unchanged (each
gives the whole next state, up to what `settle` may change, which SettleChangesOnlyTheLegendHeadersTheDeliveryAndTheOutput bounds),
and the invariants every step keeps. -/

open Sys2Proof Sys2Proof.Machine

/-! ### The block as a whole -/

/-- A step takes the command at the front of the queue and runs it with the queue's rest. -/
def Obligations.StepRunsTheFrontCommand : Prop :=
  ∀ c rest s, s.pending = c :: rest → step s = exec c { s with pending := rest }

/-- Every step answers a next state: no command of the table faults or is refused. On an empty queue the block idles: the step answers
the same state (the model's choice, log entry 4). -/
def Obligations.EveryStepAnswersANextState : Prop :=
  (∀ s, Safe (step s)) ∧
  (∀ s, s.pending = [] → step s = .next s)

/-- What follows every command changes only the Legend headers, the interrupt state and what has left the device, and it only appends to
the last: everything else a command leaves unchanged stays unchanged (R73, R85, R86, R88). -/
def Obligations.SettleChangesOnlyTheLegendHeadersTheDeliveryAndTheOutput : Prop :=
  ∀ s, ∃ l i o, settle s = { s with legends := l, intr := i, out := s.out ++ o }

/-- FAULT_N is high exactly when no fault stands and the device is in neither LUNAR nor RESET: every step that runs a command makes it
so, and an idle one keeps it so (R88). -/
def Obligations.FaultNInvariantIsKept : Prop :=
  ∀ s t, s.pending ≠ [] ∨ s.intr.faultN = (sysFault s == 0 && !modeIn [.lunar, .reset] s) → step s = .next t →
    t.intr.faultN = (sysFault t == 0 && !modeIn [.lunar, .reset] t)

/-- The vectors the device holds asserted are those whose sources are pending: an invariant of every step out of LUNAR and RESET (R85). -/
def Obligations.AssertedVectorsInvariantIsKept : Prop :=
  ∀ s t, (Awake s → s.intr.asserted = assertedVecs s) → step s = .next t → Awake t → t.intr.asserted = assertedVecs t

/-- A captured error always shows as INT_STAT.ERR on its page: an invariant of every step out of LUNAR and RESET (R73, R75). -/
def Obligations.CapturedErrorsStayPending : Prop :=
  ∀ s t, (Awake s → ∀ e ∈ s.legends, bit e.2.errInfo 31 = true → bit e.2.intStat 31 = true) → step s = .next t → Awake t →
    ∀ e ∈ t.legends, bit e.2.errInfo 31 = true → bit e.2.intStat 31 = true

/-- The invariants hold right after reset, and nothing is pending, held or listed there (R51, R73, R85, R88). -/
def Obligations.ResetStateMeetsTheInvariants : Prop :=
  State.reset.intr.faultN = (sysFault State.reset == 0 && !modeIn [.lunar, .reset] State.reset) ∧
  ¬ Awake State.reset ∧ State.reset.pending = [] ∧ State.reset.mem = [] ∧ State.reset.legends = [] ∧ State.reset.dev.mode = .reset

/-- When several mode triggers fall due together, the one taken stands in the list and no other has a lower rank (R38's order, as ranks
1 to 6) (R38). -/
def Obligations.TheModeTriggerOfLowestRankWins : Prop :=
  ∀ l w, winner l = some w → w ∈ l ∧ ∀ x ∈ l, w.rank ≤ x.rank

/-- A masked vector's message sets its PBA bit and is not sent; a vector open again with its bit set sends one message and clears the
bit, and one with its bit clear sends none (R86). -/
def Obligations.MaskedVectorsWaitInThePendingBits : Prop :=
  (∀ s v, behaviour s 4 = false → (bit (getReg s (ra (pg .int) (0x80C + 16 * v))) 0 = true ∨ s.intr.fmask = true) →
    sendVec s v = { s with intr := { s.intr with pba := s.intr.pba ||| 2 ^ v } }) ∧
  (∀ s v, behaviour s 4 = false → s.dev.pcieUp = true → s.intr.fmask = false →
    bit (getReg s (ra (pg .int) (0x80C + 16 * v))) 0 = false → s.intr.pba.testBit v = true →
    releaseVec s v = { s with intr := { s.intr with pba := s.intr.pba ^^^ 2 ^ v }, out := s.out ++ [.msix v] }) ∧
  (∀ s v, s.intr.pba.testBit v = false → releaseVec s v = s)

/-- Among the enabled regions that take the access's class, hold its address and its space, the one with the highest number decides, by
its permission bit for the access, and the debug class is further refused what a locked region holds; an access that matches none is
denied (R384). -/
def Obligations.TheHighestMatchingRegionDecides : Prop :=
  (∀ s m k a n, n < 64 → bit (regionWord s (unitOf m).1 n 2) 31 = true →
    bit (regionWord s (unitOf m).1 n 2) (if (unitOf m).2 then 29 else 28) = true → inRegion s (unitOf m).1 n a = true →
    (∀ q, n < q → q < 64 → ¬ (bit (regionWord s (unitOf m).1 q 2) 31 = true ∧
      bit (regionWord s (unitOf m).1 q 2) (if (unitOf m).2 then 29 else 28) = true ∧ inRegion s (unitOf m).1 q a = true)) →
    permitted s m k a = (bit (regionWord s (unitOf m).1 n 2) (permBit m k) && !(m == .debug && lockedAnywhere s a))) ∧
  (∀ s m k a, (∀ q, q < 64 → ¬ (bit (regionWord s (unitOf m).1 q 2) 31 = true ∧
      bit (regionWord s (unitOf m).1 q 2) (if (unitOf m).2 then 29 else 28) = true ∧ inRegion s (unitOf m).1 q a = true)) →
    permitted s m k a = false)

/-! ### The register gate, and orders as they are judged -/

/-- Every register command whose master cannot reach the device (LUNAR, RESET, or the host without its PCIe link) changes nothing, and
one that the master's Boundary unit denies is counted in CHECKED and recorded by that unit, and touches no register; a write of
several words is the accesses of its words in rising order, each of which is denied by itself (R42, R67, R383, R384, R386, R408). -/
def Obligations.RegisterCommandsTouchNothingWhenDenied : Prop :=
  (∀ i m a s, i.wf = true → regTarget i = some (m, a) →
    (reachable m s = false → exec i s = .next (settle s)) ∧
    (reachable m s = true → permitted s m .write (regAddr a) = false →
      exec i s = .next (settle (denied m .write (regAddr a) (checkedBy m s))))) ∧
  (∀ m off be v ws s, (Instr.registerWrite m off be ⟨v, ws⟩).wf = true → reachable m s = false →
    exec (.registerWrite m off be ⟨v, ws⟩) s = .next (settle s)) ∧
  (∀ m off be v ws s, (Instr.registerWrite m off be ⟨v, ws⟩).wf = true →
    exec (.registerWrite m off be ⟨v, ws⟩) s = .next (settle (regWriteOn m (off + 4) ws (regWrite m off be v s)))) ∧
  (∀ m off w ws s, regWriteOn m off (w :: ws) s = regWriteOn m (off + 4) ws (regWrite m off 15 w s)) ∧
  (∀ m off be v s, off < 2 ^ 24 → reachable m s = true → permitted s m .write (regAddr (off / 4 * 4)) = false →
    regWrite m off be v s = denied m .write (regAddr (off / 4 * 4)) (checkedBy m s))

/-- An order that is not well-formed ends with ARG, one that is well-formed and not allowed in the present mode ends with STATE, and
neither has any other effect than having been taken (R40). -/
def Obligations.RefusedOrdersEndWithArgOrState : Prop :=
  ∀ i h o s, i.wf = true → orderOfCmd i = some (h, o) → Takes h o s →
    (orderFormed s o = false → exec i s = .next (settle (endOrder (takenId s) .arg 0 (taken h o s)))) ∧
    (orderFormed s o = true → orderLegal s o = false →
      exec i s = .next (settle (endOrder (takenId s) .state 0 (taken h o s))))

/-- An order that is not taken (the host has no link, the ring is disabled or full, a fence or a held paired order waits) changes
nothing: it waits in its ring (R408, R411). -/
def Obligations.OrdersThatAreNotTakenWait : Prop :=
  ∀ i h o s, i.wf = true → orderOfCmd i = some (h, o) →
    (reachable .host s = false ∨ s.ords.sqHead ≠ s.ords.sqTail ∨ mayTake s h.fence o = false) →
    exec i s = .next (settle s)

/-- An order that ends in the moment it is taken leaves the outstanding orders as they were and waits for its completion record with its
TAG, opcode, status, detail and the present tick (R415, R417). -/
def Obligations.EndedOrderWaitsForItsCompletion : Prop :=
  ∀ h o st d s, (∀ x ∈ s.ords.outs, x.id < s.ords.nextId) →
    endOrder (takenId s) st d (taken h o s) =
      { taken h o s with
        ords := { (taken h o s).ords with
          outs := s.ords.outs
          ended := s.ords.ended ++ [{ id := takenId s, tag := h.tag, op := orderCode o, int := h.int, status := st, detail := d,
                                      tick := now s }] } }

/-- A scheduled request is accepted only when its target is 2 to 2^31 - 1 ticks ahead; one outside that range ends its order with ARG
and has no other effect (R27). -/
def Obligations.ScheduledRequestsOutsideTheirRangeEndWithArg : Prop :=
  (∀ o d t s, ¬ (2 ≤ tdiff t (now s) ∧ tdiff t (now s) ≤ 2 ^ 31 - 1) → tsiSwapReq o d t s = endOpt o .arg 0 s) ∧
  (∀ o k i n t f s, ¬ (2 ≤ tdiff t (now s) ∧ tdiff t (now s) ≤ 2 ^ 31 - 1) → eclRequest o false k i n t f s = endOpt o .arg 0 s) ∧
  (∀ h d t s, Accepted (.tsiSwap h d t) h (.tsiSwap d t) s → twinMode s = false →
    ¬ (2 ≤ tdiff t (now s) ∧ tdiff t (now s) ≤ 2 ^ 31 - 1) →
    exec (.tsiSwap h d t) s = .next (settle (endOrder (takenId s) .arg 0 (taken h (.tsiSwap d t) s)))) ∧
  (∀ h k i n t f s, Accepted (.eclSchedule h k i n t f) h (.eclSchedule k i n t f) s → twinMode s = false →
    ¬ (2 ≤ tdiff t (now s) ∧ tdiff t (now s) ≤ 2 ^ 31 - 1) →
    exec (.eclSchedule h k i n t f) s = .next (settle (endOrder (takenId s) .arg 0 (taken h (.eclSchedule k i n t f) s))))

/-! ### Register commands -/

/-- SNAP_GO and SYS_GSNAP_GO: the writer's set of the page, or of every page, receives the tick, the clock, CYC, the PMCs with pending
carries in them and the page's counters; nothing else changes. INT_FORCE, INT_STAT_CLEAR, ERR_INFO_CLEAR, ERR_COUNT_WRITE and
PMC_WRITE: each changes its own register of the page's header and nothing else; a write of a PMC applies pending carries first (R73,
R74, R75, R76, R78, R80, R84). -/
def Obligations.HeaderCommandsActOnTheirPage : Prop :=
  (∀ m page s, Granted (.snapGo m page) m (ra page 0x040) s → (pageAt page).isSome = true →
    exec (.snapGo m page) s = .next (settle
      { checkedBy m s with
        snaps := spSet Snap.init s.snaps (2 * page + mSet m)
          { tick := s.time.tick, clk := s.time.clk, cyc := s.time.cyc, pmc := (pmcCarry (legend s page)).pmc,
            ctrs := (snapExtras s page).foldl (fun l e => spSet 0 l e.1 e.2) (pageCtrs (checkedBy m s) page) } })) ∧
  (∀ m s, Granted (.sysGsnapGo m) m (ra (pg .sys) 0x114) s →
    exec (.sysGsnapGo m) s = .next (settle (allPages.foldl (fun s p => capture (mSet m) p s) (checkedBy m s)))) ∧
  (∀ m page v s, Granted (.intForce m page v) m (ra page 0x018) s → (pageAt page).isSome = true →
    exec (.intForce m page v) s = .next (settle
      { checkedBy m s with
        legends := spSet Legend.init s.legends page
          { legend s page with intStat := (legend s page).intStat ||| (v &&& intMask page) } })) ∧
  (∀ m page v s, Granted (.intStatClear m page v) m (ra page 0x010) s → (pageAt page).isSome = true →
    exec (.intStatClear m page v) s = .next (settle
      { checkedBy m s with
        legends := spSet Legend.init s.legends page
          { legend s page with intStat := (legend s page).intStat &&& ~~~ v } })) ∧
  (∀ m page s, Granted (.errInfoClear m page) m (ra page 0x020) s → (pageAt page).isSome = true →
    exec (.errInfoClear m page) s = .next (settle
      { checkedBy m s with
        legends := spSet Legend.init s.legends page
          { legend s page with errInfo := setFld (legend s page).errInfo 31 30 0 } })) ∧
  (∀ m page v s, Granted (.errCountWrite m page v) m (ra page 0x02C) s → (pageAt page).isSome = true →
    exec (.errCountWrite m page v) s = .next (settle
      { checkedBy m s with legends := spSet Legend.init s.legends page { legend s page with errCount := v } })) ∧
  (∀ m page k v s, k < 8 → Granted (.pmcWrite m page (0x088 + 4 * k) v) m (ra page (0x088 + 4 * k)) s → (pageAt page).isSome = true →
    exec (.pmcWrite m page (0x088 + 4 * k) v) s = .next (settle
      (modLegend page (fun l => { l with pmc := l.pmc.set k v }) (modLegend page pmcCarry (checkedBy m s)))))

/-- The global snapshot is the snapshot of every assigned page, in the same command, as if SNAP.GO had been written on each (R80). -/
def Obligations.TheGlobalSnapshotIsASnapshotOfEveryPage : Prop :=
  ∀ m s, Granted (.sysGsnapGo m) m (ra (pg .sys) 0x114) s →
    exec (.sysGsnapGo m) s = .next (settle (allPages.foldl (fun t p => snapGo m p t) (checkedBy m s))) ∧
    (∀ p, (pageAt p).isSome = true → p ∈ allPages)

/-- LOCK, QREQ, SRST and BLOCK_EN on the Legend header: LOCK sets the page's lock bit; QREQ = 1 on a live pipeline sets QREQ and starts
the short set of an occulted pipeline that has passed so far; QREQ = 0 and EN = 1 let a parked pipeline back in; EN = 0 takes effect
on a quiesced pipeline and is refused with QUIESCE on one that is not; SRST on a quiesced or a retired pipeline resets its block;
QREQ, EN and SRST change nothing on the page of a block that is no pipeline (R68, R71). -/
def Obligations.LegendControlCommandsActOnTheirPage : Prop :=
  (∀ m page s, Granted (.lock m page) m (ra page 0x008) s → (pageAt page).isSome = true →
    exec (.lock m page) s = .next (settle
      { checkedBy m s with legends := spSet Legend.init s.legends page { legend s page with lock := true } })) ∧
  (∀ m p s, Granted (.qreq m (pg .pipe p) true) m (ra (pg .pipe p) 0x008) s → p < 42 → (pipeOf s p).role = 0 →
    (legend s (pg .pipe p)).qreq = false → (occulting s (pipeDir p)).all (fun o => (pipeOf s o).failCode == 0) = true →
    exec (.qreq m (pg .pipe p) true) s = .next (settle (startShort (pipeDir p) (modPipe p (fun x => { x with occPend := false })
      { checkedBy m s with legends := spSet Legend.init s.legends (pg .pipe p) { legend s (pg .pipe p) with qreq := true } })))) ∧
  (∀ m p o s, Granted (.qreq m (pg .pipe p) true) m (ra (pg .pipe p) 0x008) s → p < 42 → (pipeOf s p).role = 0 →
    (legend s (pg .pipe p)).qreq = false → occulting s (pipeDir p) = some o → (pipeOf s o).failCode ≠ 0 →
    exec (.qreq m (pg .pipe p) true) s = .next (settle (modPipe p (fun x => { x with occPend := false })
      { checkedBy m s with legends := spSet Legend.init s.legends (pg .pipe p) { legend s (pg .pipe p) with qreq := true } }))) ∧
  (∀ m p s, Granted (.qreq m (pg .pipe p) false) m (ra (pg .pipe p) 0x008) s → p < 42 → (legend s (pg .pipe p)).qreq = true →
    exec (.qreq m (pg .pipe p) false) s = .next (settle (pipeLeave p
      { checkedBy m s with legends := spSet Legend.init s.legends (pg .pipe p) { legend s (pg .pipe p) with qreq := false } }))) ∧
  (∀ m p s, Granted (.blockEn m (pg .pipe p) true) m (ra (pg .pipe p) 0x008) s → p < 42 → (legend s (pg .pipe p)).en = false →
    exec (.blockEn m (pg .pipe p) true) s = .next (settle (pipeLeave p
      { checkedBy m s with legends := spSet Legend.init s.legends (pg .pipe p) { legend s (pg .pipe p) with en := true } }))) ∧
  (∀ m p s, Granted (.blockEn m (pg .pipe p) false) m (ra (pg .pipe p) 0x008) s → p < 42 → (legend s (pg .pipe p)).en = true →
    (legend s (pg .pipe p)).quiesced = true →
    exec (.blockEn m (pg .pipe p) false) s = .next (settle
      { checkedBy m s with legends := spSet Legend.init s.legends (pg .pipe p) { legend s (pg .pipe p) with en := false } })) ∧
  (∀ m p s, Granted (.blockEn m (pg .pipe p) false) m (ra (pg .pipe p) 0x008) s → p < 42 → (legend s (pg .pipe p)).en = true →
    (legend s (pg .pipe p)).quiesced = false →
    exec (.blockEn m (pg .pipe p) false) s = .next (settle (regErr m (ra (pg .pipe p) 0x008) 0x07 (checkedBy m s)))) ∧
  (∀ m p s, Granted (.srst m (pg .pipe p)) m (ra (pg .pipe p) 0x008) s → p < 42 →
    ((legend s (pg .pipe p)).quiesced = true ∨ (pipeOf s p).role = 3) →
    exec (.srst m (pg .pipe p)) s = .next (settle
      (pipeSrst p (checkedBy m s)))) ∧
  (∀ m page b s i, (pageAt page).isSome = true → quiescable page = false → i ∈ [Instr.qreq m page b, .blockEn m page b, .srst m page] →
    Granted i m (ra page 0x008) s → exec i s = .next (settle (checkedBy m s)))

/-- INT_EOI, MSIX_UNMASK, SYS_COMPAT_WRITE and GRT_RESV_QUERY: INT_EOI of an asserted vector sends its message again, of one not
asserted does nothing; unmasking clears the table entry's mask bit; SYS_COMPAT takes bits 4:0 in CONFIGURE when no change of
behaviours 1, 3 and 4 stands against it; a query stores the tick it asks for. PORT_LOOP_WRITE and PORT_PFC_THR_WRITE: a new loopback
mode in DIAGNOSTIC is stored and takes the port link-down; thresholds with XON below XOFF are stored and compared at once, and
others are refused with the page's own reason (R49, R85, R86, R89, R107, R114). -/
def Obligations.InterruptSystemAndPortCommandsTakeEffect : Prop :=
  (∀ m v s, Granted (.intEoi m v) m (ra (pg .int) 0x300) s → behaviour s 4 = false → s.intr.asserted.testBit (fld v 5 0) = true →
    exec (.intEoi m v) s = .next (settle (sendVec (checkedBy m s) (fld v 5 0)))) ∧
  (∀ m v s, Granted (.intEoi m v) m (ra (pg .int) 0x300) s → behaviour s 4 = false → s.intr.asserted.testBit (fld v 5 0) = false →
    exec (.intEoi m v) s = .next (settle (checkedBy m s))) ∧
  (∀ m vec s, Granted (.msixUnmask m vec) m (ra (pg .int) (0x80C + 16 * vec)) s →
    exec (.msixUnmask m vec) s = .next (settle (setReg (checkedBy m s) (ra (pg .int) (0x80C + 16 * vec))
      (setBit (getReg s (ra (pg .int) (0x80C + 16 * vec))) 0 false)))) ∧
  (∀ m v s, Granted (.sysCompatWrite m v) m (ra (pg .sys) 0x104) s → s.dev.mode = .configure →
    (behaviour s 1 = false ∨ legacyHeld s = false) → outstanding s = 0 →
    behaviour s 4 = behaviour (setReg s (ra (pg .sys) 0x104) (v &&& 0x1F)) 4 →
    exec (.sysCompatWrite m v) s = .next (settle (setReg (checkedBy m s) (ra (pg .sys) 0x104) (v &&& 0x1F)))) ∧
  (∀ m v s, Granted (.grtResvQuery m v) m (ra (pg .grt) 0x124) s →
    exec (.grtResvQuery m v) s = .next (settle (setReg (checkedBy m s) (ra (pg .grt) 0x124) v))) ∧
  (∀ m side p v s, Granted (.portLoopWrite m side p v) m (ra (portPage side p) 0x120) s → s.dev.mode = .diagnostic →
    regFld s (ra (portPage side p) 0x120) 1 0 ≠ fld v 1 0 →
    exec (.portLoopWrite m side p v) s = .next (settle (linkFall side p true true (some 2)
      (setReg (checkedBy m s) (ra (portPage side p) 0x120) (wd (fld v 1 0)))))) ∧
  (∀ m p v s, Granted (.portPfcThrWrite m .plain p v) m (ra (pg .plain p) 0x114) s → fld v 28 16 < fld v 12 0 →
    exec (.portPfcThrWrite m .plain p v) s = .next (settle (pfcCheck p
      (setReg (checkedBy m s) (ra (pg .plain p) 0x114) (v &&& 0x1FFF1FFF))))) ∧
  (∀ m p v s, Granted (.portPfcThrWrite m .plain p v) m (ra (pg .plain p) 0x114) s → fld v 12 0 ≤ fld v 28 16 →
    exec (.portPfcThrWrite m .plain p v) s = .next (settle (regErr m (ra (pg .plain p) 0x114) 0x40 (checkedBy m s))))

/-- GAZ_SEED_WRITE, GAZ_RD_GO, CON_RD_GO, ORB_RD_GO, SEQ_RD_GO, ECL_RD_GO and ECL_RD_NEXT: a seed in CONFIGURE is stored and empties the
working image; each read-back loads its registers from the working image and raises its done event, and touches no table (R121,
R122, R148, R168, R229). -/
def Obligations.TableReadBackCommandsLoadTheirRegisters : Prop :=
  (∀ m k v s, Granted (.gazSeedWrite m k v) m (ra (pg .gaz) (0x100 + 4 * k)) s → s.dev.mode = .configure →
    exec (.gazSeedWrite m k v) s = .next (settle
      { setReg (checkedBy m s) (ra (pg .gaz) (0x100 + 4 * k)) v with
        gaz := { s.gaz with work := [], edits := s.gaz.edits + 1 } })) ∧
  (∀ m s n e, Granted (.gazRdGo m) m (ra (pg .gaz) 0x114) s →
    workFind s (regFld s (ra (pg .gaz) 0x130) 7 4) (regFld s (ra (pg .gaz) 0x130) 3 0)
      (leNat (wordsToBytes ((List.range 4).map (fun i => getReg s (ra (pg .gaz) (0x120 + 4 * i)))))) = some (n, e) →
    exec (.gazRdGo m) s = .next (settle (event (pg .gaz) 2
      { checkedBy m s with
        gaz := { s.gaz with
          rdPos := wd (2 ^ 31 + n),
          rdData := bytesToWords 4 (leBytes 16 e.key) ++
            [wd (slotCheck n (some e) * 2 ^ 16 + e.kind * 16 + e.port), wd (gazData5 (some e))] } }))) ∧
  (∀ m s e, Granted (.conRdGo m) m (ra (pg .con) 0x108) s → s.con.work[regFld s (ra (pg .con) 0x104) 15 0]? = some e →
    exec (.conRdGo m) s = .next (settle (event (pg .con) 1
      { checkedBy m s with
        con := { s.con with
          rd := bytesToWords 5 (leBytes 20 e.value) ++ bytesToWords 5 (leBytes 20 e.mask) ++
            [wd (2 ^ 31 + e.action * 2 ^ 29 + e.cls * 2 ^ 27 + e.sa), wd e.prio] } }))) ∧
  (∀ m s e, Granted (.orbRdGo m) m (ra (pg .orb) 0x124) s → e = workSa s (regFld s (ra (pg .orb) 0x120) 20 0) →
    exec (.orbRdGo m) s = .next (settle (event (pg .orb) 2
      { checkedBy m s with
        orb := { s.orb with
          rdDir := wd (e.st * 2 ^ 30 + e.dir * 2 ^ 29 + b2n e.pinned * 2 ^ 28 + b2n e.resident * 2 ^ 27 + b2n e.faultSeq * 2 ^ 26 +
            e.gen * 2 ^ 18 + (if e.resident then e.slot else 0)),
          rdData := if e.st = 0 then List.replicate 64 0 else
            (List.range 64).map (fun n => if 16 ≤ n && n < 28 then 0
              else recW (recView s (regFld s (ra (pg .orb) 0x120) 20 0)) n) } }))) ∧
  (∀ m s e, Granted (.seqRdGo m) m (ra (pg .seq) 0x104) s → e = workSa s (regFld s (ra (pg .seq) 0x100) 20 0) →
    exec (.seqRdGo m) s = .next (settle (event (pg .seq) 1
      { checkedBy m s with
        orb := { s.orb with
          seqRd := [wd e.ledger, wd (e.ledger / 2 ^ 32),
            wd (e.st * 2 ^ 30 + e.dir * 2 ^ 29 + (if e.dir = 0 then recAlm e.record else 0))] } }))) ∧
  (∀ m v s, Granted (.eclRdGo m v) m (ra (pg .ecl) 0x124) s →
    exec (.eclRdGo m v) s = .next (settle (eclRead (fld v 1 0) (regFld s (ra (pg .ecl) 0x120) 20 0) 0
      (setReg (checkedBy m s) (ra (pg .ecl) 0x124) (v &&& 3))))) ∧
  (∀ m s, Granted (.eclRdNext m) m (ra (pg .ecl) 0x124) s → regFld s (ra (pg .ecl) 0x124) 31 2 = 0 →
    exec (.eclRdNext m) s = .next (settle (eclRead (regFld s (ra (pg .ecl) 0x124) 1 0) (regFld s (ra (pg .ecl) 0x120) 20 0)
      (s.ecl.rdPos + 1) (setReg (checkedBy m s) (ra (pg .ecl) 0x124) (getReg s (ra (pg .ecl) 0x124))))))

/-- The pops SWP_MIS_POP, ALM_NOTE_POP, ECL_NOTE_POP, PMB_TCA_POP and BDY_NOTICE_POP discard the head of their FIFO, SWP_SURVEY_STOP
asks a running compare to stop and SCH_CLR_MAX clears SCH_POLAR_MAX; nothing else changes. The ring commands ORD_CTRL_EN,
ORD_SQ_TAIL, ORD_CQ_HEAD, ERA_CTRL_EN, ERA_CONS, LRN_RING_CONS, SMP_CTRL_EN and SMP_CONS: an index that stays within its ring is
taken, one that passes its end is refused with RANGE and leaves the index; enabling a ring that fits sets its indices to 0, and
ORD_CTRL.EN goes to 0 only with no order outstanding (R132, R140, R141, R215, R235, R258, R305, R387, R409, R410, R420, R466). -/
def Obligations.PopAndRingCommandsMoveTheirIndices : Prop :=
  (∀ m s, Granted (.swpMisPop m) m (ra (pg .swp) 0x128) s →
    exec (.swpMisPop m) s = .next (settle { checkedBy m s with swp := { s.swp with mis := s.swp.mis.drop 1 } })) ∧
  (∀ m s, Granted (.almNotePop m) m (ra (pg .alm) 0x388) s →
    exec (.almNotePop m) s = .next (settle { checkedBy m s with alm := { s.alm with notes := s.alm.notes.drop 1 } })) ∧
  (∀ m s, Granted (.eclNotePop m) m (ra (pg .ecl) 0x388) s →
    exec (.eclNotePop m) s = .next (settle { checkedBy m s with ecl := { s.ecl with notes := s.ecl.notes.drop 1 } })) ∧
  (∀ m s, Granted (.pmbTcaPop m) m (ra (pg .pmb) 0x168) s →
    exec (.pmbTcaPop m) s = .next (settle { checkedBy m s with pmb := { s.pmb with tca := s.pmb.tca.drop 1 } })) ∧
  (∀ m u s, Granted (.bdyNoticePop m u) m (ra (pg .bdy u) 0x120) s →
    exec (.bdyNoticePop m u) s = .next (settle
      { checkedBy m s with bdy := s.bdy.set u { bdyOf s u with notices := (bdyOf s u).notices.drop 1 } })) ∧
  (∀ m s, Granted (.swpSurveyStop m) m (ra (pg .swp) 0x110) s →
    exec (.swpSurveyStop m) s = .next (settle
      { checkedBy m s with swp := { s.swp with survey := s.swp.survey.map (fun v => { v with stop := true }) } })) ∧
  (∀ m s, Granted (.schClrMax m) m (ra (pg .sch) 0x118) s →
    exec (.schClrMax m) s = .next (settle { checkedBy m s with frames := { s.frames with polarMax := [0, 0] } })) ∧
  (∀ m s, Granted (.ordCtrlEn m true) m (ra (pg .ord) 0x100) s → ordEn s = false → ordRingsOk s = true →
    exec (.ordCtrlEn m true) s = .next (settle
      { setReg (checkedBy m s) (ra (pg .ord) 0x100) 0x80000000 with
        ords := { s.ords with sqHead := 0, sqTail := 0, cqHead := 0, cqTail := 0 } })) ∧
  (∀ m s, Granted (.ordCtrlEn m false) m (ra (pg .ord) 0x100) s → ordEn s = true → outstanding s ≠ 0 →
    exec (.ordCtrlEn m false) s = .next (settle (regErr m (ra (pg .ord) 0x100) 0x41 (checkedBy m s)))) ∧
  (∀ m v s, Granted (.ordSqTail m v) m (ra (pg .ord) 0x10C) s →
    exec (.ordSqTail m v) s = .next (settle (if tdiff v s.ords.sqHead ≤ sqSlots s
      then { checkedBy m s with ords := { s.ords with sqTail := v } } else regErr m (ra (pg .ord) 0x10C) 0x06 (checkedBy m s)))) ∧
  (∀ m v s, Granted (.ordCqHead m v) m (ra (pg .ord) 0x11C) s →
    exec (.ordCqHead m v) s = .next (settle (if tdiff v s.ords.cqHead ≤ tdiff s.ords.cqTail s.ords.cqHead
      then { checkedBy m s with ords := { s.ords with cqHead := v } } else regErr m (ra (pg .ord) 0x11C) 0x06 (checkedBy m s)))) ∧
  (∀ m s, Granted (.eraCtrlEn m true) m (ra (pg .era) 0x100) s → eraEn s = false → eraRingOk s = true →
    exec (.eraCtrlEn m true) s = .next (settle
      { setReg (checkedBy m s) (ra (pg .era) 0x100) 0x80000000 with era := { s.era with prod := 0, cons := 0 } })) ∧
  (∀ m v s, Granted (.eraCons m v) m (ra (pg .era) 0x10C) s →
    exec (.eraCons m v) s = .next (settle (if tdiff v s.era.cons ≤ tdiff s.era.prod s.era.cons
      then { checkedBy m s with era := { s.era with cons := v } } else regErr m (ra (pg .era) 0x10C) 0x06 (checkedBy m s)))) ∧
  (∀ m v s, Granted (.lrnRingCons m v) m (ra (pg .lrn) 0x10C) s →
    exec (.lrnRingCons m v) s = .next (settle { checkedBy m s with lrn := { s.lrn with cons := fld v 12 0 } })) ∧
  (∀ m s, Granted (.smpCtrlEn m true) m (ra (pg .smp) 0x100) s → bit (getReg s (ra (pg .smp) 0x100)) 31 = false →
    exec (.smpCtrlEn m true) s = .next (settle
      { setReg (checkedBy m s) (ra (pg .smp) 0x100) 0x80000000 with smp := { s.smp with prod := 0, cons := 0 } })) ∧
  (∀ m v s, Granted (.smpCons m v) m (ra (pg .smp) 0x10C) s →
    exec (.smpCons m v) s = .next (settle (if tdiff v s.smp.cons ≤ tdiff s.smp.prod s.smp.cons
      then { checkedBy m s with smp := { s.smp with cons := v } } else regErr m (ra (pg .smp) 0x10C) 0x06 (checkedBy m s))))

/-- TSI_WDATA, TSI_COPY, TSI_COPY_DONE, TSI_CANCEL and TSI_RIDX_WRITE: with no swap or copy pending, TSI_WDATA writes the standby entry
at TSI_WIDX and moves the index on, and TSI_COPY begins a copy; its end makes the standby page equal the active one; TSI_CANCEL
empties the direction's queue of swaps; TSI_RIDX loads the entry it names. With a swap pending TSI_WDATA is refused. BUN_WRITE and
BUN_READ: a write to an entry that is not in use stores a configuration that keeps the rules of R289, marks its PM bins suspect and,
with EN, waits for its period start; a read loads BUN_CFG and BUN_ST from the entry (R283, R285, R288, R289). -/
def Obligations.ConnectionAndBundleCommandsTakeEffect : Prop :=
  (∀ m v s, Granted (.tsiWdata m v) m (ra (pg .tsi) 0x114) s → tsiLocked s (regFld s (ra (pg .tsi) 0x110) 31 31) = false →
    exec (.tsiWdata m v) s = .next (settle (setReg
      { checkedBy m s with
        tsi := { s.tsi with
          pages := s.tsi.pages.set (tsiStandby s (regFld s (ra (pg .tsi) 0x110) 31 31))
            (spSet 0 (s.tsi.pages.getD (tsiStandby s (regFld s (ra (pg .tsi) 0x110) 31 31)) []) (regFld s (ra (pg .tsi) 0x110) 12 0)
              (v &&& 0x80FF001F)) } }
      (ra (pg .tsi) 0x110) (setFld (getReg s (ra (pg .tsi) 0x110)) 12 0 (regFld s (ra (pg .tsi) 0x110) 12 0 + 1))))) ∧
  (∀ m v s, Granted (.tsiWdata m v) m (ra (pg .tsi) 0x114) s → tsiLocked s (regFld s (ra (pg .tsi) 0x110) 31 31) = true →
    exec (.tsiWdata m v) s = .next (settle (regErr m (ra (pg .tsi) 0x114) 0x40 (checkedBy m s)))) ∧
  (∀ m v s, Granted (.tsiCopy m v) m (ra (pg .tsi) 0x120) s → bit v 0 = true → tsiLocked s (fld v 31 31) = false →
    exec (.tsiCopy m v) s = .next (settle { checkedBy m s with tsi := { s.tsi with copy := s.tsi.copy.set (fld v 31 31) true } })) ∧
  (∀ d s, s.tsi.copy.getD (dirNum d) false = true →
    exec (.tsiCopyDone d) s = .next (settle { s with tsi := { s.tsi with
      copy := s.tsi.copy.set (dirNum d) false,
      pages := s.tsi.pages.set (tsiStandby s (dirNum d)) (s.tsi.pages.getD (tsiActive s (dirNum d)) []) } })) ∧
  (∀ m d s, Granted (.tsiCancel m d) m (ra (pg .tsi) 0x124) s →
    exec (.tsiCancel m d) s = .next (settle (tsiCancelDir 0x85 (dirNum d) (checkedBy m s)))) ∧
  (∀ m v s, Granted (.tsiRidxWrite m v) m (ra (pg .tsi) 0x118) s →
    exec (.tsiRidxWrite m v) s = .next (settle
      { setReg (checkedBy m s) (ra (pg .tsi) 0x118) (v &&& 0xC0001FFF) with
        tsi := { s.tsi with rdata := tsiAt s (if bit v 30 then tsiStandby s (fld v 31 31) else tsiActive s (fld v 31 31)) (fld v 12 0) } })) ∧
  (∀ m s, Granted (.bunWrite m) m (ra (pg .bun) 0x124) s → bunBusy (bunOf s (regFld s (ra (pg .bun) 0x120) 9 0)) = false →
    bunShape (bunStaged s) = true →
    (bcEn (bunStaged s) = true → bunFits s (regFld s (ra (pg .bun) 0x120) 9 0) (bunStaged s) = true) →
    exec (.bunWrite m) s = .next (settle (pmChanged (256 + regFld s (ra (pg .bun) 0x120) 9 0) false
      { checkedBy m s with
        buns := spSet Bun.init s.buns (regFld s (ra (pg .bun) 0x120) 9 0)
          { Bun.init with cfg := bunStaged s, change := if bcEn (bunStaged s) then some (true, now s) else none } }))) ∧
  (∀ m s, Granted (.bunWrite m) m (ra (pg .bun) 0x124) s → bunBusy (bunOf s (regFld s (ra (pg .bun) 0x120) 9 0)) = false →
    bunShape (bunStaged s) = false →
    exec (.bunWrite m) s = .next (settle (regErr m (ra (pg .bun) 0x124) 0x06 (checkedBy m s)))) ∧
  (∀ m s, Granted (.bunRead m) m (ra (pg .bun) 0x124) s →
    exec (.bunRead m) s = .next (settle
      { (List.range 8).foldl (fun t k => setReg t (ra (pg .bun) (0x140 + 4 * k))
          ((bunOf s (regFld s (ra (pg .bun) 0x120) 9 0)).cfg.getD k 0)) (checkedBy m s) with
        bunSt := bunStatus (bunOf s (regFld s (ra (pg .bun) 0x120) 9 0)) }))

/-- TRB_HUNT, APS_CMD_WRITE, HWY_LOOP_WRITE and OLD_LOOP_WRITE: each changes its register or unit as its rule says; the loopback
registers take a value in DIAGNOSTIC and refuse it with MODE elsewhere (R267, R272, R279, R321). -/
def Obligations.CircuitRegisterCommandsTakeEffect : Prop :=
  (∀ m t s, Granted (.trbHunt m t) m (trbReg t 4) s → exec (.trbHunt m t) s = .next (settle (tribHunt t (checkedBy m s)))) ∧
  (∀ m g v s, Granted (.apsCmdWrite m g v) m (ra (pg .aps) (0x404 + 8 * g)) s → fld v 31 29 ≤ 5 →
    exec (.apsCmdWrite m g v) s = .next (settle (setReg (checkedBy m s) (ra (pg .aps) (0x404 + 8 * g))
      ((getReg s (ra (pg .aps) (0x404 + 8 * g)) &&& ~~~ (wd 0xE000FFFF)) ||| (v &&& wd 0xE000FFFF))))) ∧
  (∀ m h v s, Granted (.hwyLoopWrite m h v) m (ra (pg .hwy h) 0x108) s → s.dev.mode = .diagnostic →
    regFld s (ra (pg .hwy h) 0x108) 1 0 ≠ fld v 1 0 →
    exec (.hwyLoopWrite m h v) s = .next (settle (bump (pg .hwy h) 0x228 (b2n (!(hwyOf (checkedBy m s) h).lof))
      (hwyChange h (fun x => { x with loopLof := true, locked := none })
        (setReg (checkedBy m s) (ra (pg .hwy h) 0x108) (wd (fld v 1 0))))))) ∧
  (∀ m h v s, Granted (.hwyLoopWrite m h v) m (ra (pg .hwy h) 0x108) s → s.dev.mode ≠ .diagnostic →
    exec (.hwyLoopWrite m h v) s = .next (settle (regErr m (ra (pg .hwy h) 0x108) 0x01 (checkedBy m s)))) ∧
  (∀ m v s, Granted (.oldLoopWrite m v) m (ra (pg .old) 0x108) s → s.dev.mode = .diagnostic →
    regFld s (ra (pg .old) 0x108) 1 0 ≠ fld v 1 0 →
    exec (.oldLoopWrite m v) s = .next (settle (oldSyncLost
      (setReg (checkedBy m s) (ra (pg .old) 0x108) (wd (fld v 1 0))))))

/-- MER_RATE_WRITE, TRG_ARM, PMB_RD_GO, SEAL_B2MAP_WRITE and BDY_COMMIT with its end: a rate within its range is stored and counted, one
beyond it is refused; ARM = 0 stops further pulses; a bin is loaded as its record; the map takes identifiers of 4 and more in
CONFIGURE; a commit of sound staged regions makes them active and is pending until its end, which raises COMMITTED (R304, R339,
R350, R380, R392). -/
def Obligations.TimeMemoryAndBoundaryCommandsTakeEffect : Prop :=
  (∀ m v s, Granted (.merRateWrite m v) m (ra (pg .mer) 0x108) s → (m = .host → cfgFld s (ra (pg .mer) 0x100) 1 0 = 2) →
    v.toInt.natAbs ≤ 3518437 →
    exec (.merRateWrite m v) s = .next (settle (bump (pg .mer) 0x310 1 (setReg (checkedBy m s) (ra (pg .mer) 0x108) v)))) ∧
  (∀ m v s, Granted (.merRateWrite m v) m (ra (pg .mer) 0x108) s → (m = .host → cfgFld s (ra (pg .mer) 0x100) 1 0 = 2) →
    3518437 < v.toInt.natAbs →
    exec (.merRateWrite m v) s = .next (settle (regErr m (ra (pg .mer) 0x108) 0x06 (checkedBy m s)))) ∧
  (∀ m k v s, Granted (.trgArm m k v) m (trgReg k 0) s → bit v 31 = false →
    (bit v 29 && !bit (getReg s (trgReg k 0)) 29) = false →
    exec (.trgArm m k v) s = .next (settle
      { setReg (checkedBy m s) (trgReg k 0) (v &&& 0xE0000000) with
        mer := { s.mer with trig := s.mer.trig.set k { trgOf s k with next := none } } })) ∧
  (∀ m k v s, Granted (.trgArm m k v) m (trgReg k 0) s → bit v 31 = false →
    (bit v 29 && !bit (getReg s (trgReg k 0)) 29) = true →
    exec (.trgArm m k v) s = .next (settle
      (modTrg k (fun x => { x with next := none })
        (trgPin k (trgOf s k).pulsing (setReg (checkedBy m s) (trgReg k 0) (v &&& 0xE0000000)))))) ∧
  (∀ m s, Granted (.pmbRdGo m) m (ra (pg .pmb) 0x118) s →
    exec (.pmbRdGo m) s = .next (settle { checkedBy m s with pmb := { s.pmb with
      rd := bytesToWords 8 (pmRecord s (regFld s (ra (pg .pmb) 0x114) 10 0)
        (let b := spGet PmBin.init s.pmb.cur (regFld s (ra (pg .pmb) 0x114) 10 0)
         { b with partialBin := b.partialBin || !entOn s (regFld s (ra (pg .pmb) 0x114) 10 0) })
        s.pmb.susQ (secTick s (s.pmb.qh * 900))) } })) ∧
  (∀ m k v s, Granted (.sealB2mapWrite m k v) m (ra (pg .seal) (0x120 + 4 * k)) s → s.dev.mode = .configure →
    (∀ i < 8, 4 ≤ fld v (4 * i + 3) (4 * i)) →
    exec (.sealB2mapWrite m k v) s = .next (settle (setReg (checkedBy m s) (ra (pg .seal) (0x120 + 4 * k)) v))) ∧
  (∀ m u s, Granted (.bdyCommit m u) m (ra (pg .bdy u) 0x104) s → (legend s (pg .bdy u)).lock = false →
    (bdyOf s u).pending = false → stagedBad s u = none →
    exec (.bdyCommit m u) s = .next (settle (copyRegions u
      { checkedBy m s with bdy := s.bdy.set u { bdyOf s u with pending := true } }))) ∧
  (∀ u s, u < 8 → (bdyOf s u).pending = true →
    exec (.bdyCommitDrained u) s = .next (settle (event (pg .bdy u) 3
      { s with bdy := s.bdy.set u { bdyOf s u with pending := false } })))

/-- The utility cipher unit's commands UCU_ACQ, UCU_REL, UCU_FORCE, UCU_GO, UCU_KEYSRC_WRITE and UCU_LEASE_EXPIRY: a free lock is
acquired by the writer, of two writers of one clock by the one of the lower class, and by nobody while another holds it; the owner's
release frees it; TIRCY's FORCE and an expired lease force it free; the owner's GO starts a job of a length its mode takes; a write
by another master is refused with the page's reason 0x40. PKE_ABORT, RNG_REQ and RNG_RESEED: every job of the area is aborted; a
running generator fills the writer's set from 64 bytes of its output and marks it READY, or is reseeded; one in FAULT serves nothing
(R438, R440, R441, R442, R448, R451, R453). -/
def Obligations.EngineCommandsFollowTheirOwner : Prop :=
  (∀ m s, Granted (.ucuAcq ⟨m, none⟩) m (ra (pg .ucu) 0x100) s → s.ucu.held = false →
    exec (.ucuAcq ⟨m, none⟩) s = .next (settle
      { checkedBy m s with ucu := { s.ucu with held := true, ownCls := mCls m, ownCore := mCore m, lastUse := now s } })) ∧
  (∀ m s, Granted (.ucuAcq ⟨m, none⟩) m (ra (pg .ucu) 0x100) s → s.ucu.held = true → ucuOwner s m = false →
    exec (.ucuAcq ⟨m, none⟩) s = .next (settle (checkedBy m s))) ∧
  (∀ m r s, Granted (.ucuAcq ⟨m, some r⟩) m (ra (pg .ucu) 0x100) s → Granted (.ucuAcq ⟨r, some m⟩) r (ra (pg .ucu) 0x100) s →
    s.ucu.held = false → mCls m < mCls r →
    exec (.ucuAcq ⟨m, some r⟩) s = .next (settle
      { checkedBy r (checkedBy m s) with
          ucu := { s.ucu with held := true, ownCls := mCls m, ownCore := mCore m, lastUse := now s } }) ∧
    exec (.ucuAcq ⟨r, some m⟩) s = exec (.ucuAcq ⟨m, some r⟩) s) ∧
  (∀ m s, Granted (.ucuRel m) m (ra (pg .ucu) 0x100) s → ucuOwner s m = true → s.ucu.busy = false →
    exec (.ucuRel m) s = .next (settle (ucuFree (ucuTouch (checkedBy m s))))) ∧
  (∀ c s, Granted (.ucuForce (.tircy c)) (.tircy c) (ra (pg .ucu) 0x100) s →
    exec (.ucuForce (.tircy c)) s = .next (settle (ucuForced (checkedBy (.tircy c) s)))) ∧
  (∀ m s, Granted (.ucuGo m) m (ra (pg .ucu) 0x124) s → ucuOwner s m = true → s.ucu.busy = false → ucuLenOk s = true →
    exec (.ucuGo m) s = .next (settle
      { checkedBy m s with ucu := { s.ucu with busy := true, doneFlag := false, lastUse := now s } })) ∧
  (∀ m v s, Granted (.ucuKeysrcWrite m v) m (ra (pg .ucu) 0x108) s → ucuOwner s m = false →
    exec (.ucuKeysrcWrite m v) s = .next (settle (regErr m (ra (pg .ucu) 0x108) 0x40 (checkedBy m s)))) ∧
  (∀ c v s, Granted (.ucuKeysrcWrite (.tircy c) v) (.tircy c) (ra (pg .ucu) 0x108) s → ucuOwner s (.tircy c) = true →
    1 ≤ fld v 31 24 → fld v 31 24 ≤ 13 → fld v 6 0 ≤ 64 →
    ∃ w, exec (.ucuKeysrcWrite (.tircy c) v) s = .next (settle (setReg (ucuTouch (checkedBy (.tircy c) s)) (ra (pg .ucu) 0x108) w)) ∧
      w = setFld (setFld (setFld (setFld (setFld 0 16 16 (fld v 16 16)) 15 12 (fld v 15 12)) 8 8 (fld v 8 8)) 31 24 (fld v 31 24)) 6 0
        (fld v 6 0)) ∧
  (∀ s, s.ucu.held = true → s.ucu.busy = false → regFld s (ra (pg .ucu) 0x104) 15 0 ≤ tdiff (now s) s.ucu.lastUse →
    exec .ucuLeaseExpiry s = .next (settle (ucuForced s))) ∧
  (∀ m area s, Granted (.pkeAbort m area) m (ra (pg .pke) 0x104) s → (m = .host → area < 8) →
    exec (.pkeAbort m area) s = .next (settle (pkeAbortIf (fun j => j.area == area) 0xA1 (checkedBy m s)))) ∧
  (∀ m s, Granted (.rngReq m) m (ra (pg .rng) 0x104) s → s.rng.st = 1 →
    exec (.rngReq m) s = .next (settle
      { (draw 64 (checkedBy m s)).2 with rng := { s.rng with
          pos := s.rng.pos + 64, reqs := s.rng.reqs + 1,
          out := s.rng.out.set (mSet m) (bytesToWords 16 (draw 64 s).1), ready := s.rng.ready.set (mSet m) true } })) ∧
  (∀ m s, Granted (.rngReq m) m (ra (pg .rng) 0x104) s → s.rng.st = 2 →
    exec (.rngReq m) s = .next (settle (checkedBy m s))) ∧
  (∀ m s, Granted (.rngReseed m) m (ra (pg .rng) 0x10C) s → s.rng.st = 1 →
    exec (.rngReseed m) s = .next (settle (bump (pg .rng) 0x210 1
      { checkedBy m s with rng := { s.rng with reqs := 0, seedTick := now s } })))

/-- REGISTER_WRITE: a whole-word write of GRT_STALL_THR, a plain register, replaces its writable bits and nothing else; a write to an
unassigned page is captured on the SYS page as UNMAPPED, one with fewer than four byte enables is discarded with WIDTH, and one of
two words is two writes at rising addresses (R63, R64, R65, R67). -/
def Obligations.RegisterWriteReplacesTheWritableBits : Prop :=
  (∀ m v s, Granted (.registerWrite m 0x1120 15 ⟨v, []⟩) m 0x1120 s →
    exec (.registerWrite m 0x1120 15 ⟨v, []⟩) s = .next (settle (setReg (checkedBy m s) 0x1120
      ((getReg s 0x1120 &&& ~~~ (wd 0xFFFF)) ||| (v &&& wd 0xFFFF))))) ∧
  (∀ m off be v s, Granted (.registerWrite m off be ⟨v, []⟩) m (off / 4 * 4) s → pageAt (off / 0x1000) = none →
    exec (.registerWrite m off be ⟨v, []⟩) s = .next (settle (captureErr (pg .sys) 0x04 (mCls m) 0 (wd (off / 4 * 4)) 0 (checkedBy m s)))) ∧
  (∀ m off be v s, Granted (.registerWrite m off be ⟨v, []⟩) m (off / 4 * 4) s → (pageAt (off / 0x1000)).isSome = true → be < 15 →
    exec (.registerWrite m off be ⟨v, []⟩) s = .next (settle (regErr m (off / 4 * 4) 0x03 (checkedBy m s)))) ∧
  (∀ m off v s r, Granted (.registerWrite m off 15 ⟨v, []⟩) m (off / 4 * 4) s → (pageAt (off / 0x1000)).isSome = true →
    regRow (off / 4 * 4) = some r → r.acc = .ro →
    exec (.registerWrite m off 15 ⟨v, []⟩) s = .next (settle (regErr m (off / 4 * 4) 0x05 (checkedBy m s)))) ∧
  (∀ m off v w s, (Instr.registerWrite m off 15 ⟨v, [w]⟩).wf = true →
    exec (.registerWrite m off 15 ⟨v, [w]⟩) s = .next (settle (regWrite m (off + 4) 15 w (regWrite m off 15 v s))))

/-! ### Orders -/

/-- NOP, LOG_READ and MODE_SET: NOP ends with OK; LOG_READ writes the selected entries into BAR2 and ends with OK and their number;
MODE_SET, judged legal, makes its change fall due at the next boundary with rank 6 and cause 0x0B (R37, R43, R413, R462). -/
def Obligations.NopLogReadAndModeSetTakeEffect : Prop :=
  (∀ h s, Accepted (.nop h) h .nop s → exec (.nop h) s = .next (settle (endOrder (takenId s) .ok 0 (taken h .nop s)))) ∧
  (∀ h f c off s t, Accepted (.logRead h f c off) h (.logRead f c off) s →
    writeBar2 (.tircy 0) off ((logSelect (taken h (.logRead f c off) s) f c).2.flatMap logBytes) (taken h (.logRead f c off) s) = (true, t) →
    exec (.logRead h f c off) s = .next (settle (endOrder (takenId s) .ok (wd (logSelect (taken h (.logRead f c off) s) f c).1)
      { t with log := { t.log with copied := (logSelect (taken h (.logRead f c off) s) f c).2.length } }))) ∧
  (∀ h n m s, Accepted (.modeSet h n) h (.modeSet n) s → Mode.ofCode n = some m →
    { target := m, cause := 0x0B, rank := 6, ord := some (takenId s) } ∉ s.dev.trig →
    exec (.modeSet h n) s = .next (settle
      { taken h (.modeSet n) s with
        dev := { s.dev with trig := s.dev.trig ++ [{ target := m, cause := 0x0B, rank := 6, ord := some (takenId s) }] } }))

/-- WARM_RESET: the reset entry with cause 0x03 is logged, the device passes through RESET keeping its channels' training, and, its
supplies valid and its reset pins high, comes out in BOOT with no order outstanding and none ended, no frame held, no memory, and
its ticks from 0. ZEROIZE: the order with its magic word enters ZEROIZED at once with cause 0x13, and in ZEROIZED runs its effects
again: no key slot, association key, twin wrapping key or pair key is held any longer, and the sealed path runs under a fresh
provisional root that it sweeps onto before the order ends (R52, R61, R419). -/
def Obligations.WarmResetAndZeroizeTakeEffect : Prop :=
  (∀ h s t, Accepted (.warmReset h) h .warmReset s → s.dev.supply = true → s.dev.porst = true → s.dev.sysrst = true →
    s.dev.holdThermal = false → s.dev.holdSupply = false →
    t = enterBoot (resetState true .reset 0x03 (resetEntry 0x03 (taken h .warmReset s))) →
    exec (.warmReset h) s = .next (settle t) ∧ t.dev.mode = .boot ∧ t.dev.prev = s.dev.mode ∧ t.dev.cause = 0x03 ∧
      t.ords.outs = [] ∧ t.ords.ended = [] ∧ t.frames = State.reset.frames ∧ t.mem = [] ∧ t.time.tick = 0) ∧
  (∀ h s t, Accepted (.zeroize h 0x5A45524F) h (.zeroize 0x5A45524F) s →
    t = zeroize (some (takenId s)) (if s.dev.mode = .zeroized then taken h (.zeroize 0x5A45524F) s
      else modeTo .zeroized 0x13 (taken h (.zeroize 0x5A45524F) s)) →
    exec (.zeroize h 0x5A45524F) s = .next (settle t) ∧
      t.keys.slots = List.replicate 16 none ∧ t.keys.caks = [] ∧ t.keys.tkw = none ∧ t.keys.pairKey = none ∧
      t.sealPath.provisional = true ∧ t.sealPath.changing = true ∧ t.sealPath.zeroOrd = some (takenId s))

/-- ATTEST, FW_STAGE and FW_ACTIVATE: ATTEST queues a signature over the challenge read from BAR2 as a public-key job in area 15;
FW_STAGE of a sound image into the slot that does not run starts writing it, one that does not verify ends with AUTH; FW_ACTIVATE of
a slot that holds an image writes its body to the working image region and starts the agents' restarts, and ends with FAULT where
that write fails. OWNER_ENROL, KEK_GENERATE and PROVISION_COMMIT: the owner's key, a point of P-384, is stored when no owner is
enrolled yet; a key-encryption key is drawn from the reseeded generator into the Lunar SRAM with its check value; a commit with both
starts the sweep of the sealed path and its order stays outstanding (R364, R437, R454, R458, R459). -/
def Obligations.FirmwareAndProvisioningOrdersTakeEffect : Prop :=
  (∀ h c r s b t, Accepted (.attest h c r) h (.attest c r) s → readBar2 (.tircy 0) c 32 (taken h (.attest c r) s) = (some b, t) →
    t.pke.jobs.length < 65 →
    exec (.attest h c r) s = .next (settle
      { t with pke := { t.pke with jobs := t.pke.jobs ++ [
        { ord := some (takenId s), area := 15, op := 1, curve := 2, len := 384, out := r, mlen := 0, ops := [],
          attest := some (r, attestHead t b) }] } })) ∧
  (∀ h i l n s b t, Accepted (.fwStage h i l n) h (.fwStage i l n) s → s.dev.mode ≠ .boot → n ≠ s.fwu.running → l ≤ imgMax →
    fwBusy s = false → readBar2 (.tircy 0) i (l + 512) (taken h (.fwStage i l n) s) = (some b, t) →
    exec (.fwStage h i l n) s = .next (settle
      (if imageOk t l b then
        { t with fwu := { t.fwu with phase := 1, stage := some (takenId s, n,
            { ok := true, version := beAt b 8 8, arb := beAt b 0x10 8, body := slice b 512 l }) } }
       else endOrder (takenId s) .auth 0 t))) ∧
  (∀ h n s t, Accepted (.fwActivate h n) h (.fwActivate n) s → n ≠ s.fwu.running → (imgSlot s n).ok = true → fwBusy s = false →
    sealWrite .loader 0 (imgSlot s n).body (taken h (.fwActivate n) s) = (true, t) →
    exec (.fwActivate h n) s = .next (settle
      { t with fwu := { t.fwu with phase := 2, agent := 0, act := some (takenId s, n) } })) ∧
  (∀ h n s t, Accepted (.fwActivate h n) h (.fwActivate n) s → n ≠ s.fwu.running → (imgSlot s n).ok = true → fwBusy s = false →
    sealWrite .loader 0 (imgSlot s n).body (taken h (.fwActivate n) s) = (false, t) →
    exec (.fwActivate h n) s = .next (settle (endOrder (takenId s) .fault 0 t))) ∧
  (∀ h off s b t, Accepted (.ownerEnrol h off) h (.ownerEnrol off) s →
    readBar2 (.tircy 0) off 192 (taken h (.ownerEnrol off) s) = (some b, t) → t.keys.owner = none →
    onCurve p384 (beAt (slice b 0 96) 0 48) (beAt (slice b 0 96) 48 48) = true →
    exec (.ownerEnrol h off) s = .next (settle (endOrder (takenId s) .ok 0 { t with keys := { t.keys with owner := some (slice b 0 96) } }))) ∧
  (∀ h s, Accepted (.kekGenerate h) h .kekGenerate s → s.sealPath.commitOrd = none → s.rng.st ≠ 2 →
    exec (.kekGenerate h) s = .next (settle (endOrder (takenId s) .ok 0
      { (draw 32 (reseed (taken h .kekGenerate s))).2 with
        keys := { s.keys with kekGenerated := true }
        lun := { s.lun with kek := some (draw 32 (reseed (taken h .kekGenerate s))).1
                            kekCheck := kekCheckOf (draw 32 (reseed (taken h .kekGenerate s))).1 } }))) ∧
  (∀ h s, Accepted (.provisionCommit h) h .provisionCommit s → s.sealPath.commitOrd = none → s.keys.owner.isSome = true →
    kekState s = 1 →
    exec (.provisionCommit h) s = .next (settle
      { taken h .provisionCommit s with sealPath := { s.sealPath with commitOrd := some (takenId s), changing := true } }))

/-- PORT_MAP, PORT_EQ, MEM_RETRAIN and SEAL_REKEY: partitions that fit are staged for the next boundary with the group's mode and type;
a port of the committed mode that is not being equalised falls link-down and waits for its lanes; a channel starts moving its
granules out; a key's sweep starts. Each order stays outstanding. MER_STEP: without the PPS bit it steps Meridian by its signed
offset at once, within Meridian's range; with it, the step waits for the next pulse (R92, R115, R340, R374, R377). -/
def Obligations.PortMemoryAndTimeOrdersStartTheirWork : Prop :=
  (∀ h side g ps s, Accepted (.portMap h side g ps) h (.portMap side g ps) s →
    partsOk s side g (stagedMode s side g) ps = true →
    exec (.portMap h side g ps) s = .next (settle
      { taken h (.portMap side g ps) s with
        maps := s.maps ++ [{ ord := takenId s, side := side, group := g, mode := stagedMode s side g, iftype := stagedType s side g,
                             parts := ps }] })) ∧
  (∀ h r side p s, Accepted (.portEq h r side p) h (.portEq r side p) s → portOn s side p = true → (portOf s side p).eq = none →
    exec (.portEq h r side p) s = .next (settle
      (modPort side p (fun x => { x with eq := some (takenId s, now s), eqTrained := r && x.iftype != 0, training := r && x.iftype != 0 })
        (linkFall side p true true (some 2) (taken h (.portEq r side p) s))))) ∧
  (∀ h c s, Accepted (.memRetrain h c) h (.memRetrain c) s → s.sealPath.retrain = none → sweeping s = false →
    (chanState s c).st ≠ 5 →
    exec (.memRetrain h c) s = .next (settle
      (modChan c (fun x => { x with prog := 0 }) (chanTo c 2
        { taken h (.memRetrain c) s with sealPath := { s.sealPath with retrain := some (c, takenId s) } })))) ∧
  (∀ h k s, Accepted (.sealRekey h k) h (.sealRekey k) s → s.sealPath.retrain = none → sweeping s = false →
    s.sealPath.gen.getD k 0 ≠ 0xFFFF →
    exec (.sealRekey h k) s = .next (settle
      { taken h (.sealRekey k) s with sealPath := { s.sealPath with rekey := some (k, some (takenId s)), rekeySwept := 0 } })) ∧
  (∀ h sec ns fr s, Accepted (.merStep h false false sec ns fr) h (.merStep false false sec ns fr) s →
    s.time.mer + ((sec * 1000000000 + ns) * nsUnit + fr * nsUnit / 2 ^ 16) < merTop →
    exec (.merStep h false false sec ns fr) s = .next (settle
      (stepMer (takenId s) (s.time.mer + ((sec * 1000000000 + ns) * nsUnit + fr * nsUnit / 2 ^ 16))
        (taken h (.merStep false false sec ns fr) s)))) ∧
  (∀ h sec ns fr s, Accepted (.merStep h true false sec ns fr) h (.merStep true false sec ns fr) s →
    (sec * 1000000000 + ns) * nsUnit + fr * nsUnit / 2 ^ 16 ≤ s.time.mer →
    exec (.merStep h true false sec ns fr) s = .next (settle
      (stepMer (takenId s) (s.time.mer - ((sec * 1000000000 + ns) * nsUnit + fr * nsUnit / 2 ^ 16))
        (taken h (.merStep true false sec ns fr) s)))) ∧
  (∀ h sec s, Accepted (.merStep h false true sec 0 0) h (.merStep false true sec 0 0) s →
    exec (.merStep h false true sec 0 0) s = .next (settle
      { taken h (.merStep false true sec 0 0) s with mer := { s.mer with step := s.mer.step ++ [(takenId s, sec, s.time.mer)] } }))

/-- KEY_IMPORT, CAK_LOAD, SA_EXPORT, DIAG_SA_LOAD and PKE_JOB: a key wrapped under the twin wrapping key with this device's identity
enters its slot, another identity or one that does not unwrap is AUTH, and so for a CAK; a CAK unwrapped under its slot's key is
entered; an installed SA is exported with its key wrapped under the slot's key; an image under a ROM key is pending for the next
boundary; a job whose header and operands are sound joins the queue (R58, R169, R433, R434, R443). -/
def Obligations.KeyAndJobOrdersTakeEffect : Prop :=
  (∀ h n off s b t, Accepted (.keyImport h n off) h (.keyImport n off) s →
    readBar2 (.tircy 0) off 256 (taken h (.keyImport n off) s) = (some b, t) → (byteAt b 0).toNat = 2 →
    exec (.keyImport h n off) s = .next (settle
      ((unwrapUnder t.keys.tkw (slice b 0x90 48)).elim (endOrder (takenId s) .auth 0 t) (fun x =>
        if x.drop 32 == devIdBytes then
          endOrder (takenId s) .ok 0 { t with keys := { t.keys with slots := t.keys.slots.set n (some (x.take 32)) } }
        else endOrder (takenId s) .auth 0 t)))) ∧
  (∀ h n off s b t, Accepted (.cakLoad h n off) h (.cakLoad n off) s →
    readBar2 (.tircy 0) off 0x4C (taken h (.cakLoad n off) s) = (some b, t) → (byteAt b 0).toNat = 32 → (byteAt b 1).toNat = 16 →
    t.keys.caks.all (fun c => c.1 != slice b 4 16) = true → t.keys.caks.length < 256 →
    exec (.cakLoad h n off) s = .next (settle
      ((unwrapUnder (t.keys.slots.getD n none) (slice b 0x24 40)).elim (endOrder (takenId s) .auth 0 t) (fun k =>
        endOrder (takenId s) .ok 0
          { t with keys := { t.keys with caks := t.keys.caks ++ [(slice b 4 16, k, (byteAt b 2).toNat)] } })))) ∧
  (∀ h i off n s k t, Accepted (.saExport h i off n) h (.saExport i off n) s → (workSa s i).st = 1 → behaviour s 2 = false →
    s.keys.slots.getD n none = some k →
    writeBar2 (.tircy 0) off (wordsToBytes (exportImage (taken h (.saExport i off n) s) i (kwWrap k (recKey (workSa s i).record))))
      (taken h (.saExport i off n) s) = (true, t) →
    exec (.saExport h i off n) s = .next (settle (endOrder (takenId s) .ok 0 t))) ∧
  (∀ h i k off s b t, Accepted (.diagSaLoad h i k off) h (.diagSaLoad i k off) s →
    readBar2 (.tircy 0) off 256 (taken h (.diagSaLoad i k off) s) = (some b, t) → (workSa t i).st = 0 → imageBad t (bytesToWords 64 b) = false →
    installBusy t (bytesToWords 64 b) = false →
    exec (.diagSaLoad h i k off) s = .next (settle (endOrder (takenId s) .ok 0
      { t with orb := { t.orb with pend := t.orb.pend ++ [(i, .install
        { newEntry t (workSa t i) (bytesToWords 64 b) (romKeyBytes k (keyLen (recSuite (bytesToWords 64 b)))) false 0 0 with
          diag := true })] } }))) ∧
  (∀ h off s b b2 t t2, Accepted (.pkeJob h off) h (.pkeJob off) s →
    readBar2 (.tircy 0) off 0x40 (taken h (.pkeJob off) s) = (some b, t) → jobOk off (jobOf (some (takenId s)) b) = true →
    readBar2 (.tircy 0) off (jobBytes (jobOf (some (takenId s)) b)) t = (some b2, t2) → t2.pke.jobs.length < 65 →
    exec (.pkeJob h off) s = .next (settle
      { t2 with pke := { t2.pke with jobs := t2.pke.jobs ++ [{ jobOf (some (takenId s)) b with ops := b2 }] } }))

/-- SA_INSTALL, SA_REWRITE, SA_ERASE, SA_PIN, SA_UNPIN, SA_IMPORT, GAZ_EDIT and CON_EDIT outside the twin modes: each appends its item,
with the order that waits for it and the present tick, to the host's part of the chore queue, and stays outstanding. The same orders
in the twin modes: SA_ERASE, SA_PIN, SA_UNPIN, GAZ_EDIT and CON_EDIT go into this tick's list instead of the queue, so that both
twins carry them out in one tick (R22, R126, R128, R153, R156, R157, R158, R170, R311). -/
def Obligations.ChoreOrdersQueueTheirItem : Prop :=
  (∀ i h o b s, Accepted i h o s → orderOfCmd i = some (h, o) → twinMode s = false →
    (b = (match o with
      | .saInstall i off n => some (.install i off n false) | .saRewrite i off n => some (.rewrite i off n)
      | .saErase i => some (.erase i) | .saPin i => some (.pin i) | .saUnpin i => some (.unpin i)
      | .saImport i off n => some (.install i off n true) | .gazEdit a => some (.gaz a) | .conEdit a => some (.con a)
      | _ => none)) →
    ∀ c, b = some c →
    exec i s = .next (settle
      { taken h o s with grt := { s.grt with queue := s.grt.queue ++
        [{ part := twinId s, ord := some (takenId s), tick := now s, body := c, stalled := false }] } })) ∧
  (∀ i h o b s, Accepted i h o s → orderOfCmd i = some (h, o) → twinMode s = true →
    (b = (match o with
      | .saErase i => some (.erase i) | .saPin i => some (.pin i) | .saUnpin i => some (.unpin i)
      | .gazEdit a => some (.gaz a) | .conEdit a => some (.con a)
      | _ => none)) →
    ∀ c, b = some c →
    exec i s = .next (settle (listAdd (.chore false (some (takenId s)) c) (taken h o s))))

/-- SURVEY_START, ECL_SCHEDULE, ECL_CANCEL and TSI_SWAP: a Survey starts when none runs; an Eclipse entry whose operands, target and
reservation are right is held for its target; a cancel takes the entry it selects away; a swap is held for its target, between 2
ticks and half the tick range ahead. ALM_ADVANCE and ALM_RENEW: an advance of counters none of which is spent asks each counter of
its mask for the greater of its next epoch and the target; a renewal of a spent counter with nothing bound to it asks for epoch 1 of
its next generation; both wait for the Almanac write; in the twin modes each enters the tick list instead (R140, R220, R221, R229,
R236, R284). -/
def Obligations.ScheduledOrdersAreHeld : Prop :=
  (∀ h b c r s, Accepted (.surveyStart h b c r) h (.surveyStart b c r) s → s.swp.survey = none →
    exec (.surveyStart h b c r) s = .next (settle
      { taken h (.surveyStart b c r) s with
        swp := { s.swp with survey := some { ord := some (takenId s), base := b, count := c, rep := r, active := false, next := 0,
                                             seen := 0, stop := false, doneTick := none } } })) ∧
  (∀ h k i n t f s, Accepted (.eclSchedule h k i n t f) h (.eclSchedule k i n t f) s → twinMode s = false →
    eclJudge s k i n t f = .ok →
    exec (.eclSchedule h k i n t f) s = .next (settle (bump (pg .ecl) 0x200 1
      { taken h (.eclSchedule k i n t f) s with
        ecl := { s.ecl with entries := s.ecl.entries ++
          [{ kind := k, sa := i, new := if k = 0 then n else 0, target := t, floor := if k = 1 then f else 0, ord := some (takenId s),
             active := false, agent := false, doomed := false, gone := false }] } }))) ∧
  (∀ h k i t s e, Accepted (.eclCancel h k i t) h (.eclCancel k i t) s → twinMode s = false → eclSelect s k i t = some e →
    exec (.eclCancel h k i t) s = .next (settle (endOrder (takenId s) .ok 0 (eclCancelOne 0x84 (taken h (.eclCancel k i t) s) e)))) ∧
  (∀ h d t s, Accepted (.tsiSwap h d t) h (.tsiSwap d t) s → twinMode s = false → tsiBad s (dirNum d) = false →
    2 ≤ tdiff t (now s) → tdiff t (now s) ≤ 2 ^ 31 - 1 → (s.tsi.swap.getD (dirNum d) []).any (fun x => x.1 == t) = false →
    exec (.tsiSwap h d t) s = .next (settle
      { taken h (.tsiSwap d t) s with
        tsi := { s.tsi with swap := s.tsi.swap.set (dirNum d) (s.tsi.swap.getD (dirNum d) [] ++ [(t, some (takenId s))]) } })) ∧
  (∀ h m t s, Accepted (.almAdvance h m t) h (.almAdvance m t) s → twinMode s = false →
    (List.range 16).filter (fun c => m.testBit c) ≠ [] →
    ((List.range 16).filter (fun c => m.testBit c)).all (fun c => !(almOf s c).spent) = true →
    exec (.almAdvance h m t) s = .next (settle
      (let u := ((List.range 16).filter (fun c => m.testBit c)).foldl
        (fun u c => almRequest c (max ((almOf u c).epoch + 1) t) u) (taken h (.almAdvance m t) s)
       { u with alm := { u.alm with ords := u.alm.ords ++
         [{ id := takenId s, ctrs := (List.range 16).filter (fun c => m.testBit c), target := t, written := false, failed := false }] } }))) ∧
  (∀ h m t s, Accepted (.almAdvance h m t) h (.almAdvance m t) s → twinMode s = true →
    (List.range 16).filter (fun c => m.testBit c) ≠ [] →
    ((List.range 16).filter (fun c => m.testBit c)).all (fun c => !(almOf s c).spent) = true →
    exec (.almAdvance h m t) s = .next (settle (listAdd (.advance (some (takenId s)) m t) (taken h (.almAdvance m t) s)))) ∧
  (∀ h c s, Accepted (.almRenew h c) h (.almRenew c) s → twinMode s = true → (almOf s c).spent = true → renewing (almOf s c) = false →
    renewListed s c = false → almBound s c = 0 → (almOf s c).noSpare = false → (almOf s c).gen ≠ 0xFFFF →
    exec (.almRenew h c) s = .next (settle (listAdd (.renew (some (takenId s)) c) (taken h (.almRenew c) s)))) ∧
  (∀ h c s, Accepted (.almRenew h c) h (.almRenew c) s → twinMode s = false → (almOf s c).spent = true → renewing (almOf s c) = false →
    renewListed s c = false → almBound s c = 0 → (almOf s c).noSpare = false → (almOf s c).gen ≠ 0xFFFF →
    exec (.almRenew h c) s = .next (settle
      { taken h (.almRenew c) s with
        alm := { s.alm with
          ctrs := s.alm.ctrs.set c { almOf s c with req := some 1, renew := true }
          ords := s.alm.ords ++ [{ id := takenId s, ctrs := [c], target := 0, written := false, failed := false }] } }))

/-- TWIN_ARBITRATE, TWIN_SWITCHBACK and DIAG_LOOPBACK: an arbitration enters this tick's list; a switchback with its peer waiting asks
for the alignment; a diagnostic loopback sets its unit's mode and ends with OK, or with ARG for a unit that does not exist (R60,
R330, R334). -/
def Obligations.TwinAndDiagnosticOrdersTakeEffect : Prop :=
  (∀ h r s, Accepted (.twinArbitrate h r) h (.twinArbitrate r) s →
    exec (.twinArbitrate h r) s = .next (settle (listAdd (.arbitrate (some (takenId s)) r) (taken h (.twinArbitrate r) s)))) ∧
  (∀ h s, Accepted (.twinSwitchback h) h .twinSwitchback s → s.twin.present = true → s.twin.peerPhase = 3 → s.twin.alignReq = false →
    s.twin.alignFixed = false →
    exec (.twinSwitchback h) s = .next (settle
      { taken h .twinSwitchback s with twin := { s.twin with alignReq := true, alignOrd := some (takenId s) } })) ∧
  (∀ h m n side s, Accepted (.diagLoopback h m n 0 side) h (.diagLoopback m n 0 side) s → n < 16 →
    exec (.diagLoopback h m n 0 side) s = .next (settle (endOrder (takenId s) .ok 0
      (portLoop side n m (taken h (.diagLoopback m n 0 side) s))))) ∧
  (∀ h m n side s, Accepted (.diagLoopback h m n 1 side) h (.diagLoopback m n 1 side) s → n < 8 →
    exec (.diagLoopback h m n 1 side) s = .next (settle (endOrder (takenId s) .ok 0 (hwyLoop n m (taken h (.diagLoopback m n 1 side) s))))) ∧
  (∀ h m n side s, Accepted (.diagLoopback h m n 2 side) h (.diagLoopback m n 2 side) s →
    exec (.diagLoopback h m n 2 side) s = .next (settle (endOrder (takenId s) .ok 0 (oldLoop m (taken h (.diagLoopback m n 2 side) s))))) ∧
  (∀ h m n side s, Accepted (.diagLoopback h m n 3 side) h (.diagLoopback m n 3 side) s →
    exec (.diagLoopback h m n 3 side) s = .next (settle (endOrder (takenId s) .arg 0 (taken h (.diagLoopback m n 3 side) s))))

/-- ORDER_TAKE and COMPLETION_POST: Tircy reads the descriptor at SQ_HEAD, passes its slot and judges the order it spells; the oldest
order that has ended is posted as a record of 16 bytes at CQ_TAIL, which advances (R411, R412, R415, R416). -/
def Obligations.RingsMoveOrdersAndCompletions : Prop :=
  (∀ s b t, takeRoom s = true → s.ords.sqHead ≠ s.ords.sqTail → behaviour s 3 = false →
    readBar2 (.tircy 0) (sqSlot s s.ords.sqHead) 64 s = (some b, t) →
    mayTake s (bit ((bytesToWords 16 (b ++ zeros (64 - b.length))).getD 0 0) 17)
      (orderOf (bytesToWords 16 (b ++ zeros (64 - b.length)))) = true →
    exec .orderTake s = .next (settle (runOrder
      { tag := (bytesToWords 16 (b ++ zeros (64 - b.length))).getD 1 0
        int := bit ((bytesToWords 16 (b ++ zeros (64 - b.length))).getD 0 0) 16
        fence := bit ((bytesToWords 16 (b ++ zeros (64 - b.length))).getD 0 0) 17 }
      (orderOf (bytesToWords 16 (b ++ zeros (64 - b.length))))
      { t with ords := { t.ords with sqHead := t.ords.sqHead + 1 } }))) ∧
  (∀ s e rest t, ordEn s = true → ringsHeld s = false → s.ords.ended = e :: rest →
    writeBar2 (.tircy 0) ((getReg s (ra (pg .ord) 0x114)).toNat + s.ords.cqTail.toNat % cqSlots s * 16)
      (wordsToBytes (complWords e s.ords.cqTail.toNat (cqSlots s))) s = (true, t) →
    exec .completionPost s = .next (settle (eventIf e.int (pg .ord) 1 (bump (pg .ord) 0x208 1 (bump (pg .ord) (statusCtr e.status) 1
      { t with ords := { t.ords with ended := rest, cqTail := t.ords.cqTail + 1 } })))))

/-! ### Reset, supplies, boot and monitors -/

/-- PORST_N, SYSRST_N, THERMAL_TRIP and WATCHDOG take a reset from any mode but LUNAR and RESET: each logs the reset entry with its
cause and leaves the device in RESET, held by its pin or its hold (after WATCHDOG, whose pins are high, in BOOT), nothing
outstanding, no frame held and the memory gone; PORST_N also clears the channels' training; in RESET a falling pin is logged and
still held. PORST_N, SYSRST_N, THERMAL_RELEASE and SUPPLY_RELEASE end RESET when the last thing that held it goes: the device is in
BOOT with its clock running from tick 0, and PORST_N and the supplies' release latch the straps (R37, R52, R455, R473, R486, R491). -/
def Obligations.ResetIsTakenAndReleased : Prop :=
  (∀ st s t, st < 16 → Awake s → s.dev.porst = true →
    t = (let u := resetState false .reset 0x01 (resetEntry 0x01 s);
         { u with chans := State.reset.chans, dev := { u.dev with porst := false, holdSupply := false } }) →
    exec (.porstN false st) s = .next (settle t) ∧ t.dev.mode = .reset ∧ t.dev.cause = 0x01 ∧ t.dev.porst = false ∧
      t.ords.outs = [] ∧ t.frames = State.reset.frames ∧ t.mem = []) ∧
  (∀ s t, Awake s → s.dev.sysrst = true →
    t = (let u := resetState true .reset 0x02 (resetEntry 0x02 s);
         { u with dev := { u.dev with sysrst := false } }) →
    exec (.sysrstN false) s = .next (settle t) ∧ t.dev.mode = .reset ∧ t.dev.cause = 0x02 ∧ t.dev.sysrst = false ∧
      t.ords.outs = [] ∧ t.frames = State.reset.frames ∧ t.mem = []) ∧
  (∀ s, s.dev.mode = .reset → s.dev.sysrst = true →
    exec (.sysrstN false) s = .next (settle
      (let u := resetEntry 0x02 s;
       { u with dev := { u.dev with sysrst := false } }))) ∧
  (∀ n s t, Awake s → n < 8 →
    t = (let u := resetState true .reset 0x15 (resetEntry 0x15 s);
         { u with dev := { u.dev with holdThermal := true } }) →
    exec (.thermalTrip n) s = .next (settle t) ∧ t.dev.mode = .reset ∧ t.dev.cause = 0x15 ∧ t.dev.holdThermal = true ∧
      t.ords.outs = [] ∧ t.frames = State.reset.frames ∧ t.mem = []) ∧
  (∀ s t, Awake s → s.dev.supply = true → s.dev.porst = true → s.dev.sysrst = true → s.dev.holdThermal = false →
    s.dev.holdSupply = false → t = enterBoot (resetState true .reset 0x04 (resetEntry 0x04 s)) →
    exec .watchdog s = .next (settle t) ∧ t.dev.mode = .boot ∧ t.dev.cause = 0x04 ∧
      t.ords.outs = [] ∧ t.frames = State.reset.frames ∧ t.mem = []) ∧
  (∀ st s t, st < 16 → s.dev.mode = .reset → s.dev.supply = true → s.dev.sysrst = true → s.dev.holdThermal = false →
    s.dev.holdSupply = false → s.dev.porst = false → t = enterBoot (latchStraps st { s with dev := { s.dev with porst := true } }) →
    exec (.porstN true st) s = .next (settle t) ∧ t.dev.mode = .boot ∧ t.dev.strap = st ∧ t.time.run = true ∧ t.time.tick = 0 ∧
      t.time.cyc = 0) ∧
  (∀ s t, s.dev.mode = .reset → s.dev.supply = true → s.dev.porst = true → s.dev.holdThermal = false → s.dev.holdSupply = false →
    s.dev.sysrst = false → t = enterBoot { s with dev := { s.dev with sysrst := true } } →
    exec (.sysrstN true) s = .next (settle t) ∧ t.dev.mode = .boot ∧ t.time.run = true ∧ t.time.tick = 0 ∧ t.time.cyc = s.time.cyc) ∧
  (∀ s t, s.dev.mode = .reset → s.dev.supply = true → s.dev.porst = true → s.dev.sysrst = true → s.dev.holdSupply = false →
    t = enterBoot { s with dev := { s.dev with holdThermal := false } } →
    exec .thermalRelease s = .next (settle t) ∧ t.dev.mode = .boot ∧ t.dev.holdThermal = false ∧ t.time.run = true ∧ t.time.tick = 0) ∧
  (∀ st s t, st < 16 → s.dev.mode = .reset → s.dev.supply = true → s.dev.porst = true → s.dev.sysrst = true → s.dev.holdThermal = false →
    s.dev.holdSupply = true → t = enterBoot (latchStraps st { s with dev := { s.dev with holdSupply := false } }) →
    exec (.supplyRelease st) s = .next (settle t) ∧ t.dev.mode = .boot ∧ t.dev.strap = st ∧ t.time.run = true ∧ t.time.tick = 0)

/-- SUPPLY_LOSS, SUPPLY_VALID, VBAT_LOSS, PCIE_PERST_N and PCIE_LINK_DOWN: without its supplies the device is in LUNAR with everything
at its reset value but what LUNAR keeps; valid supplies log the reset entry with unknown counts and bring it to RESET, held where
PORST_N is high; the loss of VBAT alone is only noted, and clears VBAT_OK; PERST_N low and a link that falls take the host's link
away and nothing else. BOOT_SEQUENCE: with no sound image Tircy waits in BOOT with cause 0x07 for an image; with one it runs the
greater ARB, and then the greater version, starts the agents, recovers the Almanac, brings up the sealed path and leaves BOOT (R50,
R396, R408, R474, R478, R489, R491). -/
def Obligations.SuppliesLinkAndBootFollowTheirEvents : Prop :=
  (∀ s, s.dev.supply = true → s.lun.declared = [] → s.dev.vbat = true →
    exec .supplyLoss s = .next (settle (resetState false .lunar 0x05
      { s with dev := { s.dev with supply := false, holdThermal := false, holdSupply := false } }))) ∧
  (∀ s c u, s.dev.supply = false → c = (if s.lun.vbatLost then 0x00 else 0x05) →
    u = resetUnknown c { s with dev := { s.dev with supply := true } } →
    exec .supplyValid s = .next (settle (event (pg .sys) 0
      { u with dev := { s.dev with supply := true, mode := .reset, prev := .lunar, cause := c, holdSupply := s.dev.porst } }))) ∧
  (∀ s, s.dev.supply = true → exec .vbatLoss s = .next (settle { s with dev := { s.dev with vbat := false, vbatOk := false } })) ∧
  (∀ s, s.dev.supply = false → exec .vbatLoss s = .next (settle (lunLost { s with dev := { s.dev with vbat := false, vbatOk := false } }))) ∧
  (∀ l s, exec (.pciePerstN l) s = .next (settle { s with dev := { s.dev with perst := l, pcieUp := s.dev.pcieUp && l } })) ∧
  (∀ s, Awake s → s.dev.perst = true → exec (.pcieLinkDown true) s = .next (settle { s with dev := { s.dev with pcieUp := true } })) ∧
  (∀ s, exec (.pcieLinkDown false) s = .next (settle { s with dev := { s.dev with pcieUp := false } })) ∧
  (∀ inp s, (Instr.bootSequence inp).wf = true → s.dev.mode = .boot → s.dev.bootWait = false → s.sealPath.initDone = false →
    bootChoice (bootSlot (bootRng inp.rngFails s) inp.imgA) (bootSlot (bootRng inp.rngFails s) inp.imgB) = none →
    exec (.bootSequence inp) s = .next (settle
      (let u := bootRng inp.rngFails s;
       { u with
         fwu := { u.fwu with slots := [bootSlot u inp.imgA, bootSlot u inp.imgB] }
         dev := { u.dev with noImage := true, bootWait := true, cause := 0x07 } }))) ∧
  (∀ inp s n, (Instr.bootSequence inp).wf = true → s.dev.mode = .boot → s.dev.bootWait = false → s.sealPath.initDone = false →
    bootChoice (bootSlot (bootRng inp.rngFails s) inp.imgA) (bootSlot (bootRng inp.rngFails s) inp.imgB) = some n →
    exec (.bootSequence inp) s = .next (settle
      (let u := bootRng inp.rngFails s
       let v := { u with
         fwu := { u.fwu with slots := [bootSlot u inp.imgA, bootSlot u inp.imgB], running := n }
         dev := { u.dev with noImage := false, chartRead := true }
         hlt := { u.hlt with agents := u.hlt.agents.map (fun x => { x with running := true }) } }
       let w := (List.range 16).foldl (almBootOne inp.almFails) (readyPages (fun k => k == .plain || k == .line || k == .hwy || k == .old) v)
       bootLeave (bootStore (bootSeal inp (setReady (pg .alm) w))))))

/-- LUNAR_SAMPLE and ALARM: a tamper sample of a sampled sensor counts towards its filter and clears the clean count, and one that
reaches the filter declares the sensor; a clean sample goes the other way about; a sensor that is not sampled changes nothing;
declared alarms of sources whose response is log and interrupt only are each logged and raise their sources' events. HEALTH_SAMPLE,
DRBG_RESEED and RNG_HEALTH_WINDOW: a sample within every limit of a monitor that warns of nothing is its new value; a generator that
has served 2^20 requests or is 8,000 ticks past its seed is reseeded; a failed window is counted and raises its event, and a clean
one starts the count of failures again. AGENT_RESTART, SMBUS_READ, SMBUS_WRITE and DEBUG_TOKEN: a silent agent's cores are stopped
and logged with bit 31 and their core; a read is answered with the command's bytes and a write refused with NACK, both while the
device is powered and out of PORST_N; a valid token of an enrolled owner switches debug on and enables the regions it names (R391,
R400, R401, R451, R452, R455, R463, R467). -/
def Obligations.MonitorsGeneratorAndManagementEventsTakeEffect : Prop :=
  (∀ n v k s, n < 9 → n ≠ 6 → v < 2 ^ 16 → sampledNow s n = true → tamperSample s n v = true →
    k = min 255 (s.lun.tamper.getD n 0 + 1) → (s.lun.alarm.testBit n = true ∨ k < lunFilter s n) →
    exec (.lunarSample n v) s = .next (settle
      (let u := if s.dev.supply then bump (pg .lun) 0x208 1 s else s;
       { u with lun := { s.lun with tamper := s.lun.tamper.set n k, clean := s.lun.clean.set n 0 } }))) ∧
  (∀ n v k s, n < 9 → n ≠ 6 → v < 2 ^ 16 → sampledNow s n = true → tamperSample s n v = true →
    k = min 255 (s.lun.tamper.getD n 0 + 1) → s.lun.alarm.testBit n = false → lunFilter s n ≤ k →
    exec (.lunarSample n v) s = .next (settle (declareSensor n
      (let u := if s.dev.supply then bump (pg .lun) 0x208 1 s else s;
       { u with lun := { s.lun with tamper := s.lun.tamper.set n k, clean := s.lun.clean.set n 0 } })))) ∧
  (∀ n v s, n < 9 → n ≠ 6 → v < 2 ^ 16 → sampledNow s n = true → tamperSample s n v = false → s.lun.alarm.testBit n = false →
    exec (.lunarSample n v) s = .next (settle
      { s with lun := { s.lun with tamper := s.lun.tamper.set n 0, clean := s.lun.clean.set n (min 255 (s.lun.clean.getD n 0 + 1)) } })) ∧
  (∀ n v s, n < 9 → n ≠ 6 → v < 2 ^ 16 → sampledNow s n = false →
    exec (.lunarSample n v) s = .next (settle s)) ∧
  (∀ ds s, (List.range 13).filter s.lun.declared.contains = ds → ds ≠ [] → s.dev.supply = true →
    (∀ n ∈ ds, bit (lunResp s n) 2 = false ∧ bit (lunResp s n) 3 = false ∧ bit (lunResp s n) 4 = false) →
    exec .alarm s = .next (settle (ds.foldl (fun z n => eventIf (bit (lunResp s n) 1) (pg .lun) n z)
      (ds.foldl (fun s n => logEvent 0x05 [wd n] s) { s with lun := { s.lun with declared := [] } })))) ∧
  (∀ n v s, n < 24 → v < 2 ^ 32 → s.dev.supply = true → s.hlt.mons.getD n Monitor.init = { Monitor.init with value := 0 } →
    (∀ c, outsideLimit s n c false (signed 32 v) = false) →
    exec (.healthSample n v) s = .next (settle
      (let ms := s.hlt.mons.set n { Monitor.init with value := signed 32 v }
       vbatSample n (signed 32 v)
        { s with hlt := { s.hlt with mons := ms }, dev := { s.dev with health := ms.any (fun m => m.crit) } }))) ∧
  (∀ s, s.rng.st = 1 → (2 ^ 20 ≤ s.rng.reqs ∨ 8000 ≤ tdiff (now s) s.rng.seedTick) →
    exec .drbgReseed s = .next (settle (bump (pg .rng) 0x210 1 { s with rng := { s.rng with reqs := 0, seedTick := now s } }))) ∧
  (∀ s, Awake s → s.rng.st ≠ 0 → exec (.rngHealthWindow false false) s = .next (settle { s with rng := { s.rng with failed := 0 } })) ∧
  (∀ a b s, Awake s → s.rng.st ≠ 0 → a || b → s.rng.failed + 1 ≠ 3 →
    exec (.rngHealthWindow a b) s = .next (settle (event (pg .rng) 0
      (let u := bump (pg .rng) 0x208 (b2n b) (bump (pg .rng) 0x200 (b2n a) s);
       { u with rng := { s.rng with failed := s.rng.failed + 1 } })))) ∧
  (∀ a b s, Awake s → s.rng.st = 1 → a || b → s.rng.failed = 2 →
    exec (.rngHealthWindow a b) s = .next (settle (rngFault (event (pg .rng) 0
      (let u := bump (pg .rng) 0x208 (b2n b) (bump (pg .rng) 0x200 (b2n a) s);
       { u with rng := { s.rng with failed := 3 } }))))) ∧
  (∀ c s, c < 64 → Awake s → (agentOf s c).isSome = true →
    exec (.agentRestart c) s = .next (settle (stopAgent c [wd (2 ^ 31 + c)] s))) ∧
  (∀ c s, c < 256 → s.dev.supply = true → s.dev.porst = true →
    exec (.smbusRead c) s = .next (settle { s with out := s.out ++ [.smbus (smbusData s c)] })) ∧
  (∀ c s, c < 256 → s.dev.supply = true → s.dev.porst = true →
    exec (.smbusWrite c) s = .next (settle
      (let u := bump (pg .hlt) 0x228 1 s;
       { u with out := s.out ++ [.nack] }))) ∧
  (∀ rs s, Awake s → s.keys.owner.isSome = true → (∀ x ∈ rs, x < 64) →
    exec (.debugToken true rs) s = .next (settle (rs.foldl enableDebug { s with keys := { s.keys with debugOn := true } })))

/-- The test access port: SAMPLE/PRELOAD, DAP and BYPASS, and with PORST_N low EXTEST, EXTEST_PULSE, EXTEST_TRAIN, CLAMP and HIGHZ,
become the instruction in force; with PORST_N high those of the boundary register act as BYPASS; IDCODE also shifts out the device's
code (R487, R488). -/
def Obligations.TestPortLoadsItsInstruction : Prop :=
  (∀ i op s, s.dev.supply = true → s.dev.porst = false →
    (i, op) ∈ [(Instr.extest, 0x00), (.extestPulse, 0x03), (.extestTrain, 0x04), (.clamp, 0x05), (.highz, 0x06)] →
    exec i s = .next (settle { s with tap := { s.tap with ir := op }, out := s.out ++ [.tap op] })) ∧
  (∀ i op s, s.dev.supply = true → s.dev.porst = true →
    (i, op) ∈ [(Instr.extest, 0x00), (.extestPulse, 0x03), (.extestTrain, 0x04), (.clamp, 0x05), (.highz, 0x06)] →
    exec i s = .next (settle { s with tap := { s.tap with ir := 0xFF }, out := s.out ++ [.tap 0xFF] })) ∧
  (∀ s, s.dev.supply = true →
    exec .samplePreload s = .next (settle { s with tap := { ir := 0x02, preload := true }, out := s.out ++ [.tap 0x02] })) ∧
  (∀ s, s.dev.supply = true → exec .dap s = .next (settle { s with tap := { s.tap with ir := 0x20 }, out := s.out ++ [.tap 0x20] })) ∧
  (∀ s, s.dev.supply = true → exec .bypass s = .next (settle { s with tap := { s.tap with ir := 0xFF }, out := s.out ++ [.tap 0xFF] })) ∧
  (∀ s, s.dev.supply = true →
    exec .idcode s = .next (settle { s with tap := { s.tap with ir := 0x01 }, out := s.out ++ [.tap 0x01] ++ [.data (leBytes 4 0x10D3258B)] }))

/-- ERRATA_RECORD, SUMMARY_FLUSH and SAMPLE_RECORD: the oldest waiting failure is written to the ring, counted by its kind, while no
summary is open and there is room, and joins its reason's summary otherwise; the summaries go out as pairs once 1,024 slots are
free; the oldest sample goes to its ring with SMP_PROD as its last word, or is counted as lost in a full one (R421, R425, R466). -/
def Obligations.RecordsReachTheirRings : Prop :=
  (∀ r rest s t, s.era.wait = r :: rest → ringsHeld s = false → eraEn s = true → s.era.sums = [] → eraHeld s < 65536 →
    eraPut r 0 1 (ended r { s with era := { s.era with wait := rest } }) = (true, t) →
    exec .errataRecord s = .next (settle t)) ∧
  (∀ r rest s, s.era.wait = r :: rest → ringsHeld s = false → (eraEn s = false ∨ s.era.sums ≠ [] ∨ 65536 ≤ eraHeld s) →
    exec .errataRecord s = .next (settle (summarise r (ended r { s with era := { s.era with wait := rest } })))) ∧
  (∀ s, eraEn s = true → s.era.sums ≠ [] → eraHeld s + 1024 ≤ 65536 → ringsHeld s = false →
    exec .summaryFlush s = .next (settle ((s.era.sums.map (·.1)).foldl flushOne s))) ∧
  (∀ r rest s t, s.smp.wait = r :: rest → tdiff s.smp.prod s.smp.cons < 4096 →
    writeBar2 .record ((getReg s (ra (pg .smp) 0x104)).toNat + s.smp.prod.toNat % 4096 * 64)
      (wordsToBytes ((List.range 15).map (fun k => r.words.getD k 0) ++ [s.smp.prod]))
      { s with smp := { s.smp with wait := rest } } = (true, t) →
    exec .sampleRecord s = .next (settle (bump (pg .smp) 0x200 1 { t with smp := { t.smp with prod := t.smp.prod + 1 } }))) ∧
  (∀ r rest s, s.smp.wait = r :: rest → 4096 ≤ tdiff s.smp.prod s.smp.cons →
    exec .sampleRecord s = .next (settle (event (pg .smp) 1 (bump (pg .smp) 0x208 1 { s with smp := { s.smp with wait := rest } }))))

/-- PPS_CAPTURE, TRIG_PULSE, SERVO_CHANGE, RTC_LOAD and MER_STEP_PPS_TIMEOUT: an enabled pulse that comes half a second or more after
the last one is captured with its signed distance from the second, it measures the offset under SRC = PPS, and in CONFIGURE it
completes the step that waits for it; an armed Trig's pulse rises at its time, is counted and raises its event, and its next time is
a period on; a measurement on a port that ends PTP is taken with the port's asymmetry off it, and a loss of the PTP source ends
LOCKED in PAIR or HOLDOVER; the real-time clock takes Meridian's second; and it is the effect of MER_STEP_PPS_TIMEOUT that every
step whose pulse stays away for 2 s ends with FAULT and is no longer waiting, and no other (R340, R346, R348, R349, R397). -/
def Obligations.MeridianEventsTakeEffect : Prop :=
  (∀ s c, bit (getReg s (ra (pg .mer) 0x14C)) 0 = true → s.mer.step = [] →
    s.mer.ppsLast.any (fun t => decide (s.time.mer < t + 500000000 * nsUnit)) = false →
    c = adriftUpdate { s with mer := { s.mer with ppsAt := some s.time.mer, ppsLast := some s.time.mer, ppsErr := ppsError s, ppsAge := 0 } } →
    exec .ppsCapture s = .next (settle (event (pg .mer) 2 (bump (pg .mer) 0x320 1
      (if merSrc s = 1 then servoMeasure (ppsError s) c else c))))) ∧
  (∀ s c o sec t, bit (getReg s (ra (pg .mer) 0x14C)) 0 = true → s.mer.step = [(o, sec, t)] → s.time.mer < t + 2000000000 * nsUnit →
    s.mer.ppsLast.any (fun t => decide (s.time.mer < t + 500000000 * nsUnit)) = false → s.dev.mode = .configure → merSrc s ≠ 1 →
    c = event (pg .mer) 2 (bump (pg .mer) 0x320 1 (adriftUpdate
      { s with mer := { s.mer with ppsAt := some s.time.mer, ppsLast := some s.time.mer, ppsErr := ppsError s, ppsAge := 0 } })) →
    exec .ppsCapture s = .next (settle (stepMer o (sec * 1000000000 * nsUnit) { c with mer := { c.mer with step := [] } }))) ∧
  (∀ k t s, k < 4 → (trgOf (trgEnd s) k).next = some t → trgArmed (trgEnd s) k = true → t ≤ (advanceMer t (trgEnd s)).time.mer →
    exec (.trigPulse k) s = .next (settle
      (let u := advanceMer t (trgEnd s)
       trgPin k true (event (pg .trg) k (bump (pg .trg) (0x200 + 8 * k) 1
        (modTrg k (fun x => { x with
          pulsing := true, endAt := t + trgWidth u k, next := if trgPeriodic u k then some (t + trgPeriod u k) else none }) u)))))) ∧
  (∀ n page off s, (n < 16 ∧ page = pg .plain n) ∨ (16 ≤ n ∧ n < 32 ∧ page = pg .line (n - 16)) → merSrc s ≠ 1 →
    bit (cfgReg s (ra page 0x108)) 2 = true →
    exec (.servoChange (some n) off) s = .next (settle (servoMeasure
      (Int.tdiv (off - (getReg s (ra (pg .mer) (0x180 + 4 * n))).toInt) 65536) s))) ∧
  (∀ off s, merSrc s = 0 → s.mer.servo = 2 → pairOk s = true →
    exec (.servoChange none off) s = .next (settle (adriftUpdate (servoTo 4 s)))) ∧
  (∀ off s, merSrc s = 0 → s.mer.servo = 2 → pairOk s = false →
    exec (.servoChange none off) s = .next (settle (adriftUpdate (servoTo 3 (rateHold s))))) ∧
  (∀ s, s.dev.supply = true → s.time.stepped = true → s.time.run = true → tickStart s % (1000000000 * nsUnit) = 0 →
    exec .rtcLoad s = .next (settle
      { s with lun := { s.lun with rtcSec := wd (tickStart s / nsUnit / 1000000000), rtcFrac := 0, rtcSet := true } })) ∧
  (∀ o n t s, s.mer.step = [(o, n, t)] → t + 2000000000 * nsUnit ≤ s.time.mer →
    exec .merStepPpsTimeout s = .next (settle (endOrder o .fault 0 { s with mer := { s.mer with step := [] } }))) ∧
  (∀ s, exec .merStepPpsTimeout s = .next (settle
    ((s.mer.step.filter (fun x => decide (x.2.2 + 2000000000 * nsUnit ≤ s.time.mer))).foldl (fun u x => endOrder x.1 .fault 0 u)
      { s with mer := { s.mer with step := s.mer.step.filter (fun x => decide (s.time.mer < x.2.2 + 2000000000 * nsUnit)) } })))

/-! ### Frames, ports and pipelines -/

/-- PLAIN_FRAME_RX and LINE_FRAME_RX: at an open MAC a frame of EtherType 0x8808 is counted as MAC control and goes no further; one that
the closed MAC does not let in, or that CONFIGURE and TWIN_JOIN do not take as control, is counted as not admitted; every other
passes its side's stages with the grant the partition gives it, a plain one after the sequence recovery of its R-TAG, which counts a
repeated one as not admitted; a port in a near-end loopback ignores its wire. FRAME_STOMP and TRANSIT_LAUNCH: a frame still arriving
that turns out bad is counted by its port and discarded or stomped; a frame whose entry opens, ready and first of its entry, is
launched and counted on time or, within its tolerance, late; one that is not ready when its tolerance has passed is discarded (R7,
R15, R33, R34, R119, R253). -/
def Obligations.ReceivedAndTimedFramesPassTheirStages : Prop :=
  (∀ p clk b e x s t, (Instr.plainFrameRx p clk b e x).wf = true → t = atPort .plain p clk e s → portOn t .plain p = true →
    loopMode t .plain p = 0 → macOpen t .plain p = false →
    exec (.plainFrameRx p clk b e x) s = .next (settle (bump (pg .plain p) 0x228 1 t))) ∧
  (∀ p clk b e x s t, (Instr.plainFrameRx p clk b e x).wf = true → t = atPort .plain p clk e s → portOn t .plain p = true →
    loopMode t .plain p = 0 → macOpen t .plain p = true → etherType b = 0x8808 → hasType b = true →
    exec (.plainFrameRx p clk b e x) s = .next (settle
      (if controlOnly t then portBump .plain p 0x228 1 (bump (pg .plain p) 0x240 1 t) else bump (pg .plain p) 0x240 1 t))) ∧
  (∀ p clk b c e x s t u, (Instr.plainFrameRx p clk b e x).wf = true → t = atPort .plain p clk e s → portOn t .plain p = true →
    loopMode t .plain p = 0 → macOpen t .plain p = true → etherType b ≠ 0x8808 → rtagElim p b t = (some c, u) →
    controlOnly u = false →
    exec (.plainFrameRx p clk b e x) s = .next (settle
      (plainStages p c e.atMac x (grant (rxStart .plain p c.length x u) .plain p x) (rxStart .plain p c.length x u)))) ∧
  (∀ p clk b c e x s t u, (Instr.plainFrameRx p clk b e x).wf = true → t = atPort .plain p clk e s → portOn t .plain p = true →
    loopMode t .plain p = 0 → macOpen t .plain p = true → etherType b ≠ 0x8808 → rtagElim p b t = (some c, u) →
    controlOnly u = true → (hasType c && isControl u .plain p c) = false →
    exec (.plainFrameRx p clk b e x) s = .next (settle (portBump .plain p 0x228 1 u))) ∧
  (∀ p clk b e x s t u, (Instr.plainFrameRx p clk b e x).wf = true → t = atPort .plain p clk e s → portOn t .plain p = true →
    loopMode t .plain p = 0 → macOpen t .plain p = true → etherType b ≠ 0x8808 → rtagElim p b t = (none, u) →
    exec (.plainFrameRx p clk b e x) s = .next (settle (portBump .plain p 0x228 1 u))) ∧
  (∀ p clk b e x s t, (Instr.plainFrameRx p clk b e x).wf = true → t = atPort .plain p clk e s → portOn t .plain p = true →
    loopMode t .plain p = 1 ∨ loopMode t .plain p = 2 →
    exec (.plainFrameRx p clk b e x) s = .next (settle t)) ∧
  (∀ p clk b e x s t, (Instr.lineFrameRx p clk b e x).wf = true → t = atPort .line p clk e s → portOn t .line p = true →
    loopMode t .line p = 0 → macOpen t .line p = false →
    exec (.lineFrameRx p clk b e x) s = .next (settle (bump (pg .line p) 0x228 1 t))) ∧
  (∀ p clk b e x s t, (Instr.lineFrameRx p clk b e x).wf = true → t = atPort .line p clk e s → portOn t .line p = true →
    loopMode t .line p = 0 → macOpen t .line p = true → etherType b = 0x8808 → hasType b = true →
    exec (.lineFrameRx p clk b e x) s = .next (settle
      (if controlOnly t then portBump .line p 0x228 1 (bump (pg .line p) 0x240 1 t) else bump (pg .line p) 0x240 1 t))) ∧
  (∀ p clk b e x s t u, (Instr.lineFrameRx p clk b e x).wf = true → t = atPort .line p clk e s → portOn t .line p = true →
    loopMode t .line p = 0 → macOpen t .line p = true → etherType b ≠ 0x8808 → controlOnly t = false → u = rxStart .line p b.length x t →
    exec (.lineFrameRx p clk b e x) s = .next (settle
      (if e = .cut then holdRx .line (grant u .line p x) (arriving u .dec p b none true x) u
       else lineStages p b e.atMac x (grant u .line p x) u))) ∧
  (∀ p clk b e x s t, (Instr.lineFrameRx p clk b e x).wf = true → t = atPort .line p clk e s → portOn t .line p = true →
    loopMode t .line p = 0 → macOpen t .line p = true → etherType b ≠ 0x8808 → controlOnly t = true →
    (hasType b && isControl t .line p b) = false →
    exec (.lineFrameRx p clk b e x) s = .next (settle (bump (pg .line p) 0x228 1 t))) ∧
  (∀ p clk b e x s t, (Instr.lineFrameRx p clk b e x).wf = true → t = atPort .line p clk e s → portOn t .line p = true →
    loopMode t .line p = 1 ∨ loopMode t .line p = 2 →
    exec (.lineFrameRx p clk b e x) s = .next (settle t)) ∧
  (∀ id f s, frameOf s id = some f → f.receiving = true → f.bad = none →
    exec (.frameStomp id 0x03) s = .next (settle (endBad f 0x03 0 (portBump (inSide f.dir) f.port 0x210 1 s)))) ∧
  (∀ id f s, frameOf s id = some f → f.receiving = true → f.bad = none →
    exec (.frameStomp id 0x04) s = .next (settle (endBad f 0x04 0 (portBump (inSide f.dir) f.port 0x220 1 s)))) ∧
  (∀ id clk f n at_ s t b u, (Instr.transitLaunch id clk).wf = true → t = frameTime clk s → frameOf t id = some f →
    f.launch = some (n, at_) → at_ ≤ t.time.mer + 2 * nsUnit → launchBehind t f n = false → f.stage ≠ .emitting → egressUp t f = true →
    frameReady t f = true → clearWire t f.dir (emitPorts t f) (some at_) = some (b, u) → b ≤ at_ + 2 * nsUnit →
    exec (.transitLaunch id clk) s = .next (settle (countLaunch f n false (beginTx f b u)))) ∧
  (∀ id clk f n at_ s t b u, (Instr.transitLaunch id clk).wf = true → t = frameTime clk s → frameOf t id = some f →
    f.launch = some (n, at_) → at_ ≤ t.time.mer + 2 * nsUnit → launchBehind t f n = false → f.stage ≠ .emitting → egressUp t f = true →
    frameReady t f = true → clearWire t f.dir (emitPorts t f) (some at_) = some (b, u) → at_ + 2 * nsUnit < b → (lateRule t n).2 = false →
    b ≤ at_ + (lateRule t n).1 * nsUnit →
    exec (.transitLaunch id clk) s = .next (settle (countLaunch f n true (beginTx f b u)))) ∧
  (∀ id clk f n at_ s t, (Instr.transitLaunch id clk).wf = true → t = frameTime clk s → frameOf t id = some f →
    f.launch = some (n, at_) → at_ ≤ t.time.mer → at_ + (lateRule t n).1 * nsUnit < t.time.mer → frameReady t f = false →
    launchBehind t f n = false → f.stage ≠ .emitting → egressUp t f = true →
    exec (.transitLaunch id clk) s = .next (settle (lateDiscard f n t)))

/-- FRAME_ADMIT, DISPATCH and EGRESS_BEGIN: the first Polar frame that may be admitted is admitted before the oldest of the others; the
oldest ready Polar frame is dispatched when its gang is free, and with none ready the oldest other one when its gang is free and
leaves the express reserve; a Polar frame at the head of its queue that is ready begins as soon as its wires are clear; without one,
the port's Tropic or Comet frame begins on a free wire. ORBIT_FILL_DONE and GANG_FINISH: a fill whose home block's tag or bus check
fails stops its SA, one that reads the record it should installs it; a finished Encrypt frame frees its gang and queues for its
port; a Decrypt frame with an ICV unit fault retires its lowest pipeline, and with none is verified (R104, R152, R193, R194, R243). -/
def Obligations.FramesMoveThroughTheEngine : Prop :=
  (∀ d f s, firstOf ((slotWaiters s d).filter (fun f => mayAdmit s d f.cls && f.cls == 0)) = some f →
    exec (.frameAdmit d) s = .next (settle (admitFrame f.id s))) ∧
  (∀ d f s, (∀ x ∈ slotWaiters s d, mayAdmit s d x.cls = true → x.cls ≠ 0) →
    firstOf ((slotWaiters s d).filter (fun f => mayAdmit s d f.cls)) = some f →
    exec (.frameAdmit d) s = .next (settle (admitFrame f.id s))) ∧
  (∀ d f s, (s.frames.list.filter (fun f => f.dir == d && f.stage == .ready && (d == .enc || arrived s f))).find? (fun f => f.cls == 0) = some f →
    gangSize s f ≤ (freePipes s (dirNum d)).length →
    exec (.dispatch d) s = .next (settle (dispatchFrame f s))) ∧
  (∀ d l f r s, s.frames.list.filter (fun f => f.dir == d && f.stage == .ready && (d == .enc || arrived s f)) = l → l = f :: r →
    (∀ x ∈ l, x.cls ≠ 0) → gangSize s f ≤ (freePipes s (dirNum d)).length →
    (frameBlocks f ≤ 16 ∨ xres s d + gangSize s f ≤ expressOpen s (dirNum d)) →
    exec (.dispatch d) s = .next (settle (dispatchFrame f s))) ∧
  (∀ side p clk f s t at_ u, (Instr.egressBegin side p clk).wf = true →
    t = egressFirst side p ([0, 1, 2].foldl (fun s c => pruneQueue (dirOut side) p c s.frames.list.length s) (frameTime clk s)) →
    (classQueue t (dirOut side) p 0).head? = some f → frameReady t f = true → mayBegin t f = true →
    clearWire t (dirOut side) (emitPorts t f) none = some (at_, u) →
    exec (.egressBegin side p clk) s = .next (settle (beginTx f at_ u))) ∧
  (∀ side p clk s t, (Instr.egressBegin side p clk).wf = true →
    t = egressFirst side p ([0, 1, 2].foldl (fun s c => pruneQueue (dirOut side) p c s.frames.list.length s) (frameTime clk s)) →
    classQueue t (dirOut side) p 0 = [] → portFree t side p = true → suspended t (dirOut side) p = none →
    exec (.egressBegin side p clk) s = .next (settle (beginOther (dirOut side) p t))) ∧
  (∀ i s, (Instr.orbitFillDone i .tag).wf = true → s.orb.fills.contains i = true →
    exec (.orbitFillDone i .tag) s = .next (settle (fillFail i (tagFail .orbit (homeAddr i) s)))) ∧
  (∀ i s, (Instr.orbitFillDone i .integ).wf = true → s.orb.fills.contains i = true →
    exec (.orbitFillDone i .integ) s = .next (settle (fillFail i (portIntegrity .orbit (homeAddr i) s)))) ∧
  (∀ i s b t, (Instr.orbitFillDone i .passed).wf = true → s.orb.fills.contains i = true →
    sealRead .orbit (homeAddr i) 256 s = (some b, t) → fillFits (saOf s i) (bytesToWords 64 b) = true →
    exec (.orbitFillDone i .passed) s = .next (settle (fillDone i (bytesToWords 64 b) t))) ∧
  (∀ id clk b f s, (Instr.gangFinish id clk b).wf = true → frameOf (frameTime clk s) id = some f → f.gang ≠ [] →
    f.doneAt ≤ (frameTime clk s).time.cyc → f.dir = .enc → f.receiving = false →
    exec (.gangFinish id clk b) s = .next (settle
      (modFrame id (fun f => { f with stage := if f.stage == .gang then .queued else f.stage }) (releaseGang f (frameTime clk s))))) ∧
  (∀ id clk f s, (Instr.gangFinish id clk true).wf = true → frameOf (frameTime clk s) id = some f → f.gang ≠ [] →
    f.doneAt ≤ (frameTime clk s).time.cyc → f.dir = .dec →
    exec (.gangFinish id clk true) s = .next (settle (liveFault (f.gang.headD 0) 3 0 (frameTime clk s)))) ∧
  (∀ id clk f s, (Instr.gangFinish id clk false).wf = true → frameOf (frameTime clk s) id = some f → f.gang ≠ [] →
    f.doneAt ≤ (frameTime clk s).time.cyc → f.dir = .dec →
    exec (.gangFinish id clk false) s = .next (settle
      (verifyRx { f with gang := [] } (f.gang.headD 0) (releaseGang f (frameTime clk s)))))

/-- LINK_UP, LINK_DOWN, PORT_EQ_TIMEOUT and CONTROL_FRAME_TX: a port of the committed mode that is not held down comes up on both sides,
aligned, and ends its lanes' order with OK; a fall of reception and emission, or of emission alone, cuts what its side holds; it is
the effect of PORT_EQ_TIMEOUT that lanes that do not come back in 16,000 ticks end their order with FAULT and raise its event; an
agent's frame goes to admission under its port's address. PFC_REFRESH and PREEMPT_VERIFY: a port in XOFF sends its PFC frame again
half its quanta after the last; verification sends its frame and succeeds on an answer, is tried three times, and then fails with
its event; a request of the link partner is answered (R96, R97, R105, R108, R115, R343). -/
def Obligations.LinkEventsMoveTheirPort : Prop :=
  (∀ side p s, p < 16 → portOn s side p = true → bit (getReg s (ra (portPage side p) 0x108)) 1 = false → linkUp (portOf s side p) = false →
    exec (.linkUp side p) s = .next (settle (eqEnd side p .ok (event (portPage side p) 0
      (setTx side p 0
      (modPort side p (fun x => verifyAtUp s side p { x with ingUp := true, egUp := true, aligned := true, training := false }) s)))))) ∧
  (∀ side p s, p < 16 → portOn s side p = true → exec (.linkDown side p 0) s = .next (settle (linkFall side p true true (some 1) s))) ∧
  (∀ side p s, p < 16 → portOn s side p = true → exec (.linkDown side p 1) s = .next (settle (linkFall side p false true none s))) ∧
  (∀ side p s, p < 16 → portOn s side p = true → bit (getReg s (ra (portPage side p) 0x108)) 1 = true →
    exec (.linkDown side p 2) s = .next (settle (linkFall side p true true (some 2) s))) ∧
  (∀ side p o t s, p < 16 → (portOf s side p).eq = some (o, t) → 16000 ≤ tdiff (now s) t →
    exec (.portEqTimeout side p) s = .next (settle (event (portPage side p) 6 (endOrder o .fault 0
      (modPort side p (fun x => { x with eq := none, training := false }) s))))) ∧
  (∀ side p b s f, p < 16 → (Instr.controlFrameTx side p b).wf = true → portOn s side p = true →
    (traffic s = true ∨ controlOnly s = true) → agentMay s side p b = true → macSet s side p = true →
    f = { Frame.fresh (dirOut side) p (padMin (b.take 6 ++ portMac s side p ++ b.drop 12)) s.time.mer (now s) with
      kind := .control, cls := 1, dest := p, cells := cellsOf ((padMin (b.take 6 ++ portMac s side p ++ b.drop 12)).length + 4) } →
    exec (.controlFrameTx side p b) s = .next (settle (reachAdmission s.frames.nextId (addFrame f s)))) ∧
  (∀ p q d s t, p < 16 → q = regFld s (ra (pg .plain p) 0x118) 15 0 → d = (portOf s .plain p).pfcAt + lineTime (portRate s .plain p) (q * 32) →
    portOn s .plain p = true → (portOf s .plain p).xoff = true → (portOf s .plain p).pfcWait = [] →
    bit (getReg s (ra (pg .plain p) 0x118)) 31 = true → t = advanceMer d s → d ≤ t.time.mer →
    exec (.pfcRefresh .plain p) s = .next (settle (sendPfc p q t))) ∧
  (∀ side p s, p < 16 → portOn s side p = true → linkUp (portOf s side p) = true → (portOf s side p).verify = 1 →
    exec (.preemptVerify side p .answered) s = .next (settle
      (modPort side p (fun x => { x with verify := 2, verTries := x.verTries + 1 }) (emit (.verify side p false) s)))) ∧
  (∀ side p s, p < 16 → portOn s side p = true → linkUp (portOf s side p) = true → (portOf s side p).verify = 1 →
    (portOf s side p).verTries < 2 →
    exec (.preemptVerify side p .unanswered) s = .next (settle
      (modPort side p (fun x => { x with verTries := x.verTries + 1 }) (emit (.verify side p false) s)))) ∧
  (∀ side p s, p < 16 → portOn s side p = true → linkUp (portOf s side p) = true → (portOf s side p).verify = 1 →
    2 ≤ (portOf s side p).verTries →
    exec (.preemptVerify side p .unanswered) s = .next (settle (event (portPage side p) 5
      (modPort side p (fun x => { x with verify := 3, verTries := 3 }) (emit (.verify side p false) s))))) ∧
  (∀ side p s, p < 16 → portOn s side p = true → (portOf s side p).ingUp = true → egOpen s side p = true → idleMode s = false →
    exec (.preemptVerify side p .request) s = .next (settle (emit (.verify side p true) s)))

/-- PIPE_FAULT, OCCULTATION_ROTA_STEP, TEST_CYCLE_END, SHORT_KAT_END, RETURN_CYCLE_END and QUIESCE_DONE: a fault of a live pipeline ends
what it holds and asks for its replacement; the rota steps when it is due and counts 8,000 ticks again; a cycle that passes is
counted, one that fails records its code; a short test that passes makes the pipeline live two ticks on, one that fails retires it;
a returning one that passes is READY and live beside an occulted one, and one that fails is retired; a quiescing one with no frame
is quiesced and parked (R71, R200, R201, R202, R203, R205). -/
def Obligations.PipelinesAreTestedAndQuiesced : Prop :=
  (∀ p n s, p < 42 → n < 16 → (pipeOf s p).role = 0 → exec (.pipeFault p 0 n) s = .next (settle (liveFault p 0 n s))) ∧
  (∀ p u s, p < 42 → u < 4 → (pipeOf s p).role = 0 → exec (.pipeFault p u 0) s = .next (settle (liveFault p u 0 s))) ∧
  (∀ d r s, s.rota.getD (dirNum d) ⟨0, 0, false⟩ = r → r.due = true →
    exec (.occultationRotaStep d) s = .next (settle
      (let t := rotaStep (dirNum d) s
       { t with rota := t.rota.set (dirNum d) { (t.rota.getD (dirNum d) r) with left := 8000, due := false } }))) ∧
  (∀ p s, p < 42 → (pipeOf s p).role = 1 → inShort (pipeOf s p) = false → (pipeOf s p).running = true → (pipeOf s p).bad = false →
    cycleTicks ≤ tdiff (now s) (pipeOf s p).cycAt →
    exec (.testCycleEnd p 0) s = .next (settle
      (modPipe p (fun x => { x with cycles := min 65535 (x.cycles + 1) })
        (modPipe p (fun x => { x with bad := false, cycAt := now s }) (bump (pg .pipe p) 0x238 1 s))))) ∧
  (∀ p c s, p < 42 → c < 256 → c ≠ 0 → (pipeOf s p).role = 1 → inShort (pipeOf s p) = false → (pipeOf s p).running = true →
    cycleTicks ≤ tdiff (now s) (pipeOf s p).cycAt →
    exec (.testCycleEnd p c) s = .next (settle (testFail p c (modPipe p (fun x => { x with bad := false, cycAt := now s }) (bump (pg .pipe p) 0x238 1 s))))) ∧
  (∀ p t s, p < 42 → (pipeOf s p).short = some t → (pipeOf s p).running = true → (pipeOf s p).bad = false →
    exec (.shortKatEnd p 0) s = .next (settle (modPipe p (fun x => { x with short := none, liveAt := some (t + 2) }) (testDone p true s)))) ∧
  (∀ p t c s, p < 42 → c < 256 → c ≠ 0 → (pipeOf s p).short = some t → (pipeOf s p).running = true →
    exec (.shortKatEnd p c) s = .next (settle (retire p 0x07 0 0 (testFail p c (testDone p false s))))) ∧
  (∀ p c t s, p < 42 → c < 256 → c ≠ 0 → (pipeOf s p).role = 2 → cycleTicks ≤ tdiff (now s) (pipeOf s p).cycAt →
    t = testFail p c (bump (pg .pipe p) 0x238 1 (testDone p false s)) →
    exec (.returnCycleEnd p c) s = .next (settle (retire p (pipeOf t p).failCode 0 0 t))) ∧
  (∀ p t s, p < 42 → (pipeOf s p).role = 2 → (pipeOf s p).bad = false → cycleTicks ≤ tdiff (now s) (pipeOf s p).cycAt →
    t = setReady (pg .pipe p) (bump (pg .pipe p) 0x238 1 (testDone p true s)) →
    (pipesOf (pipeDir p)).any (fun q => (pipeOf t q).role == 1 || (pipeOf t q).occPend) = true →
    exec (.returnCycleEnd p 0) s = .next (settle (setRole p 0 t))) ∧
  (∀ p s, p < 42 → (legend s (pg .pipe p)).qreq = true → (legend s (pg .pipe p)).quiesced = false → pipeBusy s p = false →
    exec (.quiesceDone (pg .pipe p)) s = .next (settle (modLegend (pg .pipe p) (fun l => { l with quiesced := true })
      (setRole p (if (pipeOf s p).role = 3 then 3 else 4) (modPipe p (fun x => { x with running := false, short := none, liveAt := none }) s)))))

/-! ### Circuits, bundles and the twin pair -/

/-- HIGHWAY_FRAME_RX, HIGHWAY_LOS and HIGHWAY_LOSYNC on a highway that runs: a frame is counted with its code errors, a good one adds to
the run of good frames and a bad one to the run of bad ones with its event, and its 32 slots reach their tributaries; a loss of
signal or of sync is a condition of the highway, the former counted once. TRIB_FRAME_COMPLETE, COMPASS_HUNT, TRIB_DEFECT_CHANGE and
OLDUN_SYNC_CHANGE: a complete frame of an aligned tributary leaves the bit buffer as one more slip entry with its errors counted; a
hunt with one candidate declares alignment there, one without does nothing, and one with several raises the ambiguous event once; a
defect that is due is set or cleared; the Oldun link takes its lanes with its sync (R266, R270, R273, R274, R276, R317). -/
def Obligations.HighwayAndTributaryEventsTakeEffect : Prop :=
  (∀ h pos x u s, (Instr.highwayFrameRx h pos x).wf = true → hwyDeaf s h = false →
    u = (if hwyLoopMode s h = 3 then emit (.hwyReturned h x) s else s) → hwyGood u h pos x = true → (hwyOf u h).lof = false → h < u.hwys.length →
    exec (.highwayFrameRx h pos x) s = .next (settle ((List.range 32).foldl (rxSlot h x)
      (modHwy h (fun y => { y with good := y.good + 1, bad := 0, locked := some pos })
        (bump (pg .hwy h) 0x210 (x.countP codeErr) (bump (pg .hwy h) 0x200 1 (modHwy h (fun y => { y with rxSeen := true }) u))))))) ∧
  (∀ h pos x u s, (Instr.highwayFrameRx h pos x).wf = true → hwyDeaf s h = false →
    u = (if hwyLoopMode s h = 3 then emit (.hwyReturned h x) s else s) → hwyGood u h pos x = false → (hwyOf u h).bad = 0 → h < u.hwys.length →
    exec (.highwayFrameRx h pos x) s = .next (settle ((List.range 32).foldl (rxSlot h x)
      (event (pg .hwy h) 3 (bump (pg .hwy h) 0x208 1 (modHwy h (fun y => { y with bad := y.bad + 1, good := 0 })
        (bump (pg .hwy h) 0x210 (x.countP codeErr) (bump (pg .hwy h) 0x200 1 (modHwy h (fun y => { y with rxSeen := true }) u)))))))) ) ∧
  (∀ h s, h < 8 → hwyDeaf s h = false →
    exec (.highwayLos h) s = .next (settle (hwyChange h (fun x => { x with los := true, losSeen := true })
      (if (hwyOf s h).los then s else bump (pg .hwy h) 0x220 1 s)))) ∧
  (∀ h l s, h < 8 → hwyDeaf s h = false →
    exec (.highwayLosync h l) s = .next (settle (hwyChange h (fun x => { x with losync := l }) s))) ∧
  (∀ h pos x l s, (Instr.highwayFrameRx h pos x).wf = true → hwyDeaf s h = true →
    exec (.highwayFrameRx h pos x) s = .next (settle s) ∧ exec (.highwayLos h) s = .next (settle s) ∧
    exec (.highwayLosync h l) s = .next (settle s)) ∧
  (∀ t x s, t < 256 → x = tribOf s t → trbOn s t = true → x.aligned = true → frameBits s t ≤ x.buf.length → trbType s t = 2 →
    x.slip.length < 2 →
    exec (.tribFrameComplete t) s = .next (settle
      (let r := rxT1 (x.rep != 2) (x.buf.take (frameBits s t)) x
       tribBump t 0x30 r.2.2.2 (tribBump t 0x28 r.2.2.1 (tribBump t 0x20 r.2.1 (setTrib t
        { r.1 with buf := x.buf.drop (frameBits s t), abs := x.abs + frameBits s t,
                   slip := x.slip ++ [bitsBytes 24 ((x.buf.take (frameBits s t)).drop 1)],
                   tickErr := x.tickErr + r.2.2.1, tickFebe := x.tickFebe + r.2.2.2, tickDrop := x.tickDrop + 0,
                   slipNow := x.slipNow } s)))))) ∧
  (∀ t x s, t < 256 → x = tribOf s t → trbOn s t = true → x.aligned = true → frameBits s t ≤ x.buf.length → trbType s t ≠ 2 →
    x.slip.length < 2 →
    exec (.tribFrameComplete t) s = .next (settle
      (let r := rxE1 (trbType s t == 0) (x.rep != 2) (x.buf.take (frameBits s t)) x
       tribBump t 0x30 r.2.2.2 (tribBump t 0x28 (if trbType s t = 1 then 0 else r.2.2.1) (tribBump t 0x20 r.2.1 (setTrib t
        { r.1 with buf := x.buf.drop (frameBits s t), abs := x.abs + frameBits s t,
                   slip := x.slip ++ [bitsBytes 32 (x.buf.take (frameBits s t))],
                   tickErr := x.tickErr + r.2.2.1, tickFebe := x.tickFebe + r.2.2.2, tickDrop := x.tickDrop + 0,
                   slipNow := x.slipNow } s)))))) ∧
  (∀ t q s, t < 256 → trbOn s t = true → (tribOf s t).aligned = false → hwyMask (hwyOf s (t / 32)) = 0 → trbType s t = 2 →
    (List.range 772).filterMap (fun p => (candT1 (tribOf s t).abs (tribOf s t).buf p).map (fun o => (p, o))) = q →
    exec (.compassHunt t) s = .next (settle
      (if q.length ≤ 1 then q.foldl (fun u c => declareAligned t c.1 c.2 0 u) s
       else if (tribOf s t).amb then s
       else event (pg .trb (t / 16)) 17 (bump (pg .trb (t / 16)) (0x100 + t % 16 * 0xF0 + 0x50) 1
        (modTrib t (fun x => { x with amb := true }) s))))) ∧
  (∀ t q c d s, t < 256 → trbOn s t = true → (tribOf s t).aligned = false → hwyMask (hwyOf s (t / 32)) = 0 → trbType s t ≠ 2 →
    c = candE1 (trbType s t == 0) (tribOf s t).abs (tribOf s t).buf → (List.range 512).filter (fun p => candOk (trbType s t == 0) (c p)) = q →
    d = (fun p => (p + 512 - (tribOf s t).abs % 512) % 512) →
    exec (.compassHunt t) s = .next (settle
      (if q.length ≤ 1 then
        q.foldl (fun u p => declareAligned t p (if d p < 256 then d p else d p - 256)
          ((c p).qual.elim (if d p < 256 then 0 else 1) (fun n => (11 + 16 * n - n) % 16)) u) s
       else if (tribOf s t).amb then s
       else event (pg .trb (t / 16)) 17 (bump (pg .trb (t / 16)) (0x100 + t % 16 * 0xF0 + 0x50) 1
        (modTrib t (fun x => { x with amb := true }) s))))) ∧
  (∀ t d on s, t < 256 → d < 5 → trbOn s t = true → hwyMask (hwyOf s (t / 32)) = 0 → defectDue s t d on = true →
    exec (.tribDefectChange t d on) s = .next (settle (setDefect t d on s))) ∧
  (∀ clk lanes desk skew errs s, lanes < 256 → skew ≤ 16 → errs < 2 ^ 21 → oldRuns s = true →
    exec (.oldunSyncChange clk lanes desk skew errs) s = .next (settle (bump (pg .old) 0x218 errs
      { s with twin := { s.twin with clkOk := clk, lanes := lanes, deskewed := desk, skewSym := skew,
                                     hbRun := if clk && lanes == 0xFF && desk then s.twin.hbRun else 0 } })))

/-- BUNDLE_ASSEMBLY, BUNDLE_DEADLINE and BUNDLE_FORWARD_RX: a bundle whose takes are complete becomes one Polar frame of its period,
handed to its SA's sequence point 2,000 ns before its launch offset; a period that has not come by its deadline is lost; a forwarded
period in time is held like one received here, and one that is not is counted and recorded. PM_SECOND_CLASSIFY and PM_BIN_CLOSE: the
oldest second of a tributary that ended 11 s ago leaves its queue, ten severely errored seconds in a row begin unavailable time and
ten that are not end it, and with collection on its counts join the bins of its quarter-hour and day and are held against the
thresholds; the quarter hour that closes writes its bins with collection on, and raises BIN_CLOSED (R291, R299, R303, R304, R316). -/
def Obligations.BundlesAndPerformanceBinsTakeEffect : Prop :=
  (∀ b x s, b < 1024 → x = bunOf s b → traffic s = true → x.active = true → bcDir x.cfg = 0 → x.takes.length = bcPeriod x.cfg →
    (now s).toNat % bcPeriod x.cfg = (bcPhase x.cfg + bcPeriod x.cfg - 1) % bcPeriod x.cfg →
    exec (.bundleAssembly b) s = .next (settle
      (let t := advanceMer (tickStart s + (bcOffset x.cfg - 2000) * nsUnit) (setBun b { x with takes := [] } s)
       bunSequence { Frame.fresh .enc 16 (bunFrame s x.cfg (now s - wd (bcPeriod x.cfg - 1)) x.takes) t.time.mer (now s) with
         kind := .bundle, cls := 0, sa := bcSa x.cfg, launch := some (256 + b, tickStart s + bcOffset x.cfg * nsUnit), bundle := b,
         btick := now s - wd (bcPeriod x.cfg - 1) } t))) ∧
  (∀ b x t0 s, b < 1024 → x = bunOf s b → t0 = now s + 1 - wd (bcK x.cfg) → x.active = true → bcDir x.cfg = 1 → x.synced = true →
    s.dev.mode ≠ .drain → t0.toNat % bcPeriod x.cfg = bcPhase x.cfg → x.held.any (fun h => h.tick == t0) = false →
    x.lost.contains t0 = false →
    exec (.bundleDeadline b) s = .next (settle (bunLose b t0 (advanceMer (nextBoundary s - 1000 * nsUnit) s)))) ∧
  (∀ bs p b t0 x u s, oldReceive 3 bs s = (some p, u) → b = beAt p 0 2 → t0 = wd (beAt p 2 4) → x = bunOf u b →
    s.dev.mode = .twinEmit → x.active = true → bcDir x.cfg = 1 → bunTimely u x t0 false = none →
    exec (.bundleForwardRx bs) s = .next (settle
      (bunHoldIt b t0 false 0 0 (orAll ((slice p 7 (byteAt p 6).toNat).map (·.toNat)))
        (slice p (7 + (byteAt p 6).toNat) (bcSlots x.cfg * bcPeriod x.cfg)) u))) ∧
  (∀ bs p b t0 x u r o s, oldReceive 3 bs s = (some p, u) → b = beAt p 0 2 → t0 = wd (beAt p 2 4) → x = bunOf u b →
    s.dev.mode = .twinEmit → x.active = true → bcDir x.cfg = 1 → bunTimely u x t0 false = some (r, o) →
    exec (.bundleForwardRx bs) s = .next (settle (forwardFail b r o u))) ∧
  (∀ e x r s, e < 1280 → (tribOf s e).secs = x :: r → trbOn s e = true → x.sec + 11 ≤ utcSec s s.time.mer →
    bit (getReg s (ra (pg .pmb) 0x100)) 31 = false →
    exec (.pmSecondClassify e) s = .next (settle (setTrib e
      { tribOf s e with
        secs := r
        unavail := if (tribOf s e).unavail
          then !(decide (((x :: r).take 10).length = 10) && ((x :: r).take 10).all (fun y => !isSes (trbType s e) y))
          else decide (((x :: r).take 10).length = 10) && ((x :: r).take 10).all (isSes (trbType s e)) } s))) ∧
  (∀ e x r t u q s, e < 1280 → tribOf s e = t → t.secs = x :: r → trbOn s e = true → x.sec + 11 ≤ utcSec s s.time.mer →
    bit (getReg s (ra (pg .pmb) 0x100)) 31 = true → q = x.sec / 900 → (q = s.pmb.qh ∨ ∃ c ∈ s.pmb.closing, c.q = q) →
    u = (if t.unavail then !(decide (((x :: r).take 10).length = 10) && ((x :: r).take 10).all (fun y => !isSes (trbType s e) y))
         else decide (((x :: r).take 10).length = 10) && ((x :: r).take 10).all (isSes (trbType s e))) →
    exec (.pmSecondClassify e) s = .next (settle (tcaCheck q e
      (modBins q e (fun b => (List.range 4).foldl (fun b k => binAdd k ((secCounts (trbType s e) u x).getD k 0) b) b)
        (setTrib e { t with secs := r, unavail := u } s))))) ∧
  (∀ c r s, s.pmb.closing = c :: r → isDue (now s) c.at_ = true →
    exec .pmBinClose s = .next (settle
      (let t := if bit (getReg s (ra (pg .pmb) 0x100)) 31 then (List.range 1280).foldl (pmCloseOne c) s else s
       event (pg .pmb) 1 { t with pmb := pmForget { t.pmb with closing := r, lastClose := now s } })))

/-- HEARTBEAT_RX, DIGEST_CUT, CUT_RX and DIGEST_RX in TWIN_EMIT: a timely heartbeat of 27 bytes is taken; twin A cuts a port's items at
clock 180,000, sends the cut with the last of them, or an empty one, and the items it cuts leave the port's list for the digest;
twin B digests at the cut it receives; two digests of one tick are compared (R320, R325, R327). -/
def Obligations.HeartbeatsAndDigestsCrossTheLink : Prop :=
  (∀ bs clk p t s, (Instr.heartbeatRx bs clk).wf = true → oldReceive 1 bs (advanceTo clk s) = (some p, t) → p.length = 27 →
    heartbeatTimely t (wd (beAt p 2 4)) = true →
    exec (.heartbeatRx bs clk) s = .next (settle (adriftUpdate (heartbeatTake p t)))) ∧
  (∀ p t c s, p < 16 → s.dev.mode = .twinEmit → twinId s = 0 → s.time.clk ≤ 180000 → t = advanceTo 180000 s →
    t.twin.items.filter (fun x => x.port == p) = [] → c = { tick := now t, port := p, last := none, rxAt := 0 } →
    exec (.digestCut p) s = .next (settle (cutTake c
      (oldSend 2 (beBytes 4 (now t).toNat ++ [by8 p] ++ zeros 12 ++ beBytes 16 0) t)).2)) ∧
  (∀ p x t c s, p < 16 → s.dev.mode = .twinEmit → twinId s = 0 → s.time.clk ≤ 180000 → t = advanceTo 180000 s →
    (t.twin.items.filter (fun x => x.port == p)).getLast? = some x → c = { tick := now t, port := p, last := some (x.sa, x.field), rxAt := x.rxAt } →
    exec (.digestCut p) s = .next (settle (cutTake c
      (oldSend 2 (beBytes 4 (now t).toNat ++ [by8 p] ++ (1 :: beBytes 3 x.sa ++ beBytes 8 x.field) ++ beBytes 16 x.rxAt) t)).2)) ∧
  (∀ bs p t c s, s.dev.mode = .twinEmit → oldReceive 2 bs s = (some p, t) → byteAt p 5 = 1 →
    c = { tick := wd (beAt p 0 4), port := (byteAt p 4).toNat, last := some (beAt p 6 3, beAt p 9 8), rxAt := beAt p 17 16 } →
    (cutTake c (skewTake c t)).1 = true →
    exec (.cutRx bs) s = .next (settle (cutTake c (skewTake c t)).2)) ∧
  (∀ bs p a t s, s.dev.mode = .twinEmit → oldReceive 4 bs s = (some p, t) →
    t.twin.own.find? (fun d => d.tick == (digestOf p).tick) = some a →
    t.twin.peer.any (fun d => d.tick == (digestOf p).tick) = false →
    exec (.digestRx bs) s = .next (settle (digestCompare a (digestOf p)
      { t with twin := { t.twin with peer := (digestOf p :: t.twin.peer).take 64 } })))

/-- TICK_LIST_RX, TICK_LIST_DEADLINE, SA_ITEM_RX and RX_CHECKPOINT_SEND: a tick's list from the peer is stored and acknowledged, an
acknowledgement marks the own list, the word that the peer has excluded a list that is held whole is a disagreement; an own list not
acknowledged by clock 180,000 of the next tick loses its items and the peer is told, and a peer's list that has not come is
excluded; an SA's acknowledgement or checkpoint waits for the boundary; an SA's receive ledger goes out as its first checkpoint, and
256 ticks after its last one where it has moved (R313, R322, R323). -/
def Obligations.TickListsAndCheckpointsCrossTheLink : Prop :=
  (∀ bs p t s, s.dev.mode = .twinEmit → oldReceive 5 bs s = (some p, t) → byteAt p 0 = 0 → listOf t (wd (beAt p 1 4)) = none →
    exec (.tickListRx bs) s = .next (settle (oldSend 5 (1 :: beBytes 4 (wd (beAt p 1 4)).toNat)
      (modList (wd (beAt p 1 4)) (fun l => { l with peer := some (itemsOf t p.length (p.drop 5)) }) t)))) ∧
  (∀ bs p l t s, s.dev.mode = .twinEmit → oldReceive 5 bs s = (some p, t) → byteAt p 0 = 1 → listOf t (wd (beAt p 1 4)) = some l →
    l.exclOwn = false →
    exec (.tickListRx bs) s = .next (settle (modList (wd (beAt p 1 4)) (fun l => { l with acked := true }) t))) ∧
  (∀ bs p l t s, s.dev.mode = .twinEmit → oldReceive 5 bs s = (some p, t) → byteAt p 0 = 2 → listOf t (wd (beAt p 1 4)) = some l →
    l.peer.isSome = true → l.exclPeer = false →
    exec (.tickListRx bs) s = .next (settle (disagree 7 0 (wd (beAt p 1 4)) t))) ∧
  (∀ l t s, s.dev.mode = .twinEmit → s.time.clk ≤ 180000 → t = advanceTo 180000 s → listOf t (now t - 1) = some l → l.acked = false →
    l.exclOwn = false → (l.exclPeer = true ∨ l.peer.isSome = true) →
    exec .tickListDeadline s = .next (settle (oldSend 5 (2 :: beBytes 4 (now t - 1).toNat)
      (l.own.foldl itemLost (bump (pg .twn) 0x228 1 (modList (now t - 1) (fun l => { l with exclOwn := true, own := [] }) t)))))) ∧
  (∀ l t s, s.dev.mode = .twinEmit → s.time.clk ≤ 180000 → t = advanceTo 180000 s → listOf t (now t - 1) = some l → l.acked = true →
    l.exclPeer = false → l.peer = none →
    exec .tickListDeadline s = .next (settle (bump (pg .twn) 0x228 1 (modList (now t - 1) (fun l => { l with exclPeer := true }) t)))) ∧
  (∀ bs p t s, s.dev.mode = .twinEmit → oldReceive 6 bs s = (some p, t) → (byteAt p 0).toNat = 0 →
    exec (.saItemRx bs) s = .next (settle
      { t with twin := { t.twin with peerAcks := t.twin.peerAcks ++ [(wd (beAt p 10 4), beAt p 1 3, beAt p 4 1, wd (beAt p 5 4), beAt p 9 1)] } })) ∧
  (∀ bs p t s, s.dev.mode = .twinEmit → oldReceive 6 bs s = (some p, t) → (byteAt p 0).toNat = 1 →
    exec (.saItemRx bs) s = .next (settle
      { t with twin := { t.twin with toApply := t.twin.toApply ++ [(beAt p 1 3, beAt p 4 1, beAt p 5 8)] } })) ∧
  (∀ i s, i < 2 ^ 21 → s.dev.mode = .twinEmit → (saOf s i).st = 1 → (saOf s i).dir = 1 → s.twin.checks.find? (fun c => c.1 == i) = none →
    (saOf s i).ledger ≠ 0 →
    exec (.rxCheckpointSend i) s = .next (settle (bump (pg .twn) 0x230 1
      (oldSend 6 (1 :: beBytes 3 i ++ [by8 (saOf s i).gen] ++ beBytes 8 (saOf s i).ledger)
        { s with twin := { s.twin with checks := (i, (saOf s i).ledger, now s) :: s.twin.checks.filter (fun c => c.1 != i) } })))) ∧
  (∀ i v t s, i < 2 ^ 21 → s.dev.mode = .twinEmit → (saOf s i).st = 1 → (saOf s i).dir = 1 →
    s.twin.checks.find? (fun c => c.1 == i) = some (i, v, t) → v ≠ (saOf s i).ledger → 256 ≤ tdiff (now s) t →
    exec (.rxCheckpointSend i) s = .next (settle (bump (pg .twn) 0x230 1
      (oldSend 6 (1 :: beBytes 3 i ++ [by8 (saOf s i).gen] ++ beBytes 8 (saOf s i).ledger)
        { s with twin := { s.twin with checks := (i, (saOf s i).ledger, now s) :: s.twin.checks.filter (fun c => c.1 != i) } }))))

/-- CONTROL_RX, CROSS_CHECK_SEND, CROSS_CHECK_RX and SELF_CHECK_END: a HOLD from the peer makes TWIN_HOLD fall due with cause 0x0E; a
cross-check with an occulted pipeline at hand sends a fresh challenge and holds its answer; the right answer ends it; a self-check
ends 15 ticks after its start and tells the peer its verdict. ARB_TIMEOUT, PAIRED_ORDER_HOLD, REALIGNMENT and
CONFIG_FINGERPRINT_MISMATCH: twin B drains when nobody has arbitrated in its time; paired orders wait from 130 ticks before the
alignment; at its tick a joiner, and a twin that holds for a READY one, aligns every counter and TWIN_EMIT falls due, and a twin
whose joiner is no longer READY gives the alignment up; eight differing fingerprints are a disagreement of cause 6 (R57, R226, R314,
R329, R331, R334). -/
def Obligations.TwinChecksAndDeadlinesTakeEffect : Prop :=
  (∀ bs p t s, oldReceive 7 bs s = (some p, t) → t.dev.mode = .twinEmit → byteAt p 0 = 0 →
    exec (.controlRx bs) s = .next (settle (trigger .twinHold 0x0E 4 none t))) ∧
  (∀ bs p t s, oldReceive 7 bs s = (some p, t) → t.dev.mode = .twinEmit → byteAt p 0 = 1 →
    exec (.controlRx bs) s = .next (settle { t with twin := { t.twin with peerSelf := some (byteAt p 1 != 0) } })) ∧
  (∀ k s, k < 16 → s.dev.mode = .twinEmit → (now s).toNat % 8 = 0 → s.rng.st ≠ 2 → s.twin.cross = none → (occulting s 0).isSome = true →
    exec (.crossCheckSend k) s = .next (settle
      (let iv := draw 12 { s with twin := { s.twin with cross := none } }
       let d := draw 64 iv.2
       oldSend 8 (0 :: beBytes 4 (now s).toNat ++ [by8 k] ++ iv.1 ++ d.1)
        { d.2 with twin := { d.2.twin with cross := some { tick := now s, want := crossAnswer k iv.1 d.1 } } }))) ∧
  (∀ bs p c t s, s.dev.mode = .twinEmit → oldReceive 8 bs s = (some p, t) → byteAt p 0 = 1 → t.twin.cross = some c →
    c.tick.toNat = beAt p 1 4 → slice p 5 80 = c.want →
    exec (.crossCheckRx bs) s = .next (settle { t with twin := { t.twin with cross := none, crossFails := 0 } })) ∧
  (∀ t s, s.twin.selfStart = some t → s.twin.disState = 1 → s.twin.selfDone = false → 15 ≤ tdiff (now s) t →
    exec .selfCheckEnd s = .next (settle (oldSend 7 [1, by8 (b2n (selfOk s))]
      { s with twin := { s.twin with selfPass := selfOk s, selfDone := true } }))) ∧
  (∀ t s, s.twin.waitFrom = some t → s.dev.mode = .twinEmit → s.twin.disState = 2 → regFld s (ra (pg .twn) 0x100) 15 0 ≠ 0 →
    regFld s (ra (pg .twn) 0x100) 15 0 ≤ tdiff (now s) t →
    exec .arbTimeout s = .next (settle
      (let u := { s with twin := { s.twin with waitFrom := none, disState := 0 } }
       if twinId s = 1 then trigger .drain 0x10 3 none u else u))) ∧
  (∀ s, s.twin.alignFixed = true → isDue (now s) (s.twin.alignTick - 130) = true →
    exec .pairedOrderHold s = .next (settle { s with twin := { s.twin with held := true } })) ∧
  (∀ s, s.twin.alignFixed = true → now s = s.twin.alignTick → s.dev.mode = .twinHold → peerReady s = false →
    exec .realignment s = .next (settle (alignCancel .busy s))) ∧
  (∀ s, s.twin.alignFixed = true → now s = s.twin.alignTick → (s.dev.mode = .twinJoin ∨ (s.dev.mode = .twinHold ∧ peerReady s = true)) →
    exec .realignment s = .next (settle (trigger .twinEmit (if s.dev.mode = .twinJoin then 0x0C else 0x11) 5 none
      { alignAll s with twin := { (alignAll s).twin with alignFixed := false, held := false, resetLedgers := true,
                                                         availWas := (List.range 16).map (fun c => availEpoch s c),
                                                         alignExh := (List.range 16).map (fun c =>
                                                           max (almOf s c).epoch (almOf s c).peer == almMax ||
                                                             (almOf (alignAll s) c).epoch != s.twin.epochs.getD c 0) } }))) ∧
  (∀ s, s.dev.mode = .twinEmit → 8 ≤ s.twin.fpDiff →
    exec .configFingerprintMismatch s = .next (settle
      { s with twin := { s.twin with fpDiff := 0, found := s.twin.found ++ [(6, wd (2 ^ 31 + 6 * 2 ^ 24), now s)] } }))

/-- STATE_COPY_RX, JOIN_TRUST, JOIN_READY, JOIN_ABANDON and MKA_NEW_SAK: an item of the copy is applied by a joining twin whose trust
stands; a verified partner yields the pair key, one that is not is logged and changes nothing else; equal fingerprints after the
bulk copy make the twin ready; three heartbeats without TWIN_EMIT abandon the join; a joiner whose partner is verified and that
draws a nonce erases what it holds for the copy; an agreement that fails breaks off the key change of its old SA with the notice
ABORTED; once reported, one that was announced switches its old SA over after the margin (R238, R324, R333, R436). -/
def Obligations.JoiningTwinTakesItsCopy : Prop :=
  (∀ bs p it n t s, twinMode s = true → oldReceive 9 bs s = (some p, t) → (byteAt p 0).toNat = 2 → t.dev.mode = .twinJoin →
    2 ≤ t.twin.joinPhase → itemOf t (p.drop 1) = some (it, n) →
    exec (.stateCopyRx bs) s = .next (settle (joinItem it t))) ∧
  (∀ v qx qy id nonce s, (Instr.joinTrust v qx qy id nonce).wf = true → s.dev.mode = .twinJoin → s.twin.joinPhase = 1 →
    (v = false ∨ onCurve p384 qx qy = false) →
    exec (.joinTrust v qx qy id nonce) s = .next (settle (logEvent 0x0A [wd id, wd (id / 2 ^ 32)] s))) ∧
  (∀ qx qy id nonce s, (Instr.joinTrust true qx qy id nonce).wf = true → s.dev.mode = .twinEmit → s.twin.peerPhase = 1 → twinId s = 0 →
    onCurve p384 qx qy = true → s.rng.st ≠ 2 →
    exec (.joinTrust true qx qy id nonce) s = .next (settle
      (let d := draw 32 (reseed s)
       { d.2 with keys := { d.2.keys with
          pairKey := some (kdf (attShared qx qy) "DX32 PAIR" (devIdBytes ++ beBytes 8 id ++ d.1 ++ slice nonce 0 32) 256) } }))) ∧
  (∀ qx qy id nonce s, (Instr.joinTrust true qx qy id nonce).wf = true → s.dev.mode = .twinJoin → s.twin.joinPhase = 1 → twinId s ≠ 0 →
    onCurve p384 qx qy = true → s.rng.st ≠ 2 →
    exec (.joinTrust true qx qy id nonce) s = .next (settle
      (let d := draw 32 (reseed s)
       joinErase { d.2 with keys := { d.2.keys with
          pairKey := some (kdf (attShared qx qy) "DX32 PAIR" (beBytes 8 id ++ devIdBytes ++ slice nonce 0 32 ++ d.1) 256) } }))) ∧
  (∀ s, s.dev.mode = .twinJoin → s.twin.joinPhase = 2 → s.twin.bulkDone = true → s.twin.peerFp = some s.twin.ownFp →
    exec .joinReady s = .next (settle (event (pg .twn) 3 { s with twin := { s.twin with joinPhase := 3 } }))) ∧
  (∀ s, s.dev.mode = .twinJoin → 3 ≤ s.twin.notEmit →
    exec .joinAbandon s = .next (settle (trigger .configure 0x0D 4 none s))) ∧
  (∀ n c s, (Instr.mkaNewSak (.fail n)).wf = true → mkaActs s = true → mkaOf s n = some c →
    exec (.mkaNewSak (.fail n)) s = .next (settle (agentFailed 0 c.old s))) ∧
  (∀ n c p s, (Instr.mkaNewSak (.reported n)).wf = true → mkaActs s = true → mkaOf s n = some c → c.announced = true → c.switchAt = none →
    c.peers.any (fun p => !p.floorDone) = false → p = now s + wd (regFld s (ra (pg .ecl) 0x108) 15 0) →
    exec (.mkaNewSak (.reported n)) s = .next (settle
      (agentEclipse 0 c.old n p 0 (modMka n (fun c => { c with switchAt := some p }) s))))

/-! ### Tables, the tick, firmware and memory -/

/-- CHORE_ITEM_COMMIT and AGENT_CHORE_ITEM: the head item of the queue, within its budget and before clock 180,000, is carried out, and
one that left the queue goes to a joiner that has its snapshot; a budget that is used up stops the tick's chores; an agent's edit
joins its part of the queue in the modes that allow it (R21, R22). -/
def Obligations.ChoresCommitInOrder : Prop :=
  (∀ clk c r s t, clk < 2 ^ 18 → t = advanceTo clk s → s.grt.queue = c :: r → t.grt.queue = c :: r → t.time.run = true →
    t.grt.stop = false → clk ≤ 179999 → t.time.clk ≤ 179999 → budgetLeft t (choreKind c.body) = false →
    exec (.choreItemCommit clk) s = .next (settle (choreStop t))) ∧
  (∀ clk c r s t u st, clk < 2 ^ 18 → t = advanceTo clk s → s.grt.queue = c :: r → t.grt.queue = c :: r → t.time.run = true →
    t.grt.stop = false → clk ≤ 179999 → t.time.clk ≤ 179999 → budgetLeft t (choreKind c.body) = true → choreBody c.body t = .take st u →
    exec (.choreItemCommit clk) s = .next (settle
      (let v := choreTaken c st u
       if v.grt.queue.length = r.length then copyItem (.chore (decide (2 ≤ c.part)) none c.body) v else v))) ∧
  (∀ k a s, (Instr.agentChoreItem k a).wf = true → (agentOf s k).isSome = true → modeIn [.configure, .solo, .twinEmit, .twinHold] s = true →
    exec (.agentChoreItem k a) s = .next (settle (agentItem (.gaz a) s).2))

/-- TICK_BOUNDARY: time passes to the boundary, where the mode changes, the budgets start again, the heartbeat leaves, the tick-level
state is captured, and the actions of the boundary run in their order; clock 0 of the new tick is the first at or after it, and its
number is Meridian's count of 125 us; the registers become the committed ones as the PM counts have closed, and the captured state
goes to the partner; without its clock the device does nothing (R17, R37). -/
def Obligations.TickBoundaryRunsItsActionsInOrder : Prop :=
  (∀ s, s.time.run = true →
    exec .tickBoundary s = .next (settle
      (let t := tickEnds (tickTurn (reap s))
       let u := fingerTake (linkOpen t.dev.mode (grtTurn (modeChange t)))
       actRest (actTables (actTwin (actCircuit (actClose (stateBytes u) (actActivate u)))))))) ∧
  (∀ s, s.time.run = false → exec .tickBoundary s = .next (settle s)) ∧
  (∀ s, (tickTurn s).time.clk = 0 ∧
    (tickTurn s).time.tick = wd ((reap (passClocks (clocksToBoundary s) s)).time.mer / tickUnit)) ∧
  (∀ b s, actClose b s = copyCapture b (apsBoundary
    { settleCredits (pmBoundary (digestClose s)) with cfg := (pmBoundary (digestClose s)).regs }))

/-- DRAIN_LIMIT: 64 ticks after the entry into DRAIN every frame but the control frames ends with reason 0x2A, every job of the key
engine is aborted and its area zeroed, no chore, map, Almanac request, PPS step, tick list or alignment waits any longer, orders
whose chore items have committed end, and every order still outstanding is aborted; before that, and in any other mode, nothing
happens (R55). -/
def Obligations.DrainLimitEndsWhatIsInFlight : Prop :=
  (∀ s f k c t, s.dev.mode = .drain → 64 ≤ s.dev.drainTicks →
    f = ((reap s).frames.list.filter (fun f => f.kind != .control)).foldl (fun s f => endBad f 0x2A 0 s) (reap s) →
    k = (f.pke.jobs.map (·.area)).foldl (fun s a => zeroArea a s) (f.pke.jobs.foldl (pkeKill 0x2A) f) →
    c = commitEnds { k with
      pke := { k.pke with jobs := [] }, grt := { k.grt with queue := [] }, maps := [], alm := { k.alm with ords := [] },
      swp := { k.swp with survey := k.swp.survey.filter (fun v => v.ord.isNone) }, mer := { k.mer with step := [] },
      twin := { k.twin with lists := [], alignReq := false, alignFixed := false, alignOrd := none } } →
    t = c.ords.outs.foldl (fun s o => if o.op = 0x48 then endOrder o.id .aborted 0x12 s else abortOrder o.id 0x2A s) c →
    exec .drainLimit s = .next (settle t) ∧ t.pke.jobs = [] ∧ t.grt.queue = [] ∧ t.maps = [] ∧ t.alm.ords = [] ∧ t.twin.lists = [] ∧
      t.mer.step = [] ∧ t.twin.alignReq = false ∧ t.twin.alignFixed = false ∧ t.ords.outs = []) ∧
  (∀ s, (s.dev.mode ≠ .drain ∨ s.dev.drainTicks < 64) → exec .drainLimit s = .next (settle s))

/-- ALMANAC_WRITE, SWEEPER_VISIT, SURVEY_COMPARE_TICK, SURVEY_RECHECK and SURVEY_PASS_END: the Almanac writes every counter not yet
written at clock 180,000, and in the tick before an alignment the aligned epochs; a visited slot that is bad is emptied, counted and
recorded, a good one ages, and an entry that ages out goes to a joiner that has its snapshot; a running Survey compares 16,384
records a tick; a record compared again that still differs is recorded as a mismatch, and one that agrees is not; a pass that has
seen every record ends its order, with its event where a static entry was not seen (R136, R141, R142, R212). -/
def Obligations.SweepsAndSurveysRun : Prop :=
  (∀ fs t u s, s.time.run = true → s.time.clk ≤ 180000 → t = advanceTo 180000 s → t.time.clk = 180000 → t.twin.alignFixed = false →
    u = ((List.range 16).filter (fun c => (almOf t c).wrote.isNone)).foldl (almWriteOne fs) t →
    exec (.almanacWrite fs) s = .next (settle
      { u with alm := { u.alm with
        ords := u.alm.ords.map (fun o => if o.ctrs.all (fun c => (almOf u c).req.isNone) then { o with written := true } else o) } })) ∧
  (∀ fs t s, s.time.run = true → s.time.clk ≤ 180000 → t = advanceTo 180000 s → t.time.clk = 180000 → t.twin.alignFixed = true →
    now t + 1 = t.twin.alignTick →
    exec (.almanacWrite fs) s = .next (settle ((List.range 16).foldl (alignWriteOne fs) t))) ∧
  (∀ n h s, n < 2 ^ 21 → (now s).toNat % 128 * 16384 ≤ n → n < (now s).toNat % 128 * 16384 + 16384 → s.swp.visited ≤ n →
    exec (.sweeperVisit n true h) s = .next (settle (event (pg .swp) 2 (misRecord 4 n (bump (pg .swp) 0x218 1
      (let t := bump (pg .swp) 0x200 1 { s with swp := { s.swp with visited := n + 1 } }
       { t with gaz := { s.gaz with work := slotSet s.gaz.work n none } })))))) ∧
  (∀ n h s, n < 2 ^ 21 → (now s).toNat % 128 * 16384 ≤ n → n < (now s).toNat % 128 * 16384 + 16384 → s.swp.visited ≤ n →
    exec (.sweeperVisit n false h) s = .next (settle
      (let t := ageVisit n h (bump (pg .swp) 0x200 1 { s with swp := { s.swp with visited := n + 1 } })
       match slotGet s.gaz.work n with
       | some e =>
         if (slotGet t.gaz.work n).isSome then t
         else copyItem (.learn { aged := true, port := e.port, key := e.key, kind := e.kind, sa := e.sa, tick := now s, due := now s,
                                 twin := twinId s }) t
       | none => t))) ∧
  (∀ v s, s.swp.survey = some v → v.active = true → v.next < v.count → v.doneTick ≠ some (now s) →
    exec .surveyCompareTick s = .next (settle
      (((List.range (min 16384 (v.count - v.next))).map (fun i => v.next + i)).foldl (compareOne v.base)
        { s with swp := { s.swp with survey := some { v with next := v.next + min 16384 (v.count - v.next), doneTick := some (now s) } } }))) ∧
  (∀ n x b t y s, n < 2 ^ 21 → s.swp.recheck.find? (fun x => x.1 == n && isDue (now s) x.2.2) = some x →
    readBar2 .record (x.2.1 + 32 * n) 32 { s with swp := { s.swp with recheck := s.swp.recheck.erase x } } = (some b, t) → shadowValid b = true →
    shadowCompare t b = some y →
    exec (.surveyRecheck n) s = .next (settle (misRecord y n t))) ∧
  (∀ n x b t s, n < 2 ^ 21 → s.swp.recheck.find? (fun x => x.1 == n && isDue (now s) x.2.2) = some x →
    readBar2 .record (x.2.1 + 32 * n) 32 { s with swp := { s.swp with recheck := s.swp.recheck.erase x } } = (some b, t) → shadowValid b = true →
    shadowCompare t b = none →
    exec (.surveyRecheck n) s = .next (settle t)) ∧
  (∀ v s, s.swp.survey = some v → v.active = true → v.count ≤ v.next → v.rep = false →
    exec .surveyPassEnd s = .next (settle
      (let n := gazCount s.gaz.work - gazDynCount s.gaz.work
       let t := endOpt v.ord .ok 0
        { s with swp := { s.swp with survey := none, passSeen := v.seen, passStatic := n, passEdits := s.gaz.edits } }
       if v.seen != n then event (pg .swp) 1 (misRecord 3 0 t) else t)))

/-- FW_STAGE_DONE and FW_AGENT_RESTARTED: a staged image that reads back enters its slot and ends its order with OK, counted and with
its event, and one that does not ends it with FAULT; an agent that answers hands the activation to the next, the last to Tircy,
whose answer completes it; an agent that does not answer rolls it back. PROVISION_SWEEP_DONE, REKEY_DONE, SEGMENT_REWRITE_DONE and
ZEROIZE_SWEEP_DONE: a finished provisioning sweep puts the sealed path under the KEK, yields the twin wrapping key, ends its order
and makes CONFIGURE fall due; a finished re-key has swept its identifier and ends its order; a rewritten segment is no longer busy,
and the accesses that waited for it are served in their order; a finished ZEROIZED sweep empties the rings and ends the orders of
the mode. REMAP_OUT_DONE, RETRAINING_DONE and REMAP_IN_DONE: a channel whose granules have left is retrained, one that passes moves
them back in and one that does not is mapped out with its order ending in FAULT; when they are back its order ends with OK (R364,
R365, R374, R376, R377, R380, R458, R460). -/
def Obligations.FirmwareSweepsAndRetrainingMoveOn : Prop :=
  (∀ ok o n x s, s.fwu.stage = some (o, n, x) →
    exec (.fwStageDone ok) s = .next (settle (endOrder o (if ok then .ok else .fault) 0 (event (pg .fwu) 0 (bump (pg .fwu) 0x200 1
      { s with fwu := { s.fwu with phase := 0, stage := none, slots := s.fwu.slots.set n (if ok then x else { x with ok := false }) }
               dev := { s.dev with bootWait := s.dev.bootWait && !ok } }))))) ∧
  (∀ c o n s, c < 64 → s.fwu.act = some (o, n) → s.fwu.phase = 2 → agentOf s c = some 0 → s.fwu.agent = 0 →
    exec (.fwAgentRestarted c true) s = .next (settle
      (let t := fwRestart c s
       { t with fwu := { t.fwu with phase := 3, agent := 1 } }))) ∧
  (∀ c o n k s, c < 64 → s.fwu.act = some (o, n) → s.fwu.phase ≠ 4 → agentOf s c = some k → s.fwu.agent = k →
    exec (.fwAgentRestarted c false) s = .next (settle (fwRollback o n k s))) ∧
  (∀ c o n s, c < 4 → s.fwu.act = some (o, n) → s.fwu.phase = 4 →
    exec (.fwAgentRestarted c true) s = .next (settle (fwActivated o n s))) ∧
  (∀ fs o kek t s, s.sealPath.commitOrd = some o → s.lun.kek = some kek → t = (List.range 16).foldl (swept fs) s →
    (Instr.provisionSweepDone fs).wf = true →
    exec (.provisionSweepDone fs) s = .next (settle (trigger .configure 0x0A 4 none (endOrder o .ok 0
      { t with sealPath := { t.sealPath with commitOrd := none, changing := false, provisional := false, root := kek }
               keys := { t.keys with tkw := some (tkwOf kek) } })))) ∧
  (∀ k fs id s, (Instr.rekeyDone k fs).wf = true → s.sealPath.rekey = some (k, id) →
    exec (.rekeyDone k fs) s = .next (settle (endOpt id .ok 0
      (let t := swept fs s k
       { t with sealPath := { t.sealPath with rekey := none } })))) ∧
  (∀ n s, (Instr.segmentRewriteDone n).wf = true →
    exec (.segmentRewriteDone n) s = .next (settle
      ((s.sealPath.held.filter (fun x => segmentOf x.addr == n)).foldl (fun s x => takeAccess x s)
        { s with sealPath := { s.sealPath with
            rewriting := s.sealPath.rewriting.filter (· != n), held := s.sealPath.held.filter (fun x => !(segmentOf x.addr == n)) } }))) ∧
  (∀ fs t s, (Instr.zeroizeSweepDone fs).wf = true → s.dev.mode = .zeroized → s.sealPath.changing = true →
    t = [0, 3].foldl (sweptLines fs) s →
    exec (.zeroizeSweepDone fs) s = .next (settle (zeroOrders s.sealPath.zeroOrd
      { t with
        sealPath := { t.sealPath with changing := false, zeroOrd := none }
        ords := { t.ords with sqHead := 0, sqTail := 0, cqHead := 0, cqTail := 0 }
        era := { t.era with prod := 0, cons := 0 } }))) ∧
  (∀ c s, c < 8 → (chanState s c).st = 2 → exec (.remapOutDone c) s = .next (settle (chanTo c 3 (remapped c s)))) ∧
  (∀ c s, c < 8 → (chanState s c).st = 3 →
    exec (.retrainingDone c 1 0 true) s = .next (settle (modChan c (fun x => { x with prog := 0 }) (chanTo c 4 (trained c 1 0 true s))))) ∧
  (∀ c f s, c < 8 → f < 6 → (chanState s c).st = 3 →
    exec (.retrainingDone c 3 f false) s = .next (settle (retrainEnd c .fault (mapOut c (trained c 3 f false s))))) ∧
  (∀ c s, c < 8 → (chanState s c).st = 4 → exec (.remapInDone c) s = .next (settle (retrainEnd c .ok (chanTo c 1 (remapped c s)))))

/-- SEALED_READ, SEALED_WRITE and BOUNDARY_CHECK: with the sealed path up, a permitted read of a sound line answers its 64 bytes and
counts it, a permitted write of a whole line stores it; an access of the host to a segment being rewritten waits; one the master's
unit denies is counted and recorded and reaches nothing; a checked read of a register page answers its words, and a check of a
permitted address of the DRAM, or of a permitted write of a register page, changes nothing but CHECKED (R367, R369, R386). -/
def Obligations.SealedAccessesGoThroughTheBoundary : Prop :=
  (∀ m a s l, (Instr.sealedRead m a 0 false).wf = true → memUp m s = true → sealTarget a = true → segmentBusy s m a = false →
    permitted s m .read a = true → addrBad s a = false → l = a % 2 ^ 36 / 64 * 64 → poisoned s l = false →
    exec (.sealedRead m a 0 false) s = .next (settle
      { countLines 0x200 0x200 [l] (checkedBy m s) with out := s.out ++ [.data (readMem s l 64)] })) ∧
  (∀ m a n b s, (Instr.sealedRead m a n b).wf = true → memUp m s = true → sealTarget a = true → segmentBusy s m a = false →
    permitted s m .read a = false →
    exec (.sealedRead m a n b) s = .next (settle (denied m .read a (checkedBy m s)))) ∧
  (∀ m a n b s, (Instr.sealedRead m a n b).wf = true → memUp m s = true → sealTarget a = true → segmentBusy s m a = true →
    exec (.sealedRead m a n b) s = .next (settle
      { s with sealPath := { s.sealPath with held := s.sealPath.held ++ [{ m := m, addr := a, fails := n, integ := b, bytes := none }] } })) ∧
  (∀ m a bs s, (Instr.sealedWrite m a 0 bs false).wf = true → memUp m s = true → sealTarget a = true → segmentBusy s m a = false →
    permitted s m .write a = true → addrBad s a = false → bs.length = 64 → a % 64 = 0 →
    exec (.sealedWrite m a 0 bs false) s = .next (settle (linesWrite m (a % 2 ^ 36) bs (checkedBy m s)).2)) ∧
  (∀ m a n bs b s, (Instr.sealedWrite m a n bs b).wf = true → memUp m s = true → sealTarget a = true → segmentBusy s m a = false →
    permitted s m .write a = false →
    exec (.sealedWrite m a n bs b) s = .next (settle (denied m .write a (checkedBy m s)))) ∧
  (∀ m a n bs b s, (Instr.sealedWrite m a n bs b).wf = true → memUp m s = true → sealTarget a = true → segmentBusy s m a = true →
    exec (.sealedWrite m a n bs b) s = .next (settle
      { s with sealPath := { s.sealPath with
          held := s.sealPath.held ++ [{ m := m, addr := a, fails := n, integ := b, bytes := some bs }] } })) ∧
  (∀ m k a be n s, (Instr.boundaryCheck m k a ⟨0, be, n⟩).wf = true → reachable m s = true → permitted s m k a = true → a / 2 ^ 36 % 256 = 0 →
    exec (.boundaryCheck m k a ⟨0, be, n⟩) s = .next (settle (checkedBy m s))) ∧
  (∀ m k a be s, (Instr.boundaryCheck m k a ⟨0, be, 1⟩).wf = true → k ≠ .write → reachable m s = true → permitted s m k a = true →
    a / 2 ^ 36 % 256 = 0xF0 → (pageAt (a % 2 ^ 24 / 4 * 4 / 0x1000)).isSome = true →
    exec (.boundaryCheck m k a ⟨0, be, 1⟩) s = .next (settle
      { checkedBy m s with out := s.out ++ [.data ((List.range 4).filterMap (fun i =>
          if be.testBit i then (leBytes 4 (readReg (checkedBy m s) m (a % 2 ^ 24 / 4 * 4)).toNat)[i]? else none))] })) ∧
  (∀ m k a x s, (Instr.boundaryCheck m k a x).wf = true → reachable m s = true → permitted s m k a = false →
    exec (.boundaryCheck m k a x) s = .next (settle (denied m k a (checkedBy m s))))

/-- SCRUB, UCU_JOB_DONE and PKE_JOB_DONE: a correctable error in a structure is counted; an uncorrectable one in the Gazetteer or the
Contour empties its entry, one of a ledger makes its SA faulty at the boundary, and one of other memory is counted with its page's
fault; a job of the cipher unit whose source cannot be read ends with result 3, one whose computation gives a result or a
destination that can be written ends with result 0; the head job of the key engine leaves its queue with its clocks, count and
event: a job whose operands reach its area and can be read there gives its result, and any other ends with FAULT and its area zeroed
(R439, R445, R464). -/
def Obligations.ScrubberAndEnginesFinishTheirWork : Prop :=
  (∀ p i s, p ≠ 4 → (Instr.scrub p i true).wf = true → s.dev.mode ≠ .lunar → s.dev.mode ≠ .reset →
    exec (.scrub p i true) s = .next (settle (bump (pg .hlt) 0x218 1 s))) ∧
  (∀ i s, (Instr.scrub 4 i true).wf = true → s.dev.mode ≠ .lunar → s.dev.mode ≠ .reset →
    exec (.scrub 4 i true) s = .next (settle (bump (pg .seq) 0x208 1 s))) ∧
  (∀ i s, (Instr.scrub 1 i false).wf = true → s.dev.mode ≠ .lunar → s.dev.mode ≠ .reset →
    exec (.scrub 1 i false) s = .next (settle (corruptEntry i { s with gaz := { s.gaz with work := slotSet s.gaz.work i none } }))) ∧
  (∀ i s, (Instr.scrub 2 i false).wf = true → s.dev.mode ≠ .lunar → s.dev.mode ≠ .reset →
    exec (.scrub 2 i false) s = .next (settle (corruptEntry i { s with con := { s.con with work := s.con.work.eraseIdx i } }))) ∧
  (∀ i s, (Instr.scrub 4 i false).wf = true → s.dev.mode ≠ .lunar → s.dev.mode ≠ .reset →
    exec (.scrub 4 i false) s = .next (settle
      (let t := event (pg .seq) 0 (bump (pg .seq) 0x210 1 s)
       { t with orb := { t.orb with pend := t.orb.pend ++ [(i, .fault)] } }))) ∧
  (∀ i s, (Instr.scrub 5 i false).wf = true → s.dev.mode ≠ .lunar → s.dev.mode ≠ .reset →
    exec (.scrub 5 i false) s = .next (settle (bump (pg .hlt) 0x220 1 (setFault (pg .hlt) s)))) ∧
  (∀ t s, s.ucu.busy = true → dmaRead .ucu (ucuAddr s 0x10C) (ucuLen s) s = (none, t) →
    exec .ucuJobDone s = .next (settle (ucuEnd 3 [] t))) ∧
  (∀ src r t s, s.ucu.busy = true → dmaRead .ucu (ucuAddr s 0x10C) (ucuLen s) s = (some src, t) → ucuCompute t src = .result r →
    exec .ucuJobDone s = .next (settle (ucuEnd 0 r t))) ∧
  (∀ src d r t s, s.ucu.busy = true → dmaRead .ucu (ucuAddr s 0x10C) (ucuLen s) s = (some src, t) → ucuCompute t src = .dest d r →
    (dmaWrite .ucu (ucuAddr t 0x114) d t).1 = true →
    exec .ucuJobDone s = .next (settle (ucuEnd 0 r (dmaWrite .ucu (ucuAddr t 0x114) d t).2))) ∧
  (∀ f j r a s, s.pke.jobs = j :: r → j.attest = some a →
    exec (.pkeJobDone f) s = .next (settle (pkeResult j f (event (pg .pke) 0 (bump (pg .pke) 0x200 1
      { s with pke := { s.pke with jobs := r, lastClk := pkeClocks s j } }))))) ∧
  (∀ f j r b s t u, s.pke.jobs = j :: r → j.attest = none →
    sealWrite (.tircy 0) (areaAddr j.area) j.ops (event (pg .pke) 0 (bump (pg .pke) 0x200 1
      { s with pke := { s.pke with jobs := r, lastClk := pkeClocks s j } })) = (true, t) →
    dmaRead .pke (areaAddr j.area) j.ops.length t = (some b, u) →
    exec (.pkeJobDone f) s = .next (settle (pkeResult j f u))) ∧
  (∀ f j r s t, s.pke.jobs = j :: r → j.attest = none →
    sealWrite (.tircy 0) (areaAddr j.area) j.ops (event (pg .pke) 0 (bump (pg .pke) 0x200 1
      { s with pke := { s.pke with jobs := r, lastClk := pkeClocks s j } })) = (false, t) →
    exec (.pkeJobDone f) s = .next (settle (endOpt j.ord .fault (jobDetail j 0x14)
      (if hostJob j then zeroArea j.area t else jobRecord j 0xA0 .fault (zeroArea j.area t)))))

/-! ### The key agreement agent -/

/-- MKA_NEW_SAK: the steps of a key change, while this twin's agent acts: the new transmit SA is queued for installation under the next
AN; once installed its first field is announced; each peer's receive SA is queued with copies of the old one's entries; its
announced number becomes its floor at the earliest tick; the reported change switches the old SA over after the margin; the old
receive SA is closed once the overlap has passed since the first frame under the new one, and then cleaned up; and RETIRE_READY is
written for the old transmit SA once the overlap has passed since its switch (R238). -/
def Obligations.KeyAgreementTakesItsSteps : Prop :=
  (∀ old new sak e t s, (Instr.mkaNewSak (.install old new sak)).wf = true → mkaActs s = true → e = workSa s old → e.st = 1 → e.dir = 0 →
    isMacsec (recSuite e.record) = true → cakFor s (recLine e.record) = true → sak.length = keyLen (recSuite e.record) →
    mkaOf s new = none → mkaWaits s old = false →
    agentItem (.installImg new (nextImage e.record (some (regFld s (ra (pg .ecl) 0x10C) 3 0))) (some sak) false) s = (true, t) →
    exec (.mkaNewSak (.install old new sak)) s = .next (settle
      { t with ecl := { t.ecl with
        mka := t.ecl.mka ++ [{ old := old, new := new, sak := sak, peers := [], announced := false, switchAt := none, retired := false }]
        mkaHold := t.ecl.mkaHold.filter (fun h => h.1 != old) } })) ∧
  (∀ n c s, (Instr.mkaNewSak (.announce n)).wf = true → mkaActs s = true → mkaOf s n = some c → c.announced = false → (saOf s n).st = 1 →
    exec (.mkaNewSak (.announce n)) s = .next (settle
      { modMka n (fun c => { c with announced := true }) s with
        out := s.out ++ [.agent 0 .line (recLine (saOf s n).record) (announced (saOf s n)) none] })) ∧
  (∀ n old rx c e an t s, (Instr.mkaNewSak (.peer n old rx)).wf = true → mkaActs s = true → mkaOf s n = some c → e = workSa s old →
    e.st = 1 → e.dir = 1 → c.peers.any (fun p => p.new == rx) = false → an = (recAn e.record + 1) % 4 →
    agentItems (.installImg rx (nextImage e.record none) (some c.sak) false :: (entriesOf s old).map (fun g => .gaz (copyEdit an rx g))) s =
      (true, t) →
    exec (.mkaNewSak (.peer n old rx)) s = .next (settle (modMka n (fun c => { c with peers := c.peers ++
      [{ old := old, new := rx, floorDone := false, firstAt := none, closing := false, cleaned := false }] }) t))) ∧
  (∀ rx f c p s, (Instr.mkaNewSak (.floor rx f)).wf = true → mkaActs s = true → mkaPeerOf s rx = some (c, p) → p.floorDone = false →
    (workSa s rx).st = 1 →
    exec (.mkaNewSak (.floor rx f)) s = .next (settle
      (agentEclipse 1 rx 0 (earliest s) f (modPeer rx (fun p => { p with floorDone := true }) s)))) ∧
  (∀ n c s, (Instr.mkaNewSak (.reported n)).wf = true → mkaActs s = true → mkaOf s n = some c → c.announced = true → c.switchAt = none →
    (∀ p ∈ c.peers, p.floorDone = true) →
    exec (.mkaNewSak (.reported n)) s = .next (settle
      (agentEclipse 0 c.old n (now s + wd (regFld s (ra (pg .ecl) 0x108) 15 0)) 0
        (modMka n (fun c => { c with switchAt := some (now s + wd (regFld s (ra (pg .ecl) 0x108) 15 0)) }) s)))) ∧
  (∀ rx c p t s, (Instr.mkaNewSak (.close rx)).wf = true → mkaActs s = true → mkaPeerOf s rx = some (c, p) → p.firstAt = some t →
    p.closing = false → overlapPast s t = true →
    exec (.mkaNewSak (.close rx)) s = .next (settle
      (agentEclipse 2 p.old 0 (earliest s) 0 (modPeer rx (fun p => { p with closing := true }) s)))) ∧
  (∀ rx c p t s, (Instr.mkaNewSak (.cleanup rx)).wf = true → mkaActs s = true → mkaPeerOf s rx = some (c, p) → p.cleaned = false →
    p.closing = true → (saOf s p.old).closed = true → (workSa s p.old).st ≠ 0 →
    agentItems ((entriesOf s p.old).map (fun g => .gaz (dropEdit g)) ++ [.erase p.old]) s = (true, t) →
    exec (.mkaNewSak (.cleanup rx)) s = .next (settle (mkaOver (modPeer rx (fun p => { p with cleaned := true }) t)))) ∧
  (∀ n c t s, (Instr.mkaNewSak (.retire n)).wf = true → mkaActs s = true → mkaOf s n = some c → c.switchAt = some t → c.retired = false →
    overlapPast s t = true → eclSuccessor s c.old = some n →
    exec (.mkaNewSak (.retire n)) s = .next (settle (eclNote 2 0 c.old (mkaOver (modMka n (fun c => { c with retired := true }) s)))))
end

