-- ==== Sys2Proof/Laws/Gate.lean ====
section
/-! SUPPORT. The register gate once and for all: what a register command does when its master reaches the page, when it is denied and
when it cannot reach the device; and what an access counted in CHECKED leaves as it was. -/

namespace Sys2Proof.Machine

/-! ### An access counted in CHECKED changes one counter -/

@[simp] theorem getReg_checkedBy (m : Master) (s : State) (a : Nat) : getReg (checkedBy m s) a = getReg s a := rfl
@[simp] theorem regFld_checkedBy (m : Master) (s : State) (a h l : Nat) : regFld (checkedBy m s) a h l = regFld s a h l := rfl
@[simp] theorem legend_checkedBy (m : Master) (s : State) (p : Nat) : legend (checkedBy m s) p = legend s p := rfl
@[simp] theorem modeIn_checkedBy (m : Master) (s : State) (l : List Mode) : modeIn l (checkedBy m s) = modeIn l s := rfl
@[simp] theorem behaviour_checkedBy (m : Master) (s : State) (n : Nat) : behaviour (checkedBy m s) n = behaviour s n := rfl
@[simp] theorem permitted_checkedBy (m m' : Master) (s : State) (k : Access) (a : Nat) :
    permitted (checkedBy m s) m' k a = permitted s m' k a := rfl
@[simp] theorem ucuOwner_checkedBy (m m' : Master) (s : State) : ucuOwner (checkedBy m s) m' = ucuOwner s m' := rfl
@[simp] theorem now_checkedBy (m : Master) (s : State) : now (checkedBy m s) = now s := rfl
@[simp] theorem ucu_checkedBy (m : Master) (s : State) : (checkedBy m s).ucu = s.ucu := rfl
@[simp] theorem rng_checkedBy (m : Master) (s : State) : (checkedBy m s).rng = s.rng := rfl
@[simp] theorem ords_checkedBy (m : Master) (s : State) : (checkedBy m s).ords = s.ords := rfl
@[simp] theorem era_checkedBy (m : Master) (s : State) : (checkedBy m s).era = s.era := rfl
@[simp] theorem lrn_checkedBy (m : Master) (s : State) : (checkedBy m s).lrn = s.lrn := rfl
@[simp] theorem smp_checkedBy (m : Master) (s : State) : (checkedBy m s).smp = s.smp := rfl
@[simp] theorem tsi_checkedBy (m : Master) (s : State) : (checkedBy m s).tsi = s.tsi := rfl
@[simp] theorem bdyOf_checkedBy (m : Master) (s : State) (u : Nat) : bdyOf (checkedBy m s) u = bdyOf s u := rfl
@[simp] theorem intr_checkedBy (m : Master) (s : State) : (checkedBy m s).intr = s.intr := rfl
@[simp] theorem outstanding_checkedBy (m : Master) (s : State) : outstanding (checkedBy m s) = outstanding s := rfl
@[simp] theorem dev_checkedBy (m : Master) (s : State) : (checkedBy m s).dev = s.dev := rfl
@[simp] theorem regs_checkedBy (m : Master) (s : State) : (checkedBy m s).regs = s.regs := rfl
@[simp] theorem legends_checkedBy (m : Master) (s : State) : (checkedBy m s).legends = s.legends := rfl
@[simp] theorem setReg_regs_checkedBy (m : Master) (s : State) (a : Nat) (v : Word) :
    (setReg (checkedBy m s) a v).regs = (setReg s a v).regs := rfl

/-! ### The three outcomes of the gate (R42, R383, R384, R386, R408) -/

/-- A granted access runs the register's effect on the state with the access counted. -/
theorem regCmd_granted {m : Master} {a : Nat} {s : State} (f : State → State) (h1 : reachable m s = true)
    (h2 : permitted s m .write (regAddr a) = true) : regCmd m a f s = f (checkedBy m s) := by
  have h3 : permitted (bump (pg .bdy (unitOf m).1) 512 1 s) m .write (regAddr a) = true := h2
  simp [regCmd, checked, h1, h3, checkedBy]

/-- A denied access is counted and recorded, and touches no register. -/
theorem regCmd_denied {m : Master} {a : Nat} {s : State} (f : State → State) (h1 : reachable m s = true)
    (h2 : permitted s m .write (regAddr a) = false) : regCmd m a f s = denied m .write (regAddr a) (checkedBy m s) := by
  have h3 : permitted (bump (pg .bdy (unitOf m).1) 512 1 s) m .write (regAddr a) = false := h2
  simp [regCmd, checked, h1, h3, checkedBy]

/-- An access that cannot reach the device does nothing. -/
theorem regCmd_unreachable {m : Master} {a : Nat} {s : State} (f : State → State) (h : reachable m s = false) :
    regCmd m a f s = s := by
  simp [regCmd, h]

/-! ### Pages -/

/-- An assigned page lies among the 4,096 pages of BAR0. -/
theorem pageAt_lt {p : Nat} (h : (pageAt p).isSome = true) : p < 4096 := by
  simp only [pageAt, pageRowAt, Option.isSome_map, List.find?_isSome] at h
  obtain ⟨r, hr, h2⟩ := h
  have h3 : ∀ r ∈ pageMap, r.first + r.count ≤ 4096 := by decide
  have := h3 r hr
  simp at h2; omega

/-- The page of pipeline `p`. -/
theorem pageAt_pipe {p : Nat} (h : p < 42) : pageAt (pg .pipe p) = some (.pipe, p) := by
  have h2 : ∀ p < 42, pageAt (pg .pipe p) = some (.pipe, p) := by decide
  exact h2 p h

/-- A header command on an assigned page is a register command there. -/
theorem headerCmd_granted {m : Master} {page off : Nat} {s : State} (f : State → State) (h1 : reachable m s = true)
    (h2 : permitted s m .write (regAddr (ra page off)) = true) (h3 : (pageAt page).isSome = true) :
    headerCmd m page off f s = f (checkedBy m s) := by
  simp [headerCmd, pageAt_lt h3, regCmd_granted f h1 h2, h3]

end Sys2Proof.Machine
end

