-- ==== Sys2Proof/Laws/Sparse.lean ====
section
/-! SUPPORT. Sparse tables: what a key reads after each operation, and that each keeps the canonical form. -/

namespace Sys2Proof.Machine

variable {α : Type}

@[simp] theorem spGet_nil (d : α) (k : Nat) : spGet d [] k = d := rfl

/-- A key below every listed one reads the default. -/
theorem spGet_below (d : α) (m : Sparse α) (k lo : Nat) (h : spSorted (some lo) m = true) (hk : k ≤ lo) : spGet d m k = d := by
  cases m with
  | nil => rfl
  | cons e r =>
    obtain ⟨a, v⟩ := e
    simp only [spSorted, Bool.and_eq_true, decide_eq_true_eq] at h
    have h1 : ¬ a = k := by omega
    have h2 : k < a := by omega
    simp [spGet, h1, h2]

/-- A weaker lower bound holds too. -/
theorem spSorted_none (m : Sparse α) (lo : Option Nat) (h : spSorted lo m = true) : spSorted none m = true := by
  cases m with
  | nil => rfl
  | cons e r =>
    simp only [spSorted, Bool.and_eq_true] at h ⊢
    exact ⟨trivial, h.2⟩

theorem spSorted_mono (m : Sparse α) (a b : Nat) (hab : a ≤ b) (h : spSorted (some b) m = true) : spSorted (some a) m = true := by
  cases m with
  | nil => rfl
  | cons e r =>
    simp only [spSorted, Bool.and_eq_true, decide_eq_true_eq] at h ⊢
    exact ⟨by omega, h.2⟩

/-- An inserted key reads its value. -/
@[simp] theorem spGet_spInsert_self (d v : α) (m : Sparse α) (k : Nat) : spGet d (spInsert k v m) k = v := by
  induction m with
  | nil => simp [spInsert, spGet]
  | cons e r ih =>
    obtain ⟨a, w⟩ := e
    simp only [spInsert]
    split
    · simp [spGet]
    · split
      · simp [spGet]
      · rename_i h1 h2
        simp [spGet, h1, h2, ih]

/-- An insertion leaves every other key alone. -/
theorem spGet_spInsert_ne (d v : α) (m : Sparse α) (k j : Nat) (h : j ≠ k) : spGet d (spInsert k v m) j = spGet d m j := by
  induction m with
  | nil =>
    simp only [spInsert, spGet]
    split
    · exact absurd ‹_› (Ne.symm h)
    · split <;> rfl
  | cons e r ih =>
    obtain ⟨a, w⟩ := e
    simp only [spInsert]
    split
    · rename_i h1
      subst h1
      have h2 : ¬ a = j := fun x => h x.symm
      simp [spGet, h2]
    · split
      · rename_i h1 h2
        simp only [spGet]
        by_cases h3 : k = j
        · exact absurd h3 (Ne.symm h)
        · by_cases h4 : j < k
          · have h5 : ¬ a = j := by omega
            have h6 : j < a := by omega
            simp [h3, h4, h5, h6]
          · simp [h3, h4]
      · simp only [spGet, ih]

/-- An insertion keeps the keys rising, over any bound below its key. -/
theorem spInsert_sorted (v : α) (m : Sparse α) (k : Nat) (lo : Option Nat) (h : spSorted lo m = true)
    (hk : ∀ l, lo = some l → l < k) : spSorted lo (spInsert k v m) = true := by
  induction m generalizing lo with
  | nil =>
    cases lo with
    | none => rfl
    | some l => simp [spInsert, spSorted, hk l rfl]
  | cons e r ih =>
    obtain ⟨a, w⟩ := e
    simp only [spSorted, Bool.and_eq_true] at h
    simp only [spInsert]
    split
    · rename_i h1
      subst h1
      simp only [spSorted, Bool.and_eq_true]
      exact h
    · split
      · rename_i h1 h2
        simp only [spSorted, Bool.and_eq_true, decide_eq_true_eq]
        refine ⟨?_, h2, h.2⟩
        cases lo with
        | none => rfl
        | some l => simp [hk l rfl]
      · rename_i h1 h2
        simp only [spSorted, Bool.and_eq_true]
        exact ⟨h.1, ih (some a) h.2 (by intro l hl; injection hl with hl; omega)⟩

/-- A removal keeps the keys rising. -/
theorem spErase_sorted (m : Sparse α) (k : Nat) (lo : Option Nat) (h : spSorted lo m = true) : spSorted lo (spErase k m) = true := by
  induction m generalizing lo with
  | nil => exact h
  | cons e r ih =>
    obtain ⟨a, w⟩ := e
    simp only [spErase]
    have h' := h
    simp only [spSorted, Bool.and_eq_true] at h
    split
    · cases lo with
      | none => exact spSorted_none r (some a) h.2
      | some l =>
        have h3 : l < a := by simpa using h.1
        exact spSorted_mono r l a (by omega) h.2
    · split
      · exact h'
      · simp only [spSorted, Bool.and_eq_true]
        exact ⟨h.1, ih (some a) h.2⟩

/-- A removed key reads the default. -/
theorem spGet_spErase_self (d : α) (m : Sparse α) (k : Nat) (lo : Option Nat) (h : spSorted lo m = true) : spGet d (spErase k m) k = d := by
  induction m generalizing lo with
  | nil => rfl
  | cons e r ih =>
    obtain ⟨a, w⟩ := e
    simp only [spSorted, Bool.and_eq_true] at h
    simp only [spErase]
    split
    · rename_i h1
      exact spGet_below d r k a h.2 (by omega)
    · split
      · rename_i h1 h2
        simp [spGet, h1, h2]
      · rename_i h1 h2
        simp only [spGet, h1, h2, if_false]
        exact ih (some a) h.2

/-- A removal leaves every other key alone. -/
theorem spGet_spErase_ne (d : α) (m : Sparse α) (k j : Nat) (lo : Option Nat) (h : spSorted lo m = true) (hj : j ≠ k) :
    spGet d (spErase k m) j = spGet d m j := by
  induction m generalizing lo with
  | nil => rfl
  | cons e r ih =>
    obtain ⟨a, w⟩ := e
    simp only [spSorted, Bool.and_eq_true] at h
    simp only [spErase]
    split
    · rename_i h1
      subst h1
      simp only [spGet]
      by_cases h4 : j < a
      · have : ¬ a = j := by omega
        simp [this, h4, spGet_below d r j a h.2 (by omega)]
      · have : ¬ a = j := fun e => hj e.symm
        simp [this, h4]
    · split
      · rfl
      · simp only [spGet, ih (some a) h.2]

/-- Read after write at the same key. -/
theorem spGet_spSet_self [DecidableEq α] (d v : α) (m : Sparse α) (k : Nat) (h : spWf d m = true) : spGet d (spSet d m k v) k = v := by
  simp only [spWf, Bool.and_eq_true] at h
  simp only [spSet]
  split
  · rename_i e
    rw [spGet_spErase_self d m k none h.1, e]
  · simp

/-- A write leaves every other key alone. -/
theorem spGet_spSet_ne [DecidableEq α] (d v : α) (m : Sparse α) (k j : Nat) (h : spWf d m = true) (hj : j ≠ k) :
    spGet d (spSet d m k v) j = spGet d m j := by
  simp only [spWf, Bool.and_eq_true] at h
  simp only [spSet]
  split
  · exact spGet_spErase_ne d m k j none h.1 hj
  · exact spGet_spInsert_ne d v m k j hj

theorem spErase_mem (m : Sparse α) (k : Nat) : ∀ e ∈ spErase k m, e ∈ m := by
  induction m with
  | nil => simp [spErase]
  | cons x r ih =>
    obtain ⟨a, w⟩ := x
    intro e he
    simp only [spErase] at he
    split at he
    · exact List.mem_cons_of_mem _ he
    · split at he
      · exact he
      · rcases List.mem_cons.1 he with he | he
        · simp [he]
        · exact List.mem_cons_of_mem _ (ih e he)

theorem spInsert_mem (m : Sparse α) (k : Nat) (v : α) : ∀ e ∈ spInsert k v m, e = (k, v) ∨ e ∈ m := by
  induction m with
  | nil => simp [spInsert]
  | cons x r ih =>
    obtain ⟨a, w⟩ := x
    intro e he
    simp only [spInsert] at he
    split at he
    · rcases List.mem_cons.1 he with he | he
      · exact .inl he
      · exact .inr (List.mem_cons_of_mem _ he)
    · split at he
      · rcases List.mem_cons.1 he with he | he
        · exact .inl he
        · exact .inr he
      · rcases List.mem_cons.1 he with he | he
        · simp [he]
        · rcases ih e he with h | h
          · exact .inl h
          · exact .inr (List.mem_cons_of_mem _ h)

/-- A write keeps the canonical form. -/
theorem spWf_spSet [DecidableEq α] (d v : α) (m : Sparse α) (k : Nat) (h : spWf d m = true) : spWf d (spSet d m k v) = true := by
  simp only [spWf, Bool.and_eq_true, List.all_eq_true, decide_eq_true_eq] at h ⊢
  simp only [spSet]
  split
  · exact ⟨spErase_sorted m k none h.1, fun e he => h.2 e (spErase_mem m k e he)⟩
  · rename_i hv
    refine ⟨spInsert_sorted v m k none h.1 (by intro l hl; cases hl), fun e he => ?_⟩
    rcases spInsert_mem m k v e he with rfl | he
    · exact hv
    · exact h.2 e he

theorem spSorted_filter (p : Nat × α → Bool) (m : Sparse α) (lo : Option Nat) (h : spSorted lo m = true) :
    spSorted lo (m.filter p) = true := by
  induction m generalizing lo with
  | nil => exact h
  | cons e r ih =>
    have h' := h
    simp only [spSorted, Bool.and_eq_true] at h
    rw [List.filter_cons]
    split
    · simp only [spSorted, Bool.and_eq_true]
      exact ⟨h.1, ih _ h.2⟩
    · apply ih
      cases lo with
      | none => exact spSorted_none r (some e.1) h.2
      | some l =>
        have h3 : l < e.1 := by simpa using h.1
        exact spSorted_mono r l e.1 (by omega) h.2

/-- Keeping some of the entries keeps the canonical form. -/
theorem spWf_spKeep [DecidableEq α] (d : α) (p : Nat → Bool) (m : Sparse α) (h : spWf d m = true) : spWf d (spKeep p m) = true := by
  simp only [spWf, Bool.and_eq_true, List.all_eq_true, decide_eq_true_eq] at h ⊢
  exact ⟨spSorted_filter _ m none h.1, fun e he => h.2 e (List.mem_filter.1 he).1⟩

end Sys2Proof.Machine
end

