-- ==== Sys2Proof/Laws/State.lean ====
section
/-! SUPPORT. What the shared updates of the state leave alone, one lemma for each field and update, so that no proof unfolds a
record update. -/

namespace Sys2Proof.Machine

/-! ### setReg: A write of a register changes `regs` alone -/

@[simp] theorem setReg_pending (s : State) (a : Nat) (v : Word) : (setReg s a v).pending = s.pending := rfl
@[simp] theorem setReg_out (s : State) (a : Nat) (v : Word) : (setReg s a v).out = s.out := rfl
@[simp] theorem setReg_dev (s : State) (a : Nat) (v : Word) : (setReg s a v).dev = s.dev := rfl
@[simp] theorem setReg_time (s : State) (a : Nat) (v : Word) : (setReg s a v).time = s.time := rfl
@[simp] theorem setReg_legends (s : State) (a : Nat) (v : Word) : (setReg s a v).legends = s.legends := rfl
@[simp] theorem setReg_ctrs (s : State) (a : Nat) (v : Word) : (setReg s a v).ctrs = s.ctrs := rfl
@[simp] theorem setReg_snaps (s : State) (a : Nat) (v : Word) : (setReg s a v).snaps = s.snaps := rfl
@[simp] theorem setReg_intr (s : State) (a : Nat) (v : Word) : (setReg s a v).intr = s.intr := rfl
@[simp] theorem setReg_ords (s : State) (a : Nat) (v : Word) : (setReg s a v).ords = s.ords := rfl
@[simp] theorem setReg_era (s : State) (a : Nat) (v : Word) : (setReg s a v).era = s.era := rfl
@[simp] theorem setReg_log (s : State) (a : Nat) (v : Word) : (setReg s a v).log = s.log := rfl
@[simp] theorem setReg_mem (s : State) (a : Nat) (v : Word) : (setReg s a v).mem = s.mem := rfl
@[simp] theorem setReg_chans (s : State) (a : Nat) (v : Word) : (setReg s a v).chans = s.chans := rfl
@[simp] theorem setReg_sealPath (s : State) (a : Nat) (v : Word) : (setReg s a v).sealPath = s.sealPath := rfl
@[simp] theorem setReg_bdy (s : State) (a : Nat) (v : Word) : (setReg s a v).bdy = s.bdy := rfl
@[simp] theorem setReg_lun (s : State) (a : Nat) (v : Word) : (setReg s a v).lun = s.lun := rfl
@[simp] theorem setReg_ucu (s : State) (a : Nat) (v : Word) : (setReg s a v).ucu = s.ucu := rfl
@[simp] theorem setReg_pke (s : State) (a : Nat) (v : Word) : (setReg s a v).pke = s.pke := rfl
@[simp] theorem setReg_rng (s : State) (a : Nat) (v : Word) : (setReg s a v).rng = s.rng := rfl
@[simp] theorem setReg_keys (s : State) (a : Nat) (v : Word) : (setReg s a v).keys = s.keys := rfl
@[simp] theorem setReg_fwu (s : State) (a : Nat) (v : Word) : (setReg s a v).fwu = s.fwu := rfl
@[simp] theorem setReg_hlt (s : State) (a : Nat) (v : Word) : (setReg s a v).hlt = s.hlt := rfl
@[simp] theorem setReg_smp (s : State) (a : Nat) (v : Word) : (setReg s a v).smp = s.smp := rfl
@[simp] theorem setReg_tap (s : State) (a : Nat) (v : Word) : (setReg s a v).tap = s.tap := rfl
@[simp] theorem setReg_cfg (s : State) (a : Nat) (v : Word) : (setReg s a v).cfg = s.cfg := rfl
@[simp] theorem setReg_plainPorts (s : State) (a : Nat) (v : Word) : (setReg s a v).plainPorts = s.plainPorts := rfl
@[simp] theorem setReg_linePorts (s : State) (a : Nat) (v : Word) : (setReg s a v).linePorts = s.linePorts := rfl
@[simp] theorem setReg_maps (s : State) (a : Nat) (v : Word) : (setReg s a v).maps = s.maps := rfl
@[simp] theorem setReg_frames (s : State) (a : Nat) (v : Word) : (setReg s a v).frames = s.frames := rfl
@[simp] theorem setReg_gaz (s : State) (a : Nat) (v : Word) : (setReg s a v).gaz = s.gaz := rfl
@[simp] theorem setReg_con (s : State) (a : Nat) (v : Word) : (setReg s a v).con = s.con := rfl
@[simp] theorem setReg_lrn (s : State) (a : Nat) (v : Word) : (setReg s a v).lrn = s.lrn := rfl
@[simp] theorem setReg_swp (s : State) (a : Nat) (v : Word) : (setReg s a v).swp = s.swp := rfl
@[simp] theorem setReg_orb (s : State) (a : Nat) (v : Word) : (setReg s a v).orb = s.orb := rfl
@[simp] theorem setReg_grt (s : State) (a : Nat) (v : Word) : (setReg s a v).grt = s.grt := rfl
@[simp] theorem setReg_pipes (s : State) (a : Nat) (v : Word) : (setReg s a v).pipes = s.pipes := rfl
@[simp] theorem setReg_rota (s : State) (a : Nat) (v : Word) : (setReg s a v).rota = s.rota := rfl
@[simp] theorem setReg_alm (s : State) (a : Nat) (v : Word) : (setReg s a v).alm = s.alm := rfl
@[simp] theorem setReg_ecl (s : State) (a : Nat) (v : Word) : (setReg s a v).ecl = s.ecl := rfl
@[simp] theorem setReg_hwys (s : State) (a : Nat) (v : Word) : (setReg s a v).hwys = s.hwys := rfl
@[simp] theorem setReg_tribs (s : State) (a : Nat) (v : Word) : (setReg s a v).tribs = s.tribs := rfl
@[simp] theorem setReg_aps (s : State) (a : Nat) (v : Word) : (setReg s a v).aps = s.aps := rfl
@[simp] theorem setReg_tsi (s : State) (a : Nat) (v : Word) : (setReg s a v).tsi = s.tsi := rfl
@[simp] theorem setReg_buns (s : State) (a : Nat) (v : Word) : (setReg s a v).buns = s.buns := rfl
@[simp] theorem setReg_bunSt (s : State) (a : Nat) (v : Word) : (setReg s a v).bunSt = s.bunSt := rfl
@[simp] theorem setReg_pmb (s : State) (a : Nat) (v : Word) : (setReg s a v).pmb = s.pmb := rfl
@[simp] theorem setReg_twin (s : State) (a : Nat) (v : Word) : (setReg s a v).twin = s.twin := rfl
@[simp] theorem setReg_mer (s : State) (a : Nat) (v : Word) : (setReg s a v).mer = s.mer := rfl

/-! ### bump: Counting changes `ctrs` alone -/

@[simp] theorem bump_pending (p o n : Nat) (s : State) : (bump p o n s).pending = s.pending := rfl
@[simp] theorem bump_out (p o n : Nat) (s : State) : (bump p o n s).out = s.out := rfl
@[simp] theorem bump_dev (p o n : Nat) (s : State) : (bump p o n s).dev = s.dev := rfl
@[simp] theorem bump_time (p o n : Nat) (s : State) : (bump p o n s).time = s.time := rfl
@[simp] theorem bump_regs (p o n : Nat) (s : State) : (bump p o n s).regs = s.regs := rfl
@[simp] theorem bump_legends (p o n : Nat) (s : State) : (bump p o n s).legends = s.legends := rfl
@[simp] theorem bump_snaps (p o n : Nat) (s : State) : (bump p o n s).snaps = s.snaps := rfl
@[simp] theorem bump_intr (p o n : Nat) (s : State) : (bump p o n s).intr = s.intr := rfl
@[simp] theorem bump_ords (p o n : Nat) (s : State) : (bump p o n s).ords = s.ords := rfl
@[simp] theorem bump_era (p o n : Nat) (s : State) : (bump p o n s).era = s.era := rfl
@[simp] theorem bump_log (p o n : Nat) (s : State) : (bump p o n s).log = s.log := rfl
@[simp] theorem bump_mem (p o n : Nat) (s : State) : (bump p o n s).mem = s.mem := rfl
@[simp] theorem bump_chans (p o n : Nat) (s : State) : (bump p o n s).chans = s.chans := rfl
@[simp] theorem bump_sealPath (p o n : Nat) (s : State) : (bump p o n s).sealPath = s.sealPath := rfl
@[simp] theorem bump_bdy (p o n : Nat) (s : State) : (bump p o n s).bdy = s.bdy := rfl
@[simp] theorem bump_lun (p o n : Nat) (s : State) : (bump p o n s).lun = s.lun := rfl
@[simp] theorem bump_ucu (p o n : Nat) (s : State) : (bump p o n s).ucu = s.ucu := rfl
@[simp] theorem bump_pke (p o n : Nat) (s : State) : (bump p o n s).pke = s.pke := rfl
@[simp] theorem bump_rng (p o n : Nat) (s : State) : (bump p o n s).rng = s.rng := rfl
@[simp] theorem bump_keys (p o n : Nat) (s : State) : (bump p o n s).keys = s.keys := rfl
@[simp] theorem bump_fwu (p o n : Nat) (s : State) : (bump p o n s).fwu = s.fwu := rfl
@[simp] theorem bump_hlt (p o n : Nat) (s : State) : (bump p o n s).hlt = s.hlt := rfl
@[simp] theorem bump_smp (p o n : Nat) (s : State) : (bump p o n s).smp = s.smp := rfl
@[simp] theorem bump_tap (p o n : Nat) (s : State) : (bump p o n s).tap = s.tap := rfl
@[simp] theorem bump_cfg (p o n : Nat) (s : State) : (bump p o n s).cfg = s.cfg := rfl
@[simp] theorem bump_plainPorts (p o n : Nat) (s : State) : (bump p o n s).plainPorts = s.plainPorts := rfl
@[simp] theorem bump_linePorts (p o n : Nat) (s : State) : (bump p o n s).linePorts = s.linePorts := rfl
@[simp] theorem bump_maps (p o n : Nat) (s : State) : (bump p o n s).maps = s.maps := rfl
@[simp] theorem bump_frames (p o n : Nat) (s : State) : (bump p o n s).frames = s.frames := rfl
@[simp] theorem bump_gaz (p o n : Nat) (s : State) : (bump p o n s).gaz = s.gaz := rfl
@[simp] theorem bump_con (p o n : Nat) (s : State) : (bump p o n s).con = s.con := rfl
@[simp] theorem bump_lrn (p o n : Nat) (s : State) : (bump p o n s).lrn = s.lrn := rfl
@[simp] theorem bump_swp (p o n : Nat) (s : State) : (bump p o n s).swp = s.swp := rfl
@[simp] theorem bump_orb (p o n : Nat) (s : State) : (bump p o n s).orb = s.orb := rfl
@[simp] theorem bump_grt (p o n : Nat) (s : State) : (bump p o n s).grt = s.grt := rfl
@[simp] theorem bump_pipes (p o n : Nat) (s : State) : (bump p o n s).pipes = s.pipes := rfl
@[simp] theorem bump_rota (p o n : Nat) (s : State) : (bump p o n s).rota = s.rota := rfl
@[simp] theorem bump_alm (p o n : Nat) (s : State) : (bump p o n s).alm = s.alm := rfl
@[simp] theorem bump_ecl (p o n : Nat) (s : State) : (bump p o n s).ecl = s.ecl := rfl
@[simp] theorem bump_hwys (p o n : Nat) (s : State) : (bump p o n s).hwys = s.hwys := rfl
@[simp] theorem bump_tribs (p o n : Nat) (s : State) : (bump p o n s).tribs = s.tribs := rfl
@[simp] theorem bump_aps (p o n : Nat) (s : State) : (bump p o n s).aps = s.aps := rfl
@[simp] theorem bump_tsi (p o n : Nat) (s : State) : (bump p o n s).tsi = s.tsi := rfl
@[simp] theorem bump_buns (p o n : Nat) (s : State) : (bump p o n s).buns = s.buns := rfl
@[simp] theorem bump_bunSt (p o n : Nat) (s : State) : (bump p o n s).bunSt = s.bunSt := rfl
@[simp] theorem bump_pmb (p o n : Nat) (s : State) : (bump p o n s).pmb = s.pmb := rfl
@[simp] theorem bump_twin (p o n : Nat) (s : State) : (bump p o n s).twin = s.twin := rfl
@[simp] theorem bump_mer (p o n : Nat) (s : State) : (bump p o n s).mer = s.mer := rfl

/-! ### modLegend: A change of a Legend header changes `legends` alone -/

@[simp] theorem modLegend_pending (p : Nat) (f : Legend → Legend) (s : State) : (modLegend p f s).pending = s.pending := rfl
@[simp] theorem modLegend_out (p : Nat) (f : Legend → Legend) (s : State) : (modLegend p f s).out = s.out := rfl
@[simp] theorem modLegend_dev (p : Nat) (f : Legend → Legend) (s : State) : (modLegend p f s).dev = s.dev := rfl
@[simp] theorem modLegend_time (p : Nat) (f : Legend → Legend) (s : State) : (modLegend p f s).time = s.time := rfl
@[simp] theorem modLegend_regs (p : Nat) (f : Legend → Legend) (s : State) : (modLegend p f s).regs = s.regs := rfl
@[simp] theorem modLegend_ctrs (p : Nat) (f : Legend → Legend) (s : State) : (modLegend p f s).ctrs = s.ctrs := rfl
@[simp] theorem modLegend_snaps (p : Nat) (f : Legend → Legend) (s : State) : (modLegend p f s).snaps = s.snaps := rfl
@[simp] theorem modLegend_intr (p : Nat) (f : Legend → Legend) (s : State) : (modLegend p f s).intr = s.intr := rfl
@[simp] theorem modLegend_ords (p : Nat) (f : Legend → Legend) (s : State) : (modLegend p f s).ords = s.ords := rfl
@[simp] theorem modLegend_era (p : Nat) (f : Legend → Legend) (s : State) : (modLegend p f s).era = s.era := rfl
@[simp] theorem modLegend_log (p : Nat) (f : Legend → Legend) (s : State) : (modLegend p f s).log = s.log := rfl
@[simp] theorem modLegend_mem (p : Nat) (f : Legend → Legend) (s : State) : (modLegend p f s).mem = s.mem := rfl
@[simp] theorem modLegend_chans (p : Nat) (f : Legend → Legend) (s : State) : (modLegend p f s).chans = s.chans := rfl
@[simp] theorem modLegend_sealPath (p : Nat) (f : Legend → Legend) (s : State) : (modLegend p f s).sealPath = s.sealPath := rfl
@[simp] theorem modLegend_bdy (p : Nat) (f : Legend → Legend) (s : State) : (modLegend p f s).bdy = s.bdy := rfl
@[simp] theorem modLegend_lun (p : Nat) (f : Legend → Legend) (s : State) : (modLegend p f s).lun = s.lun := rfl
@[simp] theorem modLegend_ucu (p : Nat) (f : Legend → Legend) (s : State) : (modLegend p f s).ucu = s.ucu := rfl
@[simp] theorem modLegend_pke (p : Nat) (f : Legend → Legend) (s : State) : (modLegend p f s).pke = s.pke := rfl
@[simp] theorem modLegend_rng (p : Nat) (f : Legend → Legend) (s : State) : (modLegend p f s).rng = s.rng := rfl
@[simp] theorem modLegend_keys (p : Nat) (f : Legend → Legend) (s : State) : (modLegend p f s).keys = s.keys := rfl
@[simp] theorem modLegend_fwu (p : Nat) (f : Legend → Legend) (s : State) : (modLegend p f s).fwu = s.fwu := rfl
@[simp] theorem modLegend_hlt (p : Nat) (f : Legend → Legend) (s : State) : (modLegend p f s).hlt = s.hlt := rfl
@[simp] theorem modLegend_smp (p : Nat) (f : Legend → Legend) (s : State) : (modLegend p f s).smp = s.smp := rfl
@[simp] theorem modLegend_tap (p : Nat) (f : Legend → Legend) (s : State) : (modLegend p f s).tap = s.tap := rfl
@[simp] theorem modLegend_cfg (p : Nat) (f : Legend → Legend) (s : State) : (modLegend p f s).cfg = s.cfg := rfl
@[simp] theorem modLegend_plainPorts (p : Nat) (f : Legend → Legend) (s : State) : (modLegend p f s).plainPorts = s.plainPorts := rfl
@[simp] theorem modLegend_linePorts (p : Nat) (f : Legend → Legend) (s : State) : (modLegend p f s).linePorts = s.linePorts := rfl
@[simp] theorem modLegend_maps (p : Nat) (f : Legend → Legend) (s : State) : (modLegend p f s).maps = s.maps := rfl
@[simp] theorem modLegend_frames (p : Nat) (f : Legend → Legend) (s : State) : (modLegend p f s).frames = s.frames := rfl
@[simp] theorem modLegend_gaz (p : Nat) (f : Legend → Legend) (s : State) : (modLegend p f s).gaz = s.gaz := rfl
@[simp] theorem modLegend_con (p : Nat) (f : Legend → Legend) (s : State) : (modLegend p f s).con = s.con := rfl
@[simp] theorem modLegend_lrn (p : Nat) (f : Legend → Legend) (s : State) : (modLegend p f s).lrn = s.lrn := rfl
@[simp] theorem modLegend_swp (p : Nat) (f : Legend → Legend) (s : State) : (modLegend p f s).swp = s.swp := rfl
@[simp] theorem modLegend_orb (p : Nat) (f : Legend → Legend) (s : State) : (modLegend p f s).orb = s.orb := rfl
@[simp] theorem modLegend_grt (p : Nat) (f : Legend → Legend) (s : State) : (modLegend p f s).grt = s.grt := rfl
@[simp] theorem modLegend_pipes (p : Nat) (f : Legend → Legend) (s : State) : (modLegend p f s).pipes = s.pipes := rfl
@[simp] theorem modLegend_rota (p : Nat) (f : Legend → Legend) (s : State) : (modLegend p f s).rota = s.rota := rfl
@[simp] theorem modLegend_alm (p : Nat) (f : Legend → Legend) (s : State) : (modLegend p f s).alm = s.alm := rfl
@[simp] theorem modLegend_ecl (p : Nat) (f : Legend → Legend) (s : State) : (modLegend p f s).ecl = s.ecl := rfl
@[simp] theorem modLegend_hwys (p : Nat) (f : Legend → Legend) (s : State) : (modLegend p f s).hwys = s.hwys := rfl
@[simp] theorem modLegend_tribs (p : Nat) (f : Legend → Legend) (s : State) : (modLegend p f s).tribs = s.tribs := rfl
@[simp] theorem modLegend_aps (p : Nat) (f : Legend → Legend) (s : State) : (modLegend p f s).aps = s.aps := rfl
@[simp] theorem modLegend_tsi (p : Nat) (f : Legend → Legend) (s : State) : (modLegend p f s).tsi = s.tsi := rfl
@[simp] theorem modLegend_buns (p : Nat) (f : Legend → Legend) (s : State) : (modLegend p f s).buns = s.buns := rfl
@[simp] theorem modLegend_bunSt (p : Nat) (f : Legend → Legend) (s : State) : (modLegend p f s).bunSt = s.bunSt := rfl
@[simp] theorem modLegend_pmb (p : Nat) (f : Legend → Legend) (s : State) : (modLegend p f s).pmb = s.pmb := rfl
@[simp] theorem modLegend_twin (p : Nat) (f : Legend → Legend) (s : State) : (modLegend p f s).twin = s.twin := rfl
@[simp] theorem modLegend_mer (p : Nat) (f : Legend → Legend) (s : State) : (modLegend p f s).mer = s.mer := rfl

/-! ### event: A page event changes `legends` alone -/

@[simp] theorem event_pending (p b : Nat) (s : State) : (event p b s).pending = s.pending := rfl
@[simp] theorem event_out (p b : Nat) (s : State) : (event p b s).out = s.out := rfl
@[simp] theorem event_dev (p b : Nat) (s : State) : (event p b s).dev = s.dev := rfl
@[simp] theorem event_time (p b : Nat) (s : State) : (event p b s).time = s.time := rfl
@[simp] theorem event_regs (p b : Nat) (s : State) : (event p b s).regs = s.regs := rfl
@[simp] theorem event_ctrs (p b : Nat) (s : State) : (event p b s).ctrs = s.ctrs := rfl
@[simp] theorem event_snaps (p b : Nat) (s : State) : (event p b s).snaps = s.snaps := rfl
@[simp] theorem event_intr (p b : Nat) (s : State) : (event p b s).intr = s.intr := rfl
@[simp] theorem event_ords (p b : Nat) (s : State) : (event p b s).ords = s.ords := rfl
@[simp] theorem event_era (p b : Nat) (s : State) : (event p b s).era = s.era := rfl
@[simp] theorem event_log (p b : Nat) (s : State) : (event p b s).log = s.log := rfl
@[simp] theorem event_mem (p b : Nat) (s : State) : (event p b s).mem = s.mem := rfl
@[simp] theorem event_chans (p b : Nat) (s : State) : (event p b s).chans = s.chans := rfl
@[simp] theorem event_sealPath (p b : Nat) (s : State) : (event p b s).sealPath = s.sealPath := rfl
@[simp] theorem event_bdy (p b : Nat) (s : State) : (event p b s).bdy = s.bdy := rfl
@[simp] theorem event_lun (p b : Nat) (s : State) : (event p b s).lun = s.lun := rfl
@[simp] theorem event_ucu (p b : Nat) (s : State) : (event p b s).ucu = s.ucu := rfl
@[simp] theorem event_pke (p b : Nat) (s : State) : (event p b s).pke = s.pke := rfl
@[simp] theorem event_rng (p b : Nat) (s : State) : (event p b s).rng = s.rng := rfl
@[simp] theorem event_keys (p b : Nat) (s : State) : (event p b s).keys = s.keys := rfl
@[simp] theorem event_fwu (p b : Nat) (s : State) : (event p b s).fwu = s.fwu := rfl
@[simp] theorem event_hlt (p b : Nat) (s : State) : (event p b s).hlt = s.hlt := rfl
@[simp] theorem event_smp (p b : Nat) (s : State) : (event p b s).smp = s.smp := rfl
@[simp] theorem event_tap (p b : Nat) (s : State) : (event p b s).tap = s.tap := rfl
@[simp] theorem event_cfg (p b : Nat) (s : State) : (event p b s).cfg = s.cfg := rfl
@[simp] theorem event_plainPorts (p b : Nat) (s : State) : (event p b s).plainPorts = s.plainPorts := rfl
@[simp] theorem event_linePorts (p b : Nat) (s : State) : (event p b s).linePorts = s.linePorts := rfl
@[simp] theorem event_maps (p b : Nat) (s : State) : (event p b s).maps = s.maps := rfl
@[simp] theorem event_frames (p b : Nat) (s : State) : (event p b s).frames = s.frames := rfl
@[simp] theorem event_gaz (p b : Nat) (s : State) : (event p b s).gaz = s.gaz := rfl
@[simp] theorem event_con (p b : Nat) (s : State) : (event p b s).con = s.con := rfl
@[simp] theorem event_lrn (p b : Nat) (s : State) : (event p b s).lrn = s.lrn := rfl
@[simp] theorem event_swp (p b : Nat) (s : State) : (event p b s).swp = s.swp := rfl
@[simp] theorem event_orb (p b : Nat) (s : State) : (event p b s).orb = s.orb := rfl
@[simp] theorem event_grt (p b : Nat) (s : State) : (event p b s).grt = s.grt := rfl
@[simp] theorem event_pipes (p b : Nat) (s : State) : (event p b s).pipes = s.pipes := rfl
@[simp] theorem event_rota (p b : Nat) (s : State) : (event p b s).rota = s.rota := rfl
@[simp] theorem event_alm (p b : Nat) (s : State) : (event p b s).alm = s.alm := rfl
@[simp] theorem event_ecl (p b : Nat) (s : State) : (event p b s).ecl = s.ecl := rfl
@[simp] theorem event_hwys (p b : Nat) (s : State) : (event p b s).hwys = s.hwys := rfl
@[simp] theorem event_tribs (p b : Nat) (s : State) : (event p b s).tribs = s.tribs := rfl
@[simp] theorem event_aps (p b : Nat) (s : State) : (event p b s).aps = s.aps := rfl
@[simp] theorem event_tsi (p b : Nat) (s : State) : (event p b s).tsi = s.tsi := rfl
@[simp] theorem event_buns (p b : Nat) (s : State) : (event p b s).buns = s.buns := rfl
@[simp] theorem event_bunSt (p b : Nat) (s : State) : (event p b s).bunSt = s.bunSt := rfl
@[simp] theorem event_pmb (p b : Nat) (s : State) : (event p b s).pmb = s.pmb := rfl
@[simp] theorem event_twin (p b : Nat) (s : State) : (event p b s).twin = s.twin := rfl
@[simp] theorem event_mer (p b : Nat) (s : State) : (event p b s).mer = s.mer := rfl

/-! ### captureErr: The capture of an error changes `legends` alone -/

@[simp] theorem captureErr_pending (p r c d : Nat) (lo hi : Word) (s : State) : (captureErr p r c d lo hi s).pending = s.pending := rfl
@[simp] theorem captureErr_out (p r c d : Nat) (lo hi : Word) (s : State) : (captureErr p r c d lo hi s).out = s.out := rfl
@[simp] theorem captureErr_dev (p r c d : Nat) (lo hi : Word) (s : State) : (captureErr p r c d lo hi s).dev = s.dev := rfl
@[simp] theorem captureErr_time (p r c d : Nat) (lo hi : Word) (s : State) : (captureErr p r c d lo hi s).time = s.time := rfl
@[simp] theorem captureErr_regs (p r c d : Nat) (lo hi : Word) (s : State) : (captureErr p r c d lo hi s).regs = s.regs := rfl
@[simp] theorem captureErr_ctrs (p r c d : Nat) (lo hi : Word) (s : State) : (captureErr p r c d lo hi s).ctrs = s.ctrs := rfl
@[simp] theorem captureErr_snaps (p r c d : Nat) (lo hi : Word) (s : State) : (captureErr p r c d lo hi s).snaps = s.snaps := rfl
@[simp] theorem captureErr_intr (p r c d : Nat) (lo hi : Word) (s : State) : (captureErr p r c d lo hi s).intr = s.intr := rfl
@[simp] theorem captureErr_ords (p r c d : Nat) (lo hi : Word) (s : State) : (captureErr p r c d lo hi s).ords = s.ords := rfl
@[simp] theorem captureErr_era (p r c d : Nat) (lo hi : Word) (s : State) : (captureErr p r c d lo hi s).era = s.era := rfl
@[simp] theorem captureErr_log (p r c d : Nat) (lo hi : Word) (s : State) : (captureErr p r c d lo hi s).log = s.log := rfl
@[simp] theorem captureErr_mem (p r c d : Nat) (lo hi : Word) (s : State) : (captureErr p r c d lo hi s).mem = s.mem := rfl
@[simp] theorem captureErr_chans (p r c d : Nat) (lo hi : Word) (s : State) : (captureErr p r c d lo hi s).chans = s.chans := rfl
@[simp] theorem captureErr_sealPath (p r c d : Nat) (lo hi : Word) (s : State) : (captureErr p r c d lo hi s).sealPath = s.sealPath := rfl
@[simp] theorem captureErr_bdy (p r c d : Nat) (lo hi : Word) (s : State) : (captureErr p r c d lo hi s).bdy = s.bdy := rfl
@[simp] theorem captureErr_lun (p r c d : Nat) (lo hi : Word) (s : State) : (captureErr p r c d lo hi s).lun = s.lun := rfl
@[simp] theorem captureErr_ucu (p r c d : Nat) (lo hi : Word) (s : State) : (captureErr p r c d lo hi s).ucu = s.ucu := rfl
@[simp] theorem captureErr_pke (p r c d : Nat) (lo hi : Word) (s : State) : (captureErr p r c d lo hi s).pke = s.pke := rfl
@[simp] theorem captureErr_rng (p r c d : Nat) (lo hi : Word) (s : State) : (captureErr p r c d lo hi s).rng = s.rng := rfl
@[simp] theorem captureErr_keys (p r c d : Nat) (lo hi : Word) (s : State) : (captureErr p r c d lo hi s).keys = s.keys := rfl
@[simp] theorem captureErr_fwu (p r c d : Nat) (lo hi : Word) (s : State) : (captureErr p r c d lo hi s).fwu = s.fwu := rfl
@[simp] theorem captureErr_hlt (p r c d : Nat) (lo hi : Word) (s : State) : (captureErr p r c d lo hi s).hlt = s.hlt := rfl
@[simp] theorem captureErr_smp (p r c d : Nat) (lo hi : Word) (s : State) : (captureErr p r c d lo hi s).smp = s.smp := rfl
@[simp] theorem captureErr_tap (p r c d : Nat) (lo hi : Word) (s : State) : (captureErr p r c d lo hi s).tap = s.tap := rfl
@[simp] theorem captureErr_cfg (p r c d : Nat) (lo hi : Word) (s : State) : (captureErr p r c d lo hi s).cfg = s.cfg := rfl
@[simp] theorem captureErr_plainPorts (p r c d : Nat) (lo hi : Word) (s : State) : (captureErr p r c d lo hi s).plainPorts = s.plainPorts := rfl
@[simp] theorem captureErr_linePorts (p r c d : Nat) (lo hi : Word) (s : State) : (captureErr p r c d lo hi s).linePorts = s.linePorts := rfl
@[simp] theorem captureErr_maps (p r c d : Nat) (lo hi : Word) (s : State) : (captureErr p r c d lo hi s).maps = s.maps := rfl
@[simp] theorem captureErr_frames (p r c d : Nat) (lo hi : Word) (s : State) : (captureErr p r c d lo hi s).frames = s.frames := rfl
@[simp] theorem captureErr_gaz (p r c d : Nat) (lo hi : Word) (s : State) : (captureErr p r c d lo hi s).gaz = s.gaz := rfl
@[simp] theorem captureErr_con (p r c d : Nat) (lo hi : Word) (s : State) : (captureErr p r c d lo hi s).con = s.con := rfl
@[simp] theorem captureErr_lrn (p r c d : Nat) (lo hi : Word) (s : State) : (captureErr p r c d lo hi s).lrn = s.lrn := rfl
@[simp] theorem captureErr_swp (p r c d : Nat) (lo hi : Word) (s : State) : (captureErr p r c d lo hi s).swp = s.swp := rfl
@[simp] theorem captureErr_orb (p r c d : Nat) (lo hi : Word) (s : State) : (captureErr p r c d lo hi s).orb = s.orb := rfl
@[simp] theorem captureErr_grt (p r c d : Nat) (lo hi : Word) (s : State) : (captureErr p r c d lo hi s).grt = s.grt := rfl
@[simp] theorem captureErr_pipes (p r c d : Nat) (lo hi : Word) (s : State) : (captureErr p r c d lo hi s).pipes = s.pipes := rfl
@[simp] theorem captureErr_rota (p r c d : Nat) (lo hi : Word) (s : State) : (captureErr p r c d lo hi s).rota = s.rota := rfl
@[simp] theorem captureErr_alm (p r c d : Nat) (lo hi : Word) (s : State) : (captureErr p r c d lo hi s).alm = s.alm := rfl
@[simp] theorem captureErr_ecl (p r c d : Nat) (lo hi : Word) (s : State) : (captureErr p r c d lo hi s).ecl = s.ecl := rfl
@[simp] theorem captureErr_hwys (p r c d : Nat) (lo hi : Word) (s : State) : (captureErr p r c d lo hi s).hwys = s.hwys := rfl
@[simp] theorem captureErr_tribs (p r c d : Nat) (lo hi : Word) (s : State) : (captureErr p r c d lo hi s).tribs = s.tribs := rfl
@[simp] theorem captureErr_aps (p r c d : Nat) (lo hi : Word) (s : State) : (captureErr p r c d lo hi s).aps = s.aps := rfl
@[simp] theorem captureErr_tsi (p r c d : Nat) (lo hi : Word) (s : State) : (captureErr p r c d lo hi s).tsi = s.tsi := rfl
@[simp] theorem captureErr_buns (p r c d : Nat) (lo hi : Word) (s : State) : (captureErr p r c d lo hi s).buns = s.buns := rfl
@[simp] theorem captureErr_bunSt (p r c d : Nat) (lo hi : Word) (s : State) : (captureErr p r c d lo hi s).bunSt = s.bunSt := rfl
@[simp] theorem captureErr_pmb (p r c d : Nat) (lo hi : Word) (s : State) : (captureErr p r c d lo hi s).pmb = s.pmb := rfl
@[simp] theorem captureErr_twin (p r c d : Nat) (lo hi : Word) (s : State) : (captureErr p r c d lo hi s).twin = s.twin := rfl
@[simp] theorem captureErr_mer (p r c d : Nat) (lo hi : Word) (s : State) : (captureErr p r c d lo hi s).mer = s.mer := rfl

/-! ### emit: What leaves the device changes `out` alone -/

@[simp] theorem emit_pending (e : Emit) (s : State) : (emit e s).pending = s.pending := rfl
@[simp] theorem emit_dev (e : Emit) (s : State) : (emit e s).dev = s.dev := rfl
@[simp] theorem emit_time (e : Emit) (s : State) : (emit e s).time = s.time := rfl
@[simp] theorem emit_regs (e : Emit) (s : State) : (emit e s).regs = s.regs := rfl
@[simp] theorem emit_legends (e : Emit) (s : State) : (emit e s).legends = s.legends := rfl
@[simp] theorem emit_ctrs (e : Emit) (s : State) : (emit e s).ctrs = s.ctrs := rfl
@[simp] theorem emit_snaps (e : Emit) (s : State) : (emit e s).snaps = s.snaps := rfl
@[simp] theorem emit_intr (e : Emit) (s : State) : (emit e s).intr = s.intr := rfl
@[simp] theorem emit_ords (e : Emit) (s : State) : (emit e s).ords = s.ords := rfl
@[simp] theorem emit_era (e : Emit) (s : State) : (emit e s).era = s.era := rfl
@[simp] theorem emit_log (e : Emit) (s : State) : (emit e s).log = s.log := rfl
@[simp] theorem emit_mem (e : Emit) (s : State) : (emit e s).mem = s.mem := rfl
@[simp] theorem emit_chans (e : Emit) (s : State) : (emit e s).chans = s.chans := rfl
@[simp] theorem emit_sealPath (e : Emit) (s : State) : (emit e s).sealPath = s.sealPath := rfl
@[simp] theorem emit_bdy (e : Emit) (s : State) : (emit e s).bdy = s.bdy := rfl
@[simp] theorem emit_lun (e : Emit) (s : State) : (emit e s).lun = s.lun := rfl
@[simp] theorem emit_ucu (e : Emit) (s : State) : (emit e s).ucu = s.ucu := rfl
@[simp] theorem emit_pke (e : Emit) (s : State) : (emit e s).pke = s.pke := rfl
@[simp] theorem emit_rng (e : Emit) (s : State) : (emit e s).rng = s.rng := rfl
@[simp] theorem emit_keys (e : Emit) (s : State) : (emit e s).keys = s.keys := rfl
@[simp] theorem emit_fwu (e : Emit) (s : State) : (emit e s).fwu = s.fwu := rfl
@[simp] theorem emit_hlt (e : Emit) (s : State) : (emit e s).hlt = s.hlt := rfl
@[simp] theorem emit_smp (e : Emit) (s : State) : (emit e s).smp = s.smp := rfl
@[simp] theorem emit_tap (e : Emit) (s : State) : (emit e s).tap = s.tap := rfl
@[simp] theorem emit_cfg (e : Emit) (s : State) : (emit e s).cfg = s.cfg := rfl
@[simp] theorem emit_plainPorts (e : Emit) (s : State) : (emit e s).plainPorts = s.plainPorts := rfl
@[simp] theorem emit_linePorts (e : Emit) (s : State) : (emit e s).linePorts = s.linePorts := rfl
@[simp] theorem emit_maps (e : Emit) (s : State) : (emit e s).maps = s.maps := rfl
@[simp] theorem emit_frames (e : Emit) (s : State) : (emit e s).frames = s.frames := rfl
@[simp] theorem emit_gaz (e : Emit) (s : State) : (emit e s).gaz = s.gaz := rfl
@[simp] theorem emit_con (e : Emit) (s : State) : (emit e s).con = s.con := rfl
@[simp] theorem emit_lrn (e : Emit) (s : State) : (emit e s).lrn = s.lrn := rfl
@[simp] theorem emit_swp (e : Emit) (s : State) : (emit e s).swp = s.swp := rfl
@[simp] theorem emit_orb (e : Emit) (s : State) : (emit e s).orb = s.orb := rfl
@[simp] theorem emit_grt (e : Emit) (s : State) : (emit e s).grt = s.grt := rfl
@[simp] theorem emit_pipes (e : Emit) (s : State) : (emit e s).pipes = s.pipes := rfl
@[simp] theorem emit_rota (e : Emit) (s : State) : (emit e s).rota = s.rota := rfl
@[simp] theorem emit_alm (e : Emit) (s : State) : (emit e s).alm = s.alm := rfl
@[simp] theorem emit_ecl (e : Emit) (s : State) : (emit e s).ecl = s.ecl := rfl
@[simp] theorem emit_hwys (e : Emit) (s : State) : (emit e s).hwys = s.hwys := rfl
@[simp] theorem emit_tribs (e : Emit) (s : State) : (emit e s).tribs = s.tribs := rfl
@[simp] theorem emit_aps (e : Emit) (s : State) : (emit e s).aps = s.aps := rfl
@[simp] theorem emit_tsi (e : Emit) (s : State) : (emit e s).tsi = s.tsi := rfl
@[simp] theorem emit_buns (e : Emit) (s : State) : (emit e s).buns = s.buns := rfl
@[simp] theorem emit_bunSt (e : Emit) (s : State) : (emit e s).bunSt = s.bunSt := rfl
@[simp] theorem emit_pmb (e : Emit) (s : State) : (emit e s).pmb = s.pmb := rfl
@[simp] theorem emit_twin (e : Emit) (s : State) : (emit e s).twin = s.twin := rfl
@[simp] theorem emit_mer (e : Emit) (s : State) : (emit e s).mer = s.mer := rfl

/-! ### fail: A failure record changes `era` alone -/

@[simp] theorem fail_pending (r : ErrRec) (s : State) : (fail r s).pending = s.pending := rfl
@[simp] theorem fail_out (r : ErrRec) (s : State) : (fail r s).out = s.out := rfl
@[simp] theorem fail_dev (r : ErrRec) (s : State) : (fail r s).dev = s.dev := rfl
@[simp] theorem fail_time (r : ErrRec) (s : State) : (fail r s).time = s.time := rfl
@[simp] theorem fail_regs (r : ErrRec) (s : State) : (fail r s).regs = s.regs := rfl
@[simp] theorem fail_legends (r : ErrRec) (s : State) : (fail r s).legends = s.legends := rfl
@[simp] theorem fail_ctrs (r : ErrRec) (s : State) : (fail r s).ctrs = s.ctrs := rfl
@[simp] theorem fail_snaps (r : ErrRec) (s : State) : (fail r s).snaps = s.snaps := rfl
@[simp] theorem fail_intr (r : ErrRec) (s : State) : (fail r s).intr = s.intr := rfl
@[simp] theorem fail_ords (r : ErrRec) (s : State) : (fail r s).ords = s.ords := rfl
@[simp] theorem fail_log (r : ErrRec) (s : State) : (fail r s).log = s.log := rfl
@[simp] theorem fail_mem (r : ErrRec) (s : State) : (fail r s).mem = s.mem := rfl
@[simp] theorem fail_chans (r : ErrRec) (s : State) : (fail r s).chans = s.chans := rfl
@[simp] theorem fail_sealPath (r : ErrRec) (s : State) : (fail r s).sealPath = s.sealPath := rfl
@[simp] theorem fail_bdy (r : ErrRec) (s : State) : (fail r s).bdy = s.bdy := rfl
@[simp] theorem fail_lun (r : ErrRec) (s : State) : (fail r s).lun = s.lun := rfl
@[simp] theorem fail_ucu (r : ErrRec) (s : State) : (fail r s).ucu = s.ucu := rfl
@[simp] theorem fail_pke (r : ErrRec) (s : State) : (fail r s).pke = s.pke := rfl
@[simp] theorem fail_rng (r : ErrRec) (s : State) : (fail r s).rng = s.rng := rfl
@[simp] theorem fail_keys (r : ErrRec) (s : State) : (fail r s).keys = s.keys := rfl
@[simp] theorem fail_fwu (r : ErrRec) (s : State) : (fail r s).fwu = s.fwu := rfl
@[simp] theorem fail_hlt (r : ErrRec) (s : State) : (fail r s).hlt = s.hlt := rfl
@[simp] theorem fail_smp (r : ErrRec) (s : State) : (fail r s).smp = s.smp := rfl
@[simp] theorem fail_tap (r : ErrRec) (s : State) : (fail r s).tap = s.tap := rfl
@[simp] theorem fail_cfg (r : ErrRec) (s : State) : (fail r s).cfg = s.cfg := rfl
@[simp] theorem fail_plainPorts (r : ErrRec) (s : State) : (fail r s).plainPorts = s.plainPorts := rfl
@[simp] theorem fail_linePorts (r : ErrRec) (s : State) : (fail r s).linePorts = s.linePorts := rfl
@[simp] theorem fail_maps (r : ErrRec) (s : State) : (fail r s).maps = s.maps := rfl
@[simp] theorem fail_frames (r : ErrRec) (s : State) : (fail r s).frames = s.frames := rfl
@[simp] theorem fail_gaz (r : ErrRec) (s : State) : (fail r s).gaz = s.gaz := rfl
@[simp] theorem fail_con (r : ErrRec) (s : State) : (fail r s).con = s.con := rfl
@[simp] theorem fail_lrn (r : ErrRec) (s : State) : (fail r s).lrn = s.lrn := rfl
@[simp] theorem fail_swp (r : ErrRec) (s : State) : (fail r s).swp = s.swp := rfl
@[simp] theorem fail_orb (r : ErrRec) (s : State) : (fail r s).orb = s.orb := rfl
@[simp] theorem fail_grt (r : ErrRec) (s : State) : (fail r s).grt = s.grt := rfl
@[simp] theorem fail_pipes (r : ErrRec) (s : State) : (fail r s).pipes = s.pipes := rfl
@[simp] theorem fail_rota (r : ErrRec) (s : State) : (fail r s).rota = s.rota := rfl
@[simp] theorem fail_alm (r : ErrRec) (s : State) : (fail r s).alm = s.alm := rfl
@[simp] theorem fail_ecl (r : ErrRec) (s : State) : (fail r s).ecl = s.ecl := rfl
@[simp] theorem fail_hwys (r : ErrRec) (s : State) : (fail r s).hwys = s.hwys := rfl
@[simp] theorem fail_tribs (r : ErrRec) (s : State) : (fail r s).tribs = s.tribs := rfl
@[simp] theorem fail_aps (r : ErrRec) (s : State) : (fail r s).aps = s.aps := rfl
@[simp] theorem fail_tsi (r : ErrRec) (s : State) : (fail r s).tsi = s.tsi := rfl
@[simp] theorem fail_buns (r : ErrRec) (s : State) : (fail r s).buns = s.buns := rfl
@[simp] theorem fail_bunSt (r : ErrRec) (s : State) : (fail r s).bunSt = s.bunSt := rfl
@[simp] theorem fail_pmb (r : ErrRec) (s : State) : (fail r s).pmb = s.pmb := rfl
@[simp] theorem fail_twin (r : ErrRec) (s : State) : (fail r s).twin = s.twin := rfl
@[simp] theorem fail_mer (r : ErrRec) (s : State) : (fail r s).mer = s.mer := rfl

end Sys2Proof.Machine
end

