-- ==== Sys2Proof/Laws/Ops.lean ====
section
/-! SUPPORT. What each shared operation can do, said once: the fields it may change, and what it leaves in them. -/

namespace Sys2Proof.Machine

/-! ### Registers, counters and Legend headers -/

/-- The register tables hold their canonical forms. -/
def TablesWf (s : State) : Prop := spWf 0 s.regs = true ∧ spWf 0 s.ctrs = true ∧ spWf Legend.init s.legends = true

theorem reset_tablesWf : TablesWf State.reset := ⟨rfl, rfl, rfl⟩

/-- A register reads what was last written to it. -/
theorem getReg_setReg_self (s : State) (a : Nat) (v : Word) (h : TablesWf s) : getReg (setReg s a v) a = v := by
  simp only [getReg, setReg, spGet_spSet_self 0 _ s.regs a h.1]
  rw [BitVec.xor_assoc, BitVec.xor_self, BitVec.xor_zero]

/-- A write of a register leaves every other register alone. -/
theorem getReg_setReg_ne (s : State) (a b : Nat) (v : Word) (h : TablesWf s) (hb : b ≠ a) : getReg (setReg s a v) b = getReg s b := by
  simp only [getReg, setReg, spGet_spSet_ne 0 _ s.regs a b h.1 hb]

/-- What is counted is added to the one counter, modulo its width. -/
theorem getCtr_bump_self (p o n : Nat) (s : State) (h : TablesWf s) :
    getCtr (bump p o n s) (ra p o) = add64 (getCtr s (ra p o)) n := by
  simp only [getCtr, bump, spGet_spSet_self 0 _ s.ctrs _ h.2.1]

theorem getCtr_bump_ne (p o n : Nat) (s : State) (b : Nat) (h : TablesWf s) (hb : b ≠ ra p o) : getCtr (bump p o n s) b = getCtr s b := by
  simp only [getCtr, bump, spGet_spSet_ne 0 _ s.ctrs _ b h.2.1 hb]

/-- A change of one page's header is that page's header and no other. -/
theorem legend_modLegend_self (p : Nat) (f : Legend → Legend) (s : State) (h : TablesWf s) : legend (modLegend p f s) p = f (legend s p) := by
  simp only [legend, modLegend, setLegend, spGet_spSet_self Legend.init _ s.legends p h.2.2]

theorem legend_modLegend_ne (p q : Nat) (f : Legend → Legend) (s : State) (h : TablesWf s) (hq : q ≠ p) :
    legend (modLegend p f s) q = legend s q := by
  simp only [legend, modLegend, setLegend, spGet_spSet_ne Legend.init _ s.legends p q h.2.2 hq]

/-- The register tables keep their canonical forms. -/
theorem setReg_tablesWf (s : State) (a : Nat) (v : Word) (h : TablesWf s) : TablesWf (setReg s a v) :=
  ⟨spWf_spSet 0 _ s.regs a h.1, h.2.1, h.2.2⟩

theorem bump_tablesWf (p o n : Nat) (s : State) (h : TablesWf s) : TablesWf (bump p o n s) :=
  ⟨h.1, spWf_spSet 0 _ s.ctrs _ h.2.1, h.2.2⟩

theorem modLegend_tablesWf (p : Nat) (f : Legend → Legend) (s : State) (h : TablesWf s) : TablesWf (modLegend p f s) :=
  ⟨h.1, h.2.1, spWf_spSet Legend.init _ s.legends p h.2.2⟩

/-- Events and captured errors change Legend headers and nothing else. -/
theorem event_frame (p b : Nat) (s : State) : ∃ l, event p b s = { s with legends := l } := ⟨_, rfl⟩

theorem eventIf_frame (c : Bool) (p b : Nat) (s : State) : ∃ l, eventIf c p b s = { s with legends := l } := by
  cases c
  · exact ⟨s.legends, rfl⟩
  · exact ⟨_, rfl⟩

theorem captureErr_frame (p r c d : Nat) (lo hi : Word) (s : State) : ∃ l, captureErr p r c d lo hi s = { s with legends := l } := ⟨_, rfl⟩

theorem regErr_frame (m : Master) (a r : Nat) (s : State) : ∃ l, regErr m a r s = { s with legends := l } := ⟨_, rfl⟩

theorem unmapped_frame (m : Master) (a : Nat) (s : State) : ∃ l, unmapped m a s = { s with legends := l } := ⟨_, rfl⟩

/-! ### Orders -/

/-- The end of an order changes the orders and nothing else; one that is not outstanding ends nothing. -/
theorem endOrder_frame (id : Nat) (st : Status) (d : Word) (s : State) : ∃ o, endOrder id st d s = { s with ords := o } := by
  unfold endOrder
  split
  · exact ⟨_, rfl⟩
  · exact ⟨s.ords, rfl⟩

theorem endOpt_frame (id : Option Nat) (st : Status) (d : Word) (s : State) : ∃ o, endOpt id st d s = { s with ords := o } := by
  cases id with
  | none => exact ⟨s.ords, rfl⟩
  | some i => exact endOrder_frame i st d s

/-- An aborted order leaves its failure record beside its end. -/
theorem abortOrder_frame (id r : Nat) (s : State) : ∃ o e, abortOrder id r s = { s with ords := o, era := e } := by
  unfold abortOrder
  split
  · rename_i x _
    obtain ⟨o, h⟩ := endOrder_frame id .aborted 0 (fail (ordErr s 1 r x.tag x.op Status.aborted.code) s)
    exact ⟨o, _, h⟩
  · exact ⟨s.ords, s.era, rfl⟩

/-! ### The log, mode triggers and alarms -/

/-- A log entry changes the log and the counters of its page. -/
theorem logForce_frame (t : Nat) (d : List Word) (s : State) : ∃ l c, logForce t d s = { s with log := l, ctrs := c } := ⟨_, _, rfl⟩

theorem logEvent_frame (t : Nat) (d : List Word) (s : State) : ∃ l c, logEvent t d s = { s with log := l, ctrs := c } := by
  unfold logEvent
  split
  · exact ⟨_, _, rfl⟩
  · exact ⟨_, _, rfl⟩

/-- A trigger of a change of mode waits for the boundary, once. -/
theorem trigger_frame (m : Mode) (c r : Nat) (o : Option Nat) (s : State) :
    ∃ l, trigger m c r o s = { s with dev := { s.dev with trig := l } } := by
  simp only [trigger]
  split
  · exact ⟨s.dev.trig, rfl⟩
  · exact ⟨_, rfl⟩

/-- A declared alarm is latched, counted and waits for its response. -/
theorem declareAlarm_frame (n : Nat) (s : State) :
    ∃ c, declareAlarm n s =
      { s with ctrs := c, lun := { s.lun with declared := s.lun.declared ++ [n], latch := s.lun.latch ||| 2 ^ n } } := ⟨_, rfl⟩

/-! ### Counting accesses to memory -/

/-- Counting the lines of an access changes counters and nothing else. -/
theorem countLines_frame (a b : Nat) (ls : List Nat) (s : State) : ∃ c, countLines a b ls s = { s with ctrs := c } := by
  have h : ∀ (l : List Nat) (t : State), ∃ c, l.foldl (fun s l => bump (pg .mem (chanOf l)) b 1 s) t = { t with ctrs := c } := by
    intro l
    induction l with
    | nil => exact fun t => ⟨t.ctrs, rfl⟩
    | cons x r ih =>
      intro t
      obtain ⟨c, hc⟩ := ih (bump (pg .mem (chanOf x)) b 1 t)
      exact ⟨c, by rw [List.foldl_cons, hc]; rfl⟩
  obtain ⟨c, hc⟩ := h ls s
  exact ⟨_, by rw [countLines, hc]; rfl⟩

/-- A read that a Boundary unit has let through changes counters and, where a line is poisoned, the captured error. -/
theorem linesRead_frame (m : Master) (l n : Nat) (s : State) : ∃ c g, (linesRead m l n s).2 = { s with ctrs := c, legends := g } := by
  obtain ⟨c, hc⟩ := countLines_frame 0x200 0x200 ((linesOf l n).takeWhile (fun p => !poisoned s p)) s
  simp only [linesRead, hc]
  split
  · exact ⟨_, _, rfl⟩
  · exact ⟨c, s.legends, rfl⟩

/-! ### Boundary checks of the device's own units -/

/-- What a check of an access by anything but an agent's user code may touch: outputs, counters, Legend headers, notices, alarms and
the event log. -/
def SameBut (s t : State) : Prop :=
  ∃ o c g b u e, t = { s with out := o, ctrs := c, legends := g, bdy := b, lun := u, log := e }

theorem SameBut.refl (s : State) : SameBut s s := ⟨_, _, _, _, _, _, rfl⟩

theorem SameBut.trans {s t u : State} (h : SameBut s t) (k : SameBut t u) : SameBut s u := by
  obtain ⟨_, _, _, _, _, _, rfl⟩ := h
  obtain ⟨_, _, _, _, _, _, rfl⟩ := k
  exact ⟨_, _, _, _, _, _, rfl⟩

theorem bdyNotice_same (m : Master) (a r : Nat) (s : State) : SameBut s (bdyNotice m a r s) := by
  simp only [bdyNotice]
  split <;> exact ⟨_, _, _, _, _, _, rfl⟩

theorem logEvent_same (ty : Nat) (d : List Word) (s : State) : SameBut s (logEvent ty d s) := by
  simp only [logEvent]
  split <;> exact ⟨_, _, _, _, _, _, rfl⟩

theorem emit_same (e : Emit) (s : State) : SameBut s (emit e s) := ⟨_, _, _, _, _, _, rfl⟩

theorem declareAlarm_same (n : Nat) (s : State) : SameBut s (declareAlarm n s) := ⟨_, _, _, _, _, _, rfl⟩

theorem bump_same (p o n : Nat) (s : State) : SameBut s (bump p o n s) := ⟨_, _, _, _, _, _, rfl⟩

/-- How a denial shows to anything but an agent's user code. -/
theorem deniedShown_same (m : Master) (k : Access) (a r : Nat) (s : State) (hm : ∀ c, m ≠ .agentUser c) : SameBut s (deniedShown m k a r s) := by
  have note : SameBut s (if k == .write then bdyNotice m a r s else s) := by
    split
    · exact bdyNotice_same m a r s
    · exact SameBut.refl s
  have bus : ∀ t, SameBut s t → SameBut s (declareAlarm 11 (emit .busError t)) := fun t h =>
    (h.trans (emit_same .busError t)).trans (declareAlarm_same 11 _)
  cases m with
  | agentUser c => exact absurd rfl (hm c)
  | host =>
    simp only [deniedShown]
    split
    · exact bdyNotice_same _ _ _ _
    · exact emit_same _ _
  | debug => exact (logEvent_same _ _ _).trans (emit_same _ _)
  | tircy c => exact bus _ note
  | agentKernel c => exact bus _ note
  | _ => exact bus _ (SameBut.refl s)

theorem denied_same (m : Master) (k : Access) (a : Nat) (s : State) (hm : ∀ c, m ≠ .agentUser c) : SameBut s (denied m k a s) := by
  have h : SameBut s (event (pg .bdy (unitOf m).1) 0 (captureErr (pg .bdy (unitOf m).1) 0x09 (mCls m) 0 (wd a) (wd (a / 2 ^ 32 % 65536))
      (bump (pg .bdy (unitOf m).1) (deniedCtr m) 1 s))) := ⟨_, _, _, _, _, _, rfl⟩
  exact h.trans (deniedShown_same m k a _ _ hm)

/-- The check of one piece. -/
theorem pieceOk_same (m : Master) (k : Access) (a : Nat) (s : State) (hm : ∀ c, m ≠ .agentUser c) : SameBut s (pieceOk m k a s).2 := by
  simp only [pieceOk]
  split
  · exact bump_same _ _ _ s
  · exact (bump_same _ _ _ s).trans (denied_same m k a _ hm)

/-- One checked piece of a read. -/
theorem pieceRead_same (m : Master) (l n : Nat) (s : State) (hm : ∀ c, m ≠ .agentUser c) : SameBut s (pieceRead m l n s).2 := by
  simp only [pieceRead]
  split
  · obtain ⟨c, g, h⟩ := linesRead_frame m l n (pieceOk m .read (internalAddr s l) s).2
    rw [h]
    exact (pieceOk_same m .read _ s hm).trans ⟨_, _, _, _, _, _, rfl⟩
  · exact pieceOk_same m .read _ s hm

/-- A read of DRAM by a unit of the device. -/
theorem sealRead_same (m : Master) (l n : Nat) (s : State) (hm : ∀ c, m ≠ .agentUser c) : SameBut s (sealRead m l n s).2 := by
  have h : ∀ (ps : List (Nat × Nat)) (r : Option Bytes × State), SameBut r.2 (ps.foldl (fun r p =>
      (joinRead r.1 (pieceRead m (l + p.1) p.2 r.2).1, (pieceRead m (l + p.1) p.2 r.2).2)) r).2 := by
    intro ps
    induction ps with
    | nil => exact fun r => SameBut.refl r.2
    | cons p q ih => exact fun r => (pieceRead_same m _ _ r.2 hm).trans (ih _)
  exact h _ _

end Sys2Proof.Machine
end

