-- ==== Sys2Proof/Laws/Memory.lean ====
section
/-! SUPPORT. Memory: what a byte reads as after each write, and that every operation on memory keeps its canonical form. -/

namespace Sys2Proof.Machine

/-- Right after reset memory lists nothing, in its canonical form. -/
theorem reset_memory_wf : Memory.wf State.reset.mem = true := rfl

/-- A write of bytes keeps the canonical form. -/
theorem writeCells_wf (m : Sparse Byte) (l : Nat) (bs : Bytes) (h : Memory.wf m = true) : Memory.wf (writeCells m l bs) = true := by
  induction bs generalizing m l with
  | nil => exact h
  | cons b r ih => exact ih _ _ (spWf_spSet 0 b m l h)

/-- A write of bytes leaves every cell outside them alone. -/
theorem writeCells_outside (m : Sparse Byte) (l : Nat) (bs : Bytes) (h : Memory.wf m = true) (a : Nat) (ha : a < l ∨ l + bs.length ≤ a) :
    spGet 0 (writeCells m l bs) a = spGet 0 m a := by
  induction bs generalizing m l with
  | nil => rfl
  | cons b r ih =>
    simp only [List.length_cons] at ha
    have := ih (spSet 0 m l b) (l + 1) (spWf_spSet 0 b m l h) (by omega)
    rw [show writeCells m l (b :: r) = writeCells (spSet 0 m l b) (l + 1) r from rfl, this]
    exact spGet_spSet_ne 0 b m l a h (by omega)

/-- A cell inside the bytes written reads the byte written there. -/
theorem writeCells_inside (m : Sparse Byte) (l : Nat) (bs : Bytes) (h : Memory.wf m = true) (i : Nat) (hi : i < bs.length) :
    spGet 0 (writeCells m l bs) (l + i) = bs[i] := by
  induction bs generalizing m l i with
  | nil => exact absurd hi (Nat.not_lt_zero i)
  | cons b r ih =>
    rw [show writeCells m l (b :: r) = writeCells (spSet 0 m l b) (l + 1) r from rfl]
    cases i with
    | zero =>
      rw [writeCells_outside _ _ _ (spWf_spSet 0 b m l h) _ (by omega)]
      exact spGet_spSet_self 0 b m l h
    | succ j =>
      have := ih (spSet 0 m l b) (l + 1) (spWf_spSet 0 b m l h) j (by simpa using hi)
      rw [show l + (j + 1) = l + 1 + j by omega]
      simpa using this

/-- The operations on memory keep its canonical form. -/
theorem writeMem_wf (l : Nat) (bs : Bytes) (s : State) (h : Memory.wf s.mem = true) : Memory.wf (writeMem l bs s).mem = true :=
  writeCells_wf s.mem l bs h

theorem clearMem_wf (l n : Nat) (s : State) (h : Memory.wf s.mem = true) : Memory.wf (clearMem l n s).mem = true :=
  spWf_spKeep 0 (fun k => decide (k < l) || decide (l + n ≤ k)) s.mem h

/-- Storing the lines of a write, one after the other, keeps the form. -/
theorem lineStores_wf (l : Nat) (bs : Bytes) : ∀ (ls : List Nat) (s : State), Memory.wf s.mem = true →
    Memory.wf (ls.foldl (lineStore l bs) s).mem = true
  | [], _, h => h
  | p :: r, s, h => lineStores_wf l bs r (lineStore l bs s p) (writeCells_wf _ _ _ h)

/-- Abandoned partial writes leave memory alone (R369). -/
theorem partialPoisons_mem (m : Master) : ∀ (ls : List Nat) (s : State), (ls.foldl (fun s p => partialPoison m p s) s).mem = s.mem
  | [], _ => rfl
  | p :: r, s => partialPoisons_mem m r (partialPoison m p s)

/-- A write that a Boundary unit has let through keeps it too, whichever of its lines are abandoned. -/
theorem linesWrite_wf (m : Master) (l : Nat) (bs : Bytes) (s : State) (h : Memory.wf s.mem = true) :
    Memory.wf (linesWrite m l bs s).2.mem = true := by
  have count : ∀ a b ls t, (countLines a b ls t).mem = t.mem := by
    intro a b ls t
    obtain ⟨c, hc⟩ := countLines_frame a b ls t
    rw [hc]
  simp only [linesWrite, partialPoisons_mem, count]
  exact lineStores_wf l bs _ s h

/-- What leaves all but the record of accesses alone leaves memory alone. -/
theorem SameBut.mem {s t : State} (h : SameBut s t) : t.mem = s.mem := by
  obtain ⟨_, _, _, _, _, _, rfl⟩ := h
  rfl

/-- A write by a unit of the device keeps the form, piece by piece. -/
theorem sealWrite_wf (m : Master) (l : Nat) (bs : Bytes) (s : State) (hm : ∀ c, m ≠ .agentUser c) (h : Memory.wf s.mem = true) :
    Memory.wf (sealWrite m l bs s).2.mem = true := by
  have one : ∀ (a : Nat) (b : Bytes) (t : State), Memory.wf t.mem = true → Memory.wf (pieceWrite m a b t).2.mem = true := by
    intro a b t ht
    have h1 : Memory.wf (pieceOk m .write (internalAddr t a) t).2.mem = true := by rw [(pieceOk_same m .write _ t hm).mem]; exact ht
    simp only [pieceWrite]
    split
    · exact linesWrite_wf m a b _ h1
    · exact h1
  have all : ∀ (ps : List (Nat × Nat)) (r : Bool × State), Memory.wf r.2.mem = true → Memory.wf (ps.foldl (fun r p =>
      (r.1 && (pieceWrite m (l + p.1) (slice bs p.1 p.2) r.2).1, (pieceWrite m (l + p.1) (slice bs p.1 p.2) r.2).2)) r).2.mem = true := by
    intro ps
    induction ps with
    | nil => exact fun r hr => hr
    | cons p q ih => exact fun r hr => ih _ (one _ _ _ hr)
  exact all _ _ h

/-- A read by a unit of the device leaves memory alone. -/
theorem sealRead_mem (m : Master) (l n : Nat) (s : State) (hm : ∀ c, m ≠ .agentUser c) : (sealRead m l n s).2.mem = s.mem :=
  (sealRead_same m l n s hm).mem

/-- Reading the bytes of a write gives them back. -/
theorem readMem_writeMem (l : Nat) (bs : Bytes) (s : State) (h : Memory.wf s.mem = true) : readMem (writeMem l bs s) l bs.length = bs := by
  apply List.ext_getElem
  · simp [readMem]
  · intro i h1 h2
    simp only [readMem, List.getElem_map, List.getElem_range]
    exact writeCells_inside s.mem l bs h i h2

end Sys2Proof.Machine
end

