-- ==== Sys2Proof/Laws/Orders.lean ====
section
/-! SUPPORT. The submission of an order once and for all: an order that is taken and judged legal is carried out on the state in
which it has just been taken; one that is not well-formed ends with ARG and one the mode does not allow with STATE. -/

namespace Sys2Proof.Machine

/-- A list of eight numbers below 2^11 is what the eight fields of its list carry. -/
theorem parts_norm {ps : List Nat} (h : ps.length = 8) (hb : ps.all (fun n => decide (n < 2 ^ 11)) = true) :
    (List.range 8).map (fun j => ps.getD j 0 % 2 ^ 11) = ps := by
  rcases ps with _ | ⟨a, _ | ⟨b, _ | ⟨c, _ | ⟨d, _ | ⟨e, _ | ⟨f, _ | ⟨g, _ | ⟨k, _ | ⟨l, r⟩⟩⟩⟩⟩⟩⟩⟩⟩ <;> simp at h
  simp only [List.all_cons, List.all_nil, Bool.and_true, Bool.and_eq_true, decide_eq_true_eq] at hb
  simp [List.range, List.range.loop]
  omega

/-- An order whose operands stand in their ranges is what its descriptor carries: each field has the width of its operand (R413). -/
theorem normOrder_of_wf {i : Instr} {h : OrdHdr} {o : Order} (hw : i.wf = true) (ho : orderOfCmd i = some (h, o)) :
    normOrder o = o := by
  cases i <;> simp only [orderOfCmd, Option.some.injEq, Prod.mk.injEq, reduceCtorEq] at ho
  all_goals
    obtain ⟨-, rfl⟩ := ho
    simp only [Instr.wf, isSa, isOff, GazEditArgs.wf, ConEditArgs.wf, Bool.and_eq_true, decide_eq_true_eq] at hw
    simp only [normOrder, offNorm, normGaz, normCon]
    try (repeat' rw [Nat.mod_eq_of_lt (by omega)])
  exact congrArg _ (parts_norm hw.1.2 hw.2)

/-- What an order's form depends on is not touched by taking it. -/
theorem orderFormed_taken (h : OrdHdr) (o o' : Order) (s : State) : orderFormed (taken h o s) o' = orderFormed s o' := by
  cases o' <;> rfl

/-- Nor is what its legality depends on. -/
theorem orderLegal_taken (h : OrdHdr) (o o' : Order) (s : State) : orderLegal (taken h o s) o' = orderLegal s o' := by
  cases o' <;> rfl

/-- A command that is an order submits it. -/
theorem exec_order {i : Instr} {h : OrdHdr} {o : Order} {s : State} (hw : i.wf = true) (ho : orderOfCmd i = some (h, o)) :
    exec i s = .next (settle (submitOrder h o s)) := by
  cases i <;> simp only [orderOfCmd, Option.some.injEq, Prod.mk.injEq, reduceCtorEq] at ho
  all_goals
    obtain ⟨rfl, rfl⟩ := ho
    simp only [exec, execNop, execLogRead, execWarmReset, execModeSet, execAttest, execFwStage, execFwActivate, execOwnerEnrol,
      execKekGenerate, execProvisionCommit, execZeroize, execPortMap, execPortEq, execMemRetrain, execMerStep, execKeyImport,
      execCakLoad, execSaInstall, execSaRewrite, execSaErase, execSaPin, execSaUnpin, execSaExport, execSaImport, execGazEdit,
      execConEdit, execSurveyStart, execEclSchedule, execEclCancel, execTsiSwap, execAlmAdvance, execAlmRenew, execSealRekey,
      execPkeJob, execTwinArbitrate, execTwinSwitchback, execDiagSaLoad, execDiagLoopback, meaning, hw, if_true, done]

/-- A submitted order that Tircy takes is judged on the state in which it has just been taken. -/
theorem submit_takes {h : OrdHdr} {o : Order} {s : State} (hn : normOrder o = o) (ht : Takes h o s) :
    submitOrder h o s = judgeOrder (takenId s) o (taken h o s) := by
  obtain ⟨h1, h2, h3, h4⟩ := ht
  simp only [submitOrder, hn, h1, h2, h3, slotBytes32, h4, beq_self_eq_true, Bool.and_self, if_true, Bool.false_and,
    Bool.false_eq_true, if_false]
  rw [runOrder, beginOrder, sqPass]
  simp [taken, takenId, h2, wd]
  rfl

/-- An accepted order is carried out. -/
theorem submit_accepted {i : Instr} {h : OrdHdr} {o : Order} {s : State} (hn : normOrder o = o) (ha : Accepted i h o s) :
    submitOrder h o s = carryOrder (takenId s) o (taken h o s) := by
  obtain ⟨-, h2, h3, h4⟩ := ha
  simp [submit_takes hn h2, judgeOrder, orderFormed_taken, orderLegal_taken, h3, h4]

/-- What an accepted order does, as the outcome of its command. -/
theorem exec_accepted {i : Instr} {h : OrdHdr} {o : Order} {s : State} (ho : orderOfCmd i = some (h, o)) (ha : Accepted i h o s) :
    exec i s = .next (settle (carryOrder (takenId s) o (taken h o s))) := by
  rw [exec_order ha.1 ho, submit_accepted (normOrder_of_wf ha.1 ho) ha]

/-- An order that is not well-formed ends with ARG (R40). -/
theorem submit_unformed {h : OrdHdr} {o : Order} {s : State} (hn : normOrder o = o) (ht : Takes h o s)
    (hf : orderFormed s o = false) : submitOrder h o s = endOrder (takenId s) .arg 0 (taken h o s) := by
  simp [submit_takes hn ht, judgeOrder, orderFormed_taken, hf]

/-- A well-formed order that the mode does not allow ends with STATE (R40, R42). -/
theorem submit_illegal {h : OrdHdr} {o : Order} {s : State} (hn : normOrder o = o) (ht : Takes h o s)
    (hf : orderFormed s o = true) (hl : orderLegal s o = false) :
    submitOrder h o s = endOrder (takenId s) .state 0 (taken h o s) := by
  simp [submit_takes hn ht, judgeOrder, orderFormed_taken, orderLegal_taken, hf, hl]

end Sys2Proof.Machine
end

