-- ==== Sys2Proof/Laws/PerInstr.lean ====
section
/-! SUPPORT. Laws of commands as syntax, one lemma for each constructor: where the register of a register command stands. -/

namespace Sys2Proof.Laws.Target

open Sys2Proof.Machine

/-- A well-formed register command comes from a well-formed master and names an aligned word of BAR0's 16 MiB (R62, R65). -/
def Statement (i : Instr) : Prop :=
  i.wf = true → ∀ m a, regTarget i = some (m, a) → m.wf = true ∧ a < 2 ^ 24 ∧ a % 4 = 0

/-- A command that is no register command says nothing. -/
theorem of_none (i : Instr) (h : regTarget i = none) : Statement i := by
  intro _ m a h'
  rw [h] at h'
  cases h'

/-- A register command is aligned when its one register is. -/
theorem of_some (i : Instr) (m : Master) (a : Nat) (h : regTarget i = some (m, a))
    (hw : i.wf = true → m.wf = true ∧ a < 2 ^ 24 ∧ a % 4 = 0) : Statement i := by
  intro w m' a' h'
  rw [h] at h'
  cases h'
  exact hw w

theorem nop (h : OrdHdr) : Statement (.nop h) := of_none _ rfl
theorem logRead (h : OrdHdr) (first count off : Nat) : Statement (.logRead h first count off) := of_none _ rfl
theorem warmReset (h : OrdHdr) : Statement (.warmReset h) := of_none _ rfl
theorem modeSet (h : OrdHdr) (mode : Nat) : Statement (.modeSet h mode) := of_none _ rfl
theorem attest (h : OrdHdr) (challenge report : Nat) : Statement (.attest h challenge report) := of_none _ rfl
theorem fwStage (h : OrdHdr) (image len slot : Nat) : Statement (.fwStage h image len slot) := of_none _ rfl
theorem fwActivate (h : OrdHdr) (slot : Nat) : Statement (.fwActivate h slot) := of_none _ rfl
theorem fwAgentRestarted (core : Nat) (answered : Bool) : Statement (.fwAgentRestarted core answered) := of_none _ rfl
theorem ownerEnrol (h : OrdHdr) (off : Nat) : Statement (.ownerEnrol h off) := of_none _ rfl
theorem kekGenerate (h : OrdHdr) : Statement (.kekGenerate h) := of_none _ rfl
theorem provisionCommit (h : OrdHdr) : Statement (.provisionCommit h) := of_none _ rfl
theorem provisionSweepDone (failed : List Nat) : Statement (.provisionSweepDone failed) := of_none _ rfl
theorem zeroize (h : OrdHdr) (magic : Word) : Statement (.zeroize h magic) := of_none _ rfl
theorem portMap (h : OrdHdr) (side : Side) (group : Nat) (parts : List Nat) : Statement (.portMap h side group parts) := of_none _ rfl
theorem portEq (h : OrdHdr) (retrain : Bool) (side : Side) (port : Nat) : Statement (.portEq h retrain side port) := of_none _ rfl
theorem portEqTimeout (side : Side) (port : Nat) : Statement (.portEqTimeout side port) := of_none _ rfl
theorem memRetrain (h : OrdHdr) (ch : Nat) : Statement (.memRetrain h ch) := of_none _ rfl
theorem remapOutDone (ch : Nat) : Statement (.remapOutDone ch) := of_none _ rfl
theorem retrainingDone (ch attempts failStep : Nat) (pass : Bool) : Statement (.retrainingDone ch attempts failStep pass) := of_none _ rfl
theorem remapInDone (ch : Nat) : Statement (.remapInDone ch) := of_none _ rfl
theorem merStep (h : OrdHdr) (neg pps : Bool) (sec ns frac : Nat) : Statement (.merStep h neg pps sec ns frac) := of_none _ rfl
theorem merStepPpsTimeout : Statement (.merStepPpsTimeout) := of_none _ rfl
theorem keyImport (h : OrdHdr) (slot off : Nat) : Statement (.keyImport h slot off) := of_none _ rfl
theorem cakLoad (h : OrdHdr) (slot off : Nat) : Statement (.cakLoad h slot off) := of_none _ rfl
theorem saInstall (h : OrdHdr) (sa off slot : Nat) : Statement (.saInstall h sa off slot) := of_none _ rfl
theorem saRewrite (h : OrdHdr) (sa off slot : Nat) : Statement (.saRewrite h sa off slot) := of_none _ rfl
theorem saErase (h : OrdHdr) (sa : Nat) : Statement (.saErase h sa) := of_none _ rfl
theorem saPin (h : OrdHdr) (sa : Nat) : Statement (.saPin h sa) := of_none _ rfl
theorem saUnpin (h : OrdHdr) (sa : Nat) : Statement (.saUnpin h sa) := of_none _ rfl
theorem saExport (h : OrdHdr) (sa off slot : Nat) : Statement (.saExport h sa off slot) := of_none _ rfl
theorem saImport (h : OrdHdr) (sa off slot : Nat) : Statement (.saImport h sa off slot) := of_none _ rfl
theorem gazEdit (h : OrdHdr) (a : GazEditArgs) : Statement (.gazEdit h a) := of_none _ rfl
theorem conEdit (h : OrdHdr) (a : ConEditArgs) : Statement (.conEdit h a) := of_none _ rfl
theorem surveyStart (h : OrdHdr) (base count : Nat) (rep : Bool) : Statement (.surveyStart h base count rep) := of_none _ rfl
theorem eclSchedule (h : OrdHdr) (kind sa new : Nat) (target : Tick) (floor : Nat) : Statement (.eclSchedule h kind sa new target floor) := of_none _ rfl
theorem eclCancel (h : OrdHdr) (kind sa : Nat) (target : Tick) : Statement (.eclCancel h kind sa target) := of_none _ rfl
theorem tsiSwap (h : OrdHdr) (dir : Dir) (target : Tick) : Statement (.tsiSwap h dir target) := of_none _ rfl
theorem almAdvance (h : OrdHdr) (mask target : Nat) : Statement (.almAdvance h mask target) := of_none _ rfl
theorem almRenew (h : OrdHdr) (ctr : Nat) : Statement (.almRenew h ctr) := of_none _ rfl
theorem sealRekey (h : OrdHdr) (kid : Nat) : Statement (.sealRekey h kid) := of_none _ rfl
theorem rekeyDone (kid : Nat) (failed : List Nat) : Statement (.rekeyDone kid failed) := of_none _ rfl
theorem pkeJob (h : OrdHdr) (off : Nat) : Statement (.pkeJob h off) := of_none _ rfl
theorem pkeJobDone (deviceFault : Bool) : Statement (.pkeJobDone deviceFault) := of_none _ rfl
theorem twinArbitrate (h : OrdHdr) (retire : Nat) : Statement (.twinArbitrate h retire) := of_none _ rfl
theorem twinSwitchback (h : OrdHdr) : Statement (.twinSwitchback h) := of_none _ rfl
theorem diagSaLoad (h : OrdHdr) (sa romKey off : Nat) : Statement (.diagSaLoad h sa romKey off) := of_none _ rfl
theorem diagLoopback (h : OrdHdr) (mode inst block : Nat) (side : Side) : Statement (.diagLoopback h mode inst block side) := of_none _ rfl
theorem orderTake : Statement (.orderTake) := of_none _ rfl
theorem completionPost : Statement (.completionPost) := of_none _ rfl
theorem choreItemCommit (clk : Nat) : Statement (.choreItemCommit clk) := of_none _ rfl
theorem tickBoundary : Statement (.tickBoundary) := of_none _ rfl
theorem drainLimit : Statement (.drainLimit) := of_none _ rfl
theorem almanacWrite (fails : List Nat) : Statement (.almanacWrite fails) := of_none _ rfl
theorem sweeperVisit (slot : Nat) (bad hit : Bool) : Statement (.sweeperVisit slot bad hit) := of_none _ rfl
theorem surveyCompareTick : Statement (.surveyCompareTick) := of_none _ rfl
theorem surveyRecheck (rec : Nat) : Statement (.surveyRecheck rec) := of_none _ rfl
theorem surveyPassEnd : Statement (.surveyPassEnd) := of_none _ rfl
theorem plainFrameRx (port clk : Nat) (bytes : Bytes) (e : RxEnd) (express : Bool) : Statement (.plainFrameRx port clk bytes e express) := of_none _ rfl
theorem lineFrameRx (port clk : Nat) (bytes : Bytes) (e : RxEnd) (express : Bool) : Statement (.lineFrameRx port clk bytes e express) := of_none _ rfl
theorem frameAdmit (dir : Dir) : Statement (.frameAdmit dir) := of_none _ rfl
theorem orbitFillDone (sa : Nat) (r : FillEnd) : Statement (.orbitFillDone sa r) := of_none _ rfl
theorem dispatch (dir : Dir) : Statement (.dispatch dir) := of_none _ rfl
theorem gangFinish (frame clk : Nat) (icvFault : Bool) : Statement (.gangFinish frame clk icvFault) := of_none _ rfl
theorem egressBegin (side : Side) (port clk : Nat) : Statement (.egressBegin side port clk) := of_none _ rfl
theorem frameStomp (frame : Nat) (reason : Nat) : Statement (.frameStomp frame reason) := of_none _ rfl
theorem transitLaunch (frame clk : Nat) : Statement (.transitLaunch frame clk) := of_none _ rfl
theorem bundleAssembly (b : Nat) : Statement (.bundleAssembly b) := of_none _ rfl
theorem bundleDeadline (b : Nat) : Statement (.bundleDeadline b) := of_none _ rfl
theorem linkUp (side : Side) (port : Nat) : Statement (.linkUp side port) := of_none _ rfl
theorem linkDown (side : Side) (port cond : Nat) : Statement (.linkDown side port cond) := of_none _ rfl
theorem pfcRefresh (side : Side) (port : Nat) : Statement (.pfcRefresh side port) := of_none _ rfl
theorem preemptVerify (side : Side) (port : Nat) (v : Verify) : Statement (.preemptVerify side port v) := of_none _ rfl
theorem pipeFault (p unit stage : Nat) : Statement (.pipeFault p unit stage) := of_none _ rfl
theorem occultationRotaStep (dir : Dir) : Statement (.occultationRotaStep dir) := of_none _ rfl
theorem testCycleEnd (p fail : Nat) : Statement (.testCycleEnd p fail) := of_none _ rfl
theorem shortKatEnd (p fail : Nat) : Statement (.shortKatEnd p fail) := of_none _ rfl
theorem returnCycleEnd (p fail : Nat) : Statement (.returnCycleEnd p fail) := of_none _ rfl
theorem quiesceDone (page : Nat) : Statement (.quiesceDone page) := of_none _ rfl
theorem highwayFrameRx (h pos : Nat) (syms : List Nat) : Statement (.highwayFrameRx h pos syms) := of_none _ rfl
theorem highwayLos (h : Nat) : Statement (.highwayLos h) := of_none _ rfl
theorem tribFrameComplete (t : Nat) : Statement (.tribFrameComplete t) := of_none _ rfl
theorem compassHunt (t : Nat) : Statement (.compassHunt t) := of_none _ rfl
theorem tribDefectChange (t defect : Nat) (declared : Bool) : Statement (.tribDefectChange t defect declared) := of_none _ rfl
theorem pmSecondClassify (entity : Nat) : Statement (.pmSecondClassify entity) := of_none _ rfl
theorem pmBinClose : Statement (.pmBinClose) := of_none _ rfl
theorem heartbeatRx (bytes : Bytes) (clk : Nat) : Statement (.heartbeatRx bytes clk) := of_none _ rfl
theorem digestCut (port : Nat) : Statement (.digestCut port) := of_none _ rfl
theorem cutRx (bytes : Bytes) : Statement (.cutRx bytes) := of_none _ rfl
theorem digestRx (bytes : Bytes) : Statement (.digestRx bytes) := of_none _ rfl
theorem tickListRx (bytes : Bytes) : Statement (.tickListRx bytes) := of_none _ rfl
theorem tickListDeadline : Statement (.tickListDeadline) := of_none _ rfl
theorem saItemRx (bytes : Bytes) : Statement (.saItemRx bytes) := of_none _ rfl
theorem rxCheckpointSend (sa : Nat) : Statement (.rxCheckpointSend sa) := of_none _ rfl
theorem bundleForwardRx (bytes : Bytes) : Statement (.bundleForwardRx bytes) := of_none _ rfl
theorem controlRx (bytes : Bytes) : Statement (.controlRx bytes) := of_none _ rfl
theorem crossCheckSend (key : Nat) : Statement (.crossCheckSend key) := of_none _ rfl
theorem crossCheckRx (bytes : Bytes) : Statement (.crossCheckRx bytes) := of_none _ rfl
theorem stateCopyRx (bytes : Bytes) : Statement (.stateCopyRx bytes) := of_none _ rfl
theorem selfCheckEnd : Statement .selfCheckEnd := of_none _ rfl
theorem arbTimeout : Statement (.arbTimeout) := of_none _ rfl
theorem joinTrust (verified : Bool) (qx qy peerId : Nat) (nonce : Bytes) : Statement (.joinTrust verified qx qy peerId nonce) := of_none _ rfl
theorem joinReady : Statement (.joinReady) := of_none _ rfl
theorem joinAbandon : Statement (.joinAbandon) := of_none _ rfl
theorem pairedOrderHold : Statement (.pairedOrderHold) := of_none _ rfl
theorem realignment : Statement (.realignment) := of_none _ rfl
theorem configFingerprintMismatch : Statement (.configFingerprintMismatch) := of_none _ rfl
theorem mkaNewSak (st : MkaStep) : Statement (.mkaNewSak st) := of_none _ rfl
theorem ppsCapture : Statement (.ppsCapture) := of_none _ rfl
theorem trigPulse (k : Nat) : Statement (.trigPulse k) := of_none _ rfl
theorem servoChange (port : Option Nat) (off : Int) : Statement (.servoChange port off) := of_none _ rfl
theorem rtcLoad : Statement (.rtcLoad) := of_none _ rfl
theorem porstN (level : Bool) (straps : Nat) : Statement (.porstN level straps) := of_none _ rfl
theorem sysrstN (level : Bool) : Statement (.sysrstN level) := of_none _ rfl
theorem supplyLoss : Statement (.supplyLoss) := of_none _ rfl
theorem supplyValid : Statement (.supplyValid) := of_none _ rfl
theorem pciePerstN (level : Bool) : Statement (.pciePerstN level) := of_none _ rfl
theorem thermalTrip (sensor : Nat) : Statement (.thermalTrip sensor) := of_none _ rfl
theorem watchdog : Statement (.watchdog) := of_none _ rfl
theorem agentRestart (core : Nat) : Statement (.agentRestart core) := of_none _ rfl
theorem bootSequence (inp : BootInput) : Statement (.bootSequence inp) := of_none _ rfl
theorem lunarSample (sensor : Nat) (value : Nat) : Statement (.lunarSample sensor value) := of_none _ rfl
theorem alarm : Statement (.alarm) := of_none _ rfl
theorem boundaryCheck (m : Master) (k : Access) (addr : Nat) (x : AccessForm) : Statement (.boundaryCheck m k addr x) := of_none _ rfl
theorem sealedRead (m : Master) (addr fails : Nat) (integ : Bool) : Statement (.sealedRead m addr fails integ) := of_none _ rfl
theorem sealedWrite (m : Master) (addr fails : Nat) (bytes : Bytes) (integ : Bool) : Statement (.sealedWrite m addr fails bytes integ) := of_none _ rfl
theorem scrub (place idx : Nat) (correctable : Bool) : Statement (.scrub place idx correctable) := of_none _ rfl
theorem healthSample (sensor : Nat) (value : Nat) : Statement (.healthSample sensor value) := of_none _ rfl
theorem drbgReseed : Statement (.drbgReseed) := of_none _ rfl
theorem rngHealthWindow (rctFail aptFail : Bool) : Statement (.rngHealthWindow rctFail aptFail) := of_none _ rfl
theorem ucuJobDone : Statement (.ucuJobDone) := of_none _ rfl
theorem ucuLeaseExpiry : Statement (.ucuLeaseExpiry) := of_none _ rfl
theorem errataRecord : Statement (.errataRecord) := of_none _ rfl
theorem summaryFlush : Statement (.summaryFlush) := of_none _ rfl
theorem sampleRecord : Statement (.sampleRecord) := of_none _ rfl
theorem smbusRead (cmd : Nat) : Statement (.smbusRead cmd) := of_none _ rfl
theorem smbusWrite (cmd : Nat) : Statement (.smbusWrite cmd) := of_none _ rfl
theorem debugToken (valid : Bool) (regions : List Nat) : Statement (.debugToken valid regions) := of_none _ rfl
theorem extest : Statement (.extest) := of_none _ rfl
theorem idcode : Statement (.idcode) := of_none _ rfl
theorem samplePreload : Statement (.samplePreload) := of_none _ rfl
theorem extestPulse : Statement (.extestPulse) := of_none _ rfl
theorem extestTrain : Statement (.extestTrain) := of_none _ rfl
theorem clamp : Statement (.clamp) := of_none _ rfl
theorem highz : Statement (.highz) := of_none _ rfl
theorem dap : Statement (.dap) := of_none _ rfl
theorem bypass : Statement (.bypass) := of_none _ rfl
theorem snapGo (m : Master) (page : Nat) : Statement (.snapGo m page) := by
  apply of_some _ _ _ rfl
  intro w
  simp only [Instr.wf, Bool.and_eq_true, decide_eq_true_eq] at w
  simp only [ra]
  exact ⟨w.1, by omega, by omega⟩
theorem sysGsnapGo (m : Master) : Statement (.sysGsnapGo m) := by
  apply of_some _ _ _ rfl
  intro w
  exact ⟨w, by decide, by decide⟩
theorem qreq (m : Master) (page : Nat) (on : Bool) : Statement (.qreq m page on) := by
  apply of_some _ _ _ rfl
  intro w
  simp only [Instr.wf, Bool.and_eq_true, decide_eq_true_eq] at w
  simp only [ra]
  exact ⟨w.1, by omega, by omega⟩
theorem srst (m : Master) (page : Nat) : Statement (.srst m page) := by
  apply of_some _ _ _ rfl
  intro w
  simp only [Instr.wf, Bool.and_eq_true, decide_eq_true_eq] at w
  simp only [ra]
  exact ⟨w.1, by omega, by omega⟩
theorem blockEn (m : Master) (page : Nat) (on : Bool) : Statement (.blockEn m page on) := by
  apply of_some _ _ _ rfl
  intro w
  simp only [Instr.wf, Bool.and_eq_true, decide_eq_true_eq] at w
  simp only [ra]
  exact ⟨w.1, by omega, by omega⟩
theorem lock (m : Master) (page : Nat) : Statement (.lock m page) := by
  apply of_some _ _ _ rfl
  intro w
  simp only [Instr.wf, Bool.and_eq_true, decide_eq_true_eq] at w
  simp only [ra]
  exact ⟨w.1, by omega, by omega⟩
theorem intForce (m : Master) (page : Nat) (v : Word) : Statement (.intForce m page v) := by
  apply of_some _ _ _ rfl
  intro w
  simp only [Instr.wf, Bool.and_eq_true, decide_eq_true_eq] at w
  simp only [ra]
  exact ⟨w.1, by omega, by omega⟩
theorem intStatClear (m : Master) (page : Nat) (v : Word) : Statement (.intStatClear m page v) := by
  apply of_some _ _ _ rfl
  intro w
  simp only [Instr.wf, Bool.and_eq_true, decide_eq_true_eq] at w
  simp only [ra]
  exact ⟨w.1, by omega, by omega⟩
theorem errInfoClear (m : Master) (page : Nat) : Statement (.errInfoClear m page) := by
  apply of_some _ _ _ rfl
  intro w
  simp only [Instr.wf, Bool.and_eq_true, decide_eq_true_eq] at w
  simp only [ra]
  exact ⟨w.1, by omega, by omega⟩
theorem errCountWrite (m : Master) (page : Nat) (v : Word) : Statement (.errCountWrite m page v) := by
  apply of_some _ _ _ rfl
  intro w
  simp only [Instr.wf, Bool.and_eq_true, decide_eq_true_eq] at w
  simp only [ra]
  exact ⟨w.1, by omega, by omega⟩
theorem pmcWrite (m : Master) (page off : Nat) (v : Word) : Statement (.pmcWrite m page off v) := by
  apply of_some _ _ _ rfl
  intro w
  simp only [Instr.wf, Bool.and_eq_true, decide_eq_true_eq] at w
  simp only [ra]
  exact ⟨w.1.1.1.1, by omega, by omega⟩
theorem intEoi (m : Master) (v : Word) : Statement (.intEoi m v) := by
  apply of_some _ _ _ rfl
  intro w
  exact ⟨w, by decide, by decide⟩
theorem msixUnmask (m : Master) (vec : Nat) : Statement (.msixUnmask m vec) := by
  apply of_some _ _ _ rfl
  intro w
  simp only [Instr.wf, Bool.and_eq_true, decide_eq_true_eq] at w
  simp only [ra, pg, pageFirst]
  exact ⟨w.1, by omega, by omega⟩
theorem sysCompatWrite (m : Master) (v : Word) : Statement (.sysCompatWrite m v) := by
  apply of_some _ _ _ rfl
  intro w
  exact ⟨w, by decide, by decide⟩
theorem grtResvQuery (m : Master) (v : Word) : Statement (.grtResvQuery m v) := by
  apply of_some _ _ _ rfl
  intro w
  exact ⟨w, by decide, by decide⟩
theorem portLoopWrite (m : Master) (side : Side) (port : Nat) (v : Word) : Statement (.portLoopWrite m side port v) := by
  apply of_some _ _ _ rfl
  intro w
  simp only [Instr.wf, Bool.and_eq_true, decide_eq_true_eq] at w
  cases side <;> simp only [ra, portPage, pg, pageFirst] <;>
    exact ⟨w.1, by omega, by omega⟩
theorem portPfcThrWrite (m : Master) (side : Side) (port : Nat) (v : Word) : Statement (.portPfcThrWrite m side port v) := by
  apply of_some _ _ _ rfl
  intro w
  simp only [Instr.wf, Bool.and_eq_true, decide_eq_true_eq] at w
  cases side <;> simp only [ra, portPage, pg, pageFirst] <;>
    exact ⟨w.1, by omega, by omega⟩
theorem gazSeedWrite (m : Master) (k : Nat) (v : Word) : Statement (.gazSeedWrite m k v) := by
  apply of_some _ _ _ rfl
  intro w
  simp only [Instr.wf, Bool.and_eq_true, decide_eq_true_eq] at w
  simp only [ra, pg, pageFirst]
  exact ⟨w.1, by omega, by omega⟩
theorem gazRdGo (m : Master) : Statement (.gazRdGo m) := by
  apply of_some _ _ _ rfl
  intro w
  exact ⟨w, by decide, by decide⟩
theorem conRdGo (m : Master) : Statement (.conRdGo m) := by
  apply of_some _ _ _ rfl
  intro w
  exact ⟨w, by decide, by decide⟩
theorem orbRdGo (m : Master) : Statement (.orbRdGo m) := by
  apply of_some _ _ _ rfl
  intro w
  exact ⟨w, by decide, by decide⟩
theorem seqRdGo (m : Master) : Statement (.seqRdGo m) := by
  apply of_some _ _ _ rfl
  intro w
  exact ⟨w, by decide, by decide⟩
theorem eclRdGo (m : Master) (v : Word) : Statement (.eclRdGo m v) := by
  apply of_some _ _ _ rfl
  intro w
  exact ⟨w, by decide, by decide⟩
theorem eclRdNext (m : Master) : Statement (.eclRdNext m) := by
  apply of_some _ _ _ rfl
  intro w
  exact ⟨w, by decide, by decide⟩
theorem swpSurveyStop (m : Master) : Statement (.swpSurveyStop m) := by
  apply of_some _ _ _ rfl
  intro w
  exact ⟨w, by decide, by decide⟩
theorem swpMisPop (m : Master) : Statement (.swpMisPop m) := by
  apply of_some _ _ _ rfl
  intro w
  exact ⟨w, by decide, by decide⟩
theorem almNotePop (m : Master) : Statement (.almNotePop m) := by
  apply of_some _ _ _ rfl
  intro w
  exact ⟨w, by decide, by decide⟩
theorem eclNotePop (m : Master) : Statement (.eclNotePop m) := by
  apply of_some _ _ _ rfl
  intro w
  exact ⟨w, by decide, by decide⟩
theorem tsiWdata (m : Master) (v : Word) : Statement (.tsiWdata m v) := by
  apply of_some _ _ _ rfl
  intro w
  exact ⟨w, by decide, by decide⟩
theorem tsiCopy (m : Master) (v : Word) : Statement (.tsiCopy m v) := by
  apply of_some _ _ _ rfl
  intro w
  exact ⟨w, by decide, by decide⟩
theorem tsiCancel (m : Master) (dir : Dir) : Statement (.tsiCancel m dir) := by
  apply of_some _ _ _ rfl
  intro w
  exact ⟨w, by decide, by decide⟩
theorem tsiRidxWrite (m : Master) (v : Word) : Statement (.tsiRidxWrite m v) := by
  apply of_some _ _ _ rfl
  intro w
  exact ⟨w, by decide, by decide⟩
theorem bunWrite (m : Master) : Statement (.bunWrite m) := by
  apply of_some _ _ _ rfl
  intro w
  exact ⟨w, by decide, by decide⟩
theorem bunRead (m : Master) : Statement (.bunRead m) := by
  apply of_some _ _ _ rfl
  intro w
  exact ⟨w, by decide, by decide⟩
theorem trbHunt (m : Master) (t : Nat) : Statement (.trbHunt m t) := by
  apply of_some _ _ _ rfl
  intro w
  simp only [Instr.wf, Bool.and_eq_true, decide_eq_true_eq] at w
  simp only [ra, trbReg, pg, pageFirst]
  exact ⟨w.1, by omega, by omega⟩
theorem apsCmdWrite (m : Master) (g : Nat) (v : Word) : Statement (.apsCmdWrite m g v) := by
  apply of_some _ _ _ rfl
  intro w
  simp only [Instr.wf, Bool.and_eq_true, decide_eq_true_eq] at w
  simp only [ra, pg, pageFirst]
  exact ⟨w.1, by omega, by omega⟩
theorem hwyLoopWrite (m : Master) (h : Nat) (v : Word) : Statement (.hwyLoopWrite m h v) := by
  apply of_some _ _ _ rfl
  intro w
  simp only [Instr.wf, Bool.and_eq_true, decide_eq_true_eq] at w
  simp only [ra, pg, pageFirst]
  exact ⟨w.1, by omega, by omega⟩
theorem oldLoopWrite (m : Master) (v : Word) : Statement (.oldLoopWrite m v) := by
  apply of_some _ _ _ rfl
  intro w
  exact ⟨w, by decide, by decide⟩
theorem merRateWrite (m : Master) (v : Word) : Statement (.merRateWrite m v) := by
  apply of_some _ _ _ rfl
  intro w
  exact ⟨w, by decide, by decide⟩
theorem trgArm (m : Master) (k : Nat) (v : Word) : Statement (.trgArm m k v) := by
  apply of_some _ _ _ rfl
  intro w
  simp only [Instr.wf, Bool.and_eq_true, decide_eq_true_eq] at w
  simp only [ra, trgReg, pg, pageFirst]
  exact ⟨w.1, by omega, by omega⟩
theorem pmbRdGo (m : Master) : Statement (.pmbRdGo m) := by
  apply of_some _ _ _ rfl
  intro w
  exact ⟨w, by decide, by decide⟩
theorem pmbTcaPop (m : Master) : Statement (.pmbTcaPop m) := by
  apply of_some _ _ _ rfl
  intro w
  exact ⟨w, by decide, by decide⟩
theorem schClrMax (m : Master) : Statement (.schClrMax m) := by
  apply of_some _ _ _ rfl
  intro w
  exact ⟨w, by decide, by decide⟩
theorem sealB2mapWrite (m : Master) (k : Nat) (v : Word) : Statement (.sealB2mapWrite m k v) := by
  apply of_some _ _ _ rfl
  intro w
  simp only [Instr.wf, Bool.and_eq_true, decide_eq_true_eq] at w
  simp only [ra, pg, pageFirst]
  exact ⟨w.1, by omega, by omega⟩
theorem bdyCommit (m : Master) (u : Nat) : Statement (.bdyCommit m u) := by
  apply of_some _ _ _ rfl
  intro w
  simp only [Instr.wf, Bool.and_eq_true, decide_eq_true_eq] at w
  simp only [ra, pg, pageFirst]
  exact ⟨w.1, by omega, by omega⟩
theorem bdyCommitDrained (u : Nat) : Statement (.bdyCommitDrained u) := of_none _ rfl
theorem bdyNoticePop (m : Master) (u : Nat) : Statement (.bdyNoticePop m u) := by
  apply of_some _ _ _ rfl
  intro w
  simp only [Instr.wf, Bool.and_eq_true, decide_eq_true_eq] at w
  simp only [ra, pg, pageFirst]
  exact ⟨w.1, by omega, by omega⟩
theorem ordCtrlEn (m : Master) (en : Bool) : Statement (.ordCtrlEn m en) := by
  apply of_some _ _ _ rfl
  intro w
  exact ⟨w, by decide, by decide⟩
theorem ordSqTail (m : Master) (v : Word) : Statement (.ordSqTail m v) := by
  apply of_some _ _ _ rfl
  intro w
  exact ⟨w, by decide, by decide⟩
theorem ordCqHead (m : Master) (v : Word) : Statement (.ordCqHead m v) := by
  apply of_some _ _ _ rfl
  intro w
  exact ⟨w, by decide, by decide⟩
theorem eraCtrlEn (m : Master) (en : Bool) : Statement (.eraCtrlEn m en) := by
  apply of_some _ _ _ rfl
  intro w
  exact ⟨w, by decide, by decide⟩
theorem eraCons (m : Master) (v : Word) : Statement (.eraCons m v) := by
  apply of_some _ _ _ rfl
  intro w
  exact ⟨w, by decide, by decide⟩
theorem lrnRingCons (m : Master) (v : Word) : Statement (.lrnRingCons m v) := by
  apply of_some _ _ _ rfl
  intro w
  exact ⟨w, by decide, by decide⟩
theorem smpCtrlEn (m : Master) (en : Bool) : Statement (.smpCtrlEn m en) := by
  apply of_some _ _ _ rfl
  intro w
  exact ⟨w, by decide, by decide⟩
theorem smpCons (m : Master) (v : Word) : Statement (.smpCons m v) := by
  apply of_some _ _ _ rfl
  intro w
  exact ⟨w, by decide, by decide⟩
theorem ucuAcq (w : AcqWrite) : Statement (.ucuAcq w) := by
  apply of_some _ _ _ rfl
  intro h
  simp only [Instr.wf, Bool.and_eq_true] at h
  exact ⟨h.1, by decide, by decide⟩
theorem ucuRel (m : Master) : Statement (.ucuRel m) := by
  apply of_some _ _ _ rfl
  intro w
  exact ⟨w, by decide, by decide⟩
theorem ucuForce (m : Master) : Statement (.ucuForce m) := by
  apply of_some _ _ _ rfl
  intro w
  exact ⟨w, by decide, by decide⟩
theorem ucuGo (m : Master) : Statement (.ucuGo m) := by
  apply of_some _ _ _ rfl
  intro w
  exact ⟨w, by decide, by decide⟩
theorem ucuKeysrcWrite (m : Master) (v : Word) : Statement (.ucuKeysrcWrite m v) := by
  apply of_some _ _ _ rfl
  intro w
  exact ⟨w, by decide, by decide⟩
theorem pkeAbort (m : Master) (area : Nat) : Statement (.pkeAbort m area) := by
  apply of_some _ _ _ rfl
  intro w
  simp only [Instr.wf, Bool.and_eq_true] at w
  exact ⟨w.1, by decide, by decide⟩
theorem rngReq (m : Master) : Statement (.rngReq m) := by
  apply of_some _ _ _ rfl
  intro w
  exact ⟨w, by decide, by decide⟩
theorem rngReseed (m : Master) : Statement (.rngReseed m) := by
  apply of_some _ _ _ rfl
  intro w
  exact ⟨w, by decide, by decide⟩
theorem registerWrite (m : Master) (off be : Nat) (v : WordRun) : Statement (.registerWrite m off be v) := by
  obtain ⟨v, more⟩ := v
  cases more with
  | nil =>
    apply of_some _ _ _ rfl
    intro w
    simp only [Instr.wf, Bool.and_eq_true, decide_eq_true_eq] at w
    exact ⟨w.1.1, by omega, by omega⟩
  | cons x r => exact of_none _ rfl
theorem highwayLosync (h : Nat) (lost : Bool) : Statement (.highwayLosync h lost) := of_none _ rfl
theorem oldunSyncChange (clk : Bool) (lanes : Nat) (desk : Bool) (skew errs : Nat) : Statement (.oldunSyncChange clk lanes desk skew errs) := of_none _ rfl
theorem vbatLoss : Statement (.vbatLoss) := of_none _ rfl
theorem pcieLinkDown (up : Bool) : Statement (.pcieLinkDown up) := of_none _ rfl
theorem thermalRelease : Statement (.thermalRelease) := of_none _ rfl
theorem supplyRelease (straps : Nat) : Statement (.supplyRelease straps) := of_none _ rfl
theorem fwStageDone (readBackOk : Bool) : Statement (.fwStageDone readBackOk) := of_none _ rfl
theorem tsiCopyDone (dir : Dir) : Statement (.tsiCopyDone dir) := of_none _ rfl
theorem segmentRewriteDone (seg : Nat) : Statement (.segmentRewriteDone seg) := of_none _ rfl
theorem zeroizeSweepDone (failed : List Nat) : Statement (.zeroizeSweepDone failed) := of_none _ rfl
theorem controlFrameTx (side : Side) (port : Nat) (bytes : Bytes) : Statement (.controlFrameTx side port bytes) := of_none _ rfl
theorem agentChoreItem (core : Nat) (a : GazEditArgs) : Statement (.agentChoreItem core a) := of_none _ rfl

end Sys2Proof.Laws.Target
end

