-- ==== Sys2Proof/Machine/Pins.lean ====
section
/-! DEFINITION. What the output balls do (R35, R88, R114, R260, R317, R349, R473, R480, R488), as a view of the state. -/

namespace Sys2Proof.Machine

/-- The output balls and lanes whose behaviour the spec gives (R469, R480). -/
inductive Ball
  | alive
  | faultN
  | trig (k : Nat)
  | xspiResetN
  | memResetN (ch : Nat)
  | transmitter (side : Side) (port : Nat)
  | highway (h : Nat)
  | oldun
  | smbus
  | tdo
deriving DecidableEq, Repr

/-- What a ball does: driven low or high, high-impedance, electrical idle, stopped, in work, or under the boundary register. -/
inductive Drive
  | low
  | high
  | highZ
  | idle
  | stopped
  | working
  | scanned
deriving DecidableEq, Repr

/-- A driven level. -/
def driveLevel (b : Bool) : Drive := if b then .high else .low

/-- What the test access port makes of the balls it controls, while PORST_N is low (R488); the PAM4 transmitters are outside the
boundary register (R487). -/
def tapDrive (s : State) (b : Ball) : Option Drive :=
  let covered := match b with
    | .transmitter _ _ | .tdo => false
    | _ => true
  if s.dev.porst || !s.dev.supply || !covered then none
  else if s.tap.ir = 0x06 then some .highZ
  else if s.tap.ir = 0x00 || s.tap.ir = 0x03 || s.tap.ir = 0x04 || s.tap.ir = 0x05 then some .scanned
  else none

/-- What a ball does in RESET (R473, R480). -/
def resetDrive : Ball → Drive
  | .alive | .faultN | .xspiResetN | .memResetN _ => .low
  | .trig _ | .smbus | .tdo => .highZ
  | .transmitter _ _ => .idle
  | .highway _ | .oldun => .stopped

/-- What a ball does from BOOT on. XSPI_RESET_N is released 100 us after BOOT is entered (R473); the transmitters are idle in BOOT,
PROVISION and ZEROIZED (R35, R480) and follow their port otherwise (R97, R114). -/
def workDrive (s : State) : Ball → Drive
  | .alive => driveLevel s.dev.alive
  | .faultN => driveLevel s.intr.faultN
  | .trig k => if bit (getReg s (trgReg k 0)) 29 then driveLevel (trgOf s k).pulsing else .highZ
  | .xspiResetN => driveLevel (!(s.dev.mode == .boot && s.time.tick == 0 && decide (s.time.clk < 160000)))
  | .memResetN _ => .high
  | .transmitter side p =>
    if modeIn [.boot, .provision, .zeroized] s || (portOf s side p).tx = 2 then .idle else .working
  | .highway h => if hwyRuns s h then .working else .stopped
  | .oldun => if oldRuns s then .working else .stopped
  | .smbus => if smbusUp s then .working else .highZ
  | .tdo => .working

/-- What a ball does (R480): nothing drives it while the main supplies are absent. -/
def drive (s : State) (b : Ball) : Drive :=
  if !s.dev.supply then .highZ
  else match tapDrive s b with
    | some d => d
    | none =>
      match b with
      | .smbus => workDrive s .smbus
      | .tdo => .working
      | _ => if s.dev.mode = .reset then resetDrive b else workDrive s b

end Sys2Proof.Machine
end

