-- ==== Sys2Proof/Tests/Slice0.lean ====
section
/-! SUPPORT. Tests: ill-formed terms that well-formedness refuses, operations against values from outside the model, and for each
statement of the certificate a state and operands that meet the hypotheses of each of its clauses. -/

namespace Sys2Proof.Tests
set_option Elab.async false
open Sys2Proof.Machine

/-- A running device in the mode `m` after `n` ticks: supplies and reset pins good, the host's link up, the order rings enabled with 8
and 16 slots, the sealed path up under a root of zeros over 16 GiB. -/
def inMode (m : Mode) (n : Nat := 0) : State :=
  let s := State.reset
  let a := { s with
    dev := { s.dev with mode := m, prev := .boot, porst := true, pcieUp := true }
    time := { s.time with run := true, tick := wd n, mer := n * tickUnit }
    sealPath := { s.sealPath with initDone := true, gib := 16, root := zeros 32, nonce := zeros 12 } }
  setReg (setReg (setReg (setReg a (ra (pg .ord) 0x108) 3) (ra (pg .ord) 0x118) 4) (ra (pg .ord) 0x114) 0x1000)
    (ra (pg .ord) 0x100) 0x80000000

/-- The header of an order with TAG 7 and INT. -/
def h0 : OrdHdr := { tag := 7, int := true, fence := false }

/-- A register at a value. -/
def put (s : State) (a : Nat) (v : Word) : State := setReg s a v

/-- The state after one step. -/
def after (s : State) : State :=
  match step s with
  | .next t => t
  | _ => s

/-- The device in CONFIGURE with its order rings off. -/
def ringsOff : State := put (inMode .configure) (ra (pg .ord) 0x100) 0

/-- A static Gazetteer entry of kind 0, port 3, key 5. -/
def gazEntry : GazEntry :=
  { kind := 0, port := 3, key := 5, dyn := false, age := false, hit := false, stale := false, action := 0, cls := 0, sa := 9 }

/-- That entry in its first candidate slot, and GAZ_RD selecting it. -/
def gazState : State :=
  put (put { inMode .configure with
    gaz := { State.reset.gaz with work := slotSet [] ((candidates 0 0 0 3 5).headD 0) (some gazEntry) } }
    (ra (pg .gaz) 0x120) 5) (ra (pg .gaz) 0x130) 3

/-- The bytes `bs` at BAR2 offset `off`. -/
def bar2Put (off : Nat) (bs : Bytes) (s : State) : State := (writeBar2 (.tircy 0) off bs s).2

/-- What an order reads at BAR2 offset `off` once it is taken in `s`. -/
def got (o : Order) (off n : Nat) (s : State) : Option Bytes × State := readBar2 (.tircy 0) off n (taken h0 o s)

/-- SA 3 installed for encryption in one state, SA 4 beside it, SA 5 for decryption; records of zeros but for the direction. -/
def withSas (s : State) : State :=
  let e := { SaEntry.free with st := 1, record := List.replicate 64 0 }
  setSa 5 { e with dir := 1, record := (List.replicate 64 0).set 0 0x40000000 } (setSa 4 { e with record := e.record.set 1 0x4000 } (setSa 3 e s))

/-- PROVISION with the owner's key and the key-encryption key at hand. -/
def provisioned : State :=
  let s := inMode .provision
  { s with keys := { s.keys with owner := some (zeros 96), kekGenerated := true }, lun := { s.lun with kek := some (zeros 32), kekCheck := kekCheckOf (zeros 32) } }

/-- A boot with no sound image, or with the image of `BootInput.imgA`. -/
def bootInput : BootInput := { imgA := none, imgB := none, gib := List.replicate 8 16, mts := 0, failed := [], rngFails := 0, almFails := [] }

/-- SOLO with the mode byte of a container of KEY_IMPORT in BAR2; with the lengths of one of CAK_LOAD. -/
def importState : State := bar2Put 0 [2] (inMode .solo)
def cakState : State := bar2Put 0 [32, 16] (inMode .solo)

/-- SOLO with every key slot at zeros and the SAs of `withSas`. -/
def exportState : State := withSas { inMode .solo with keys := { State.reset.keys with slots := List.replicate 16 (some (zeros 32)) } }

/-- SOLO with a public-key job header in BAR2: operation 1 on P-256 in area 1. -/
def pkeState : State := bar2Put 0 [0, 1, 1, 1] (inMode .solo)
def pkeHead : Option Bytes × State := got (.pkeJob 0) 0 0x40 pkeState
def pkeBody : Option Bytes × State := readBar2 (.tircy 0) 0 (jobBytes (jobOf (some 0) (pkeHead.1.getD []))) pkeHead.2
theorem pair_true {x : Bool × State} (h : x.1 = true) : x = (true, x.2) := Prod.ext h rfl

/-- A register as it stands now and at the last boundary. -/
def cfgPut (s : State) (a : Nat) (v : Word) : State :=
  let t := put s a v
  { t with cfg := t.regs }

/-- CONFIGURE with every highway and every tributary on, of type `k` (0 and 1: E1, 2: T1). -/
def circuits (k : Nat) (t : Nat := 0) : State :=
  cfgPut (put (inMode .configure) (ra (pg .hwy (t / 32)) 0x100) 0x80000000) (trbReg t 0) (wd (2 ^ 31 + k * 2 ^ 28))

/-- Ports of 100 Gb/s on both sides, up, with their MACs' addresses; traffic in SOLO. -/
def ports (m : Mode) (n : Nat := 0) : State :=
  let p := { Port.init with mode := 5, part := 64, ingUp := true, egUp := true, aligned := true }
  { inMode m n with plainPorts := List.replicate 16 p, linePorts := List.replicate 16 p }

/-- A failure record and a sample. -/
def failure : ErrRec := ordErr State.reset 1 0x2A 7 0 4
def smpRec : SampleRec := { words := List.replicate 15 1 }

/-- A frame of 60 bytes of `dir` for port 15, in stage `st`. -/
def frm (dir : Dir) (st : FrameStage) : Frame :=
  { Frame.fresh dir 0 (zeros 60) 0 0 with kind := .sa, cls := 0, dest := 15, stage := st, result := zeros 60 }

/-- SOLO with every port up and the frame `f` in the device. -/
def holding (f : Frame) (n : Nat := 0) : State :=
  { ports .solo n with frames := { list := [f], nextId := 1, taken := [], polarMax := [0, 0] } }

/-- A frame of 64 bytes with EtherType `et`. -/
def plainBytes (hi lo : Byte) : Bytes := zeros 12 ++ [hi, lo] ++ zeros 50

/-- Every pipeline with the fields of `p`. -/
def pipes (p : Pipe) (n : Nat := 0) : State := { inMode .solo n with pipes := List.replicate 42 p }

/-- The symbols of a sound frame of highway 7 for tick 0, its slots all zero. -/
def hwySyms : List Nat := [0x1BC, 0, 0, 0x87] ++ List.replicate 1152 0 ++ [198, 170, 0x1FD]

/-- The tributary `x` as number 255 of `circuits k`. -/
def withTrib (k : Nat) (x : Trib) : State := { circuits k 255 with tribs := [(255, x)] }

/-- A device in mode `m` with the Oldun link enabled, and a message of type `k` on it. -/
def linked (m : Mode) (n : Nat := 0) : State := put (inMode m n) (ra (pg .old) 0x100) 0x80000000
def msg (k : Nat) (p : Bytes) : Bytes := oldMessage k 0 (p.length / 244 + 1) p
def rcv (k : Nat) (p : Bytes) (s : State) : Option Bytes × State := oldReceive k (msg k p) s

/-- A tick's list of this twin, the peer's part closed. -/
def lst (t : Tick) (own : List ListItem) : TickList :=
  { tick := t, own := own, acked := false, peer := none, exclOwn := false, exclPeer := true }

/-- A key change whose first field is announced, and a chore of the host's part. -/
def mka : MkaChange := { old := 3, new := 4, sak := zeros 16, peers := [], announced := true, switchAt := none, retired := false }
def chore (b : ChoreBody) : Chore := { part := 0, ord := none, tick := 0, body := b, stalled := false }

/-- SOLO with one chore, which erases SA 3, and what the item leaves. -/
def choreState : State := { withSas (inMode .solo) with grt := { State.reset.grt with queue := [chore (.erase 3)] } }
def erased (i : Nat) (s : State) : State := eclDoom i (pendSa i .erase (markStale (workSa s i) s))
theorem erase_live (i : Nat) (s : State) (h : (workSa s i).st ≠ 0) : choreBody (.erase i) s = .take .ok (erased i s) := by
  simp [choreBody, eraseItem, h, erased]

/-- A Survey of three records that runs. -/
def survey : Survey :=
  { ord := none, base := 0, count := 3, rep := false, active := true, next := 0, seen := 0, stop := false, doneTick := none }

/-- SOLO with slot 1 to be compared again with its shadow record `b`. -/
def recheckState (b : Bytes) (s : State) : State :=
  bar2Put 32 b { s with swp := { s.swp with recheck := [(1, 0, 0)] } }
def again (b : Bytes) (s : State) : Option Bytes × State :=
  readBar2 .record 32 32 { recheckState b s with swp := { s.swp with recheck := [] } }

/-- A shadow record of a key that is not in the table, and the one of `gazEntry`. -/
def missing : Bytes := zeros 17 ++ [1] ++ zeros 14
def matching : Bytes := 5 :: zeros 15 ++ [3, 1, 0, 0, 9] ++ zeros 11

/-- The utility cipher unit at work in mode `m` on a source of `n` bytes. -/
def ucuAt (m n : Nat) : State :=
  let s := put (put (inMode .solo) (ra (pg .ucu) 0x108) (wd (m * 2 ^ 24))) (ra (pg .ucu) 0x11C) (wd n)
  { s with ucu := { s.ucu with busy := true } }

/-- TWIN_EMIT with one item of port 15 not yet cut; with an own digest of the present tick. -/
def cutState : State :=
  let s := linked .twinEmit
  { s with twin := { s.twin with items := [{ port := 15, sa := 0, field := 0, entry := 0, h := 0, rxAt := 0 }] } }
def digestState : State :=
  let s := linked .twinEmit
  { s with twin := { s.twin with own := [digestOf (zeros 408)] } }

theorem pair_false {x : Bool × State} (h : x.1 = false) : x = (false, x.2) := Prod.ext h rfl
theorem pair_none {α : Type} {x : Option α × State} (h : x.1.isNone = true) : x = (none, x.2) :=
  Prod.ext (Option.isNone_iff_eq_none.mp h) rfl

/-- SOLO at tick 65,536 with the key changes `cs`, SAs 3 and 4 for encryption, 5 and 6 for decryption, SA 5's old one closed, and a CAK
for line port 0. -/
def mkaState (cs : List MkaChange) : State :=
  let s := withSas (inMode .solo 65536)
  { setSa 6 (saOf s 5) s with ecl := { State.reset.ecl with mka := cs }, keys := { State.reset.keys with caks := [([], [], 0)] } }
def mkaClosed (cs : List MkaChange) : State := setSa 5 { saOf (mkaState cs) 5 with closed := true } (mkaState cs)
def mkaQueue : Bool × State :=
  agentItem (.installImg 7 (nextImage (workSa (mkaState []) 3).record (some (regFld (mkaState []) (ra (pg .ecl) 0x10C) 3 0))) (some (zeros 16)) false)
    (mkaState [])
def mkaPeerItems (s : State) : Bool × State :=
  agentItems (.installImg 7 (nextImage (workSa s 5).record none) (some (zeros 16)) false :: (entriesOf s 5).map (fun g => .gaz (copyEdit 1 7 g))) s

/-- SOLO with one line of area 15 poisoned, and a job whose operands cover it in part. -/
def poisonedArea : State :=
  let s := inMode .solo
  { s with sealPath := { s.sealPath with poison := [lineAddr s (areaAddr 15)] } }
def job (n : Nat) : PkeJob :=
  { ord := none, area := 15, op := 1, curve := 2, len := 384, out := 0, mlen := 0, ops := zeros n, attest := none }
def jobIn (j : PkeJob) (s : State) : Bool × State :=
  sealWrite (.tircy 0) (areaAddr j.area) j.ops (event (pg .pke) 0 (bump (pg .pke) 0x200 1
    { s with pke := { s.pke with jobs := [], lastClk := pkeClocks s j } }))
def withJob (j : PkeJob) (s : State) : State := { s with pke := { s.pke with jobs := [j] } }

/-! ### Well-formedness: well-formed terms, and one ill-formed term for each check -/

def gaz0 : GazEditArgs := { op := 0, kind := 0, port := 0, age := false, action := 0, cls := 0, sa := 0, key := 0 }
def con0 : ConEditArgs := { op := 0, action := 0, cls := 0, prioAuto := false, prio := 0, sa := 0, value := 0, mask := 0 }

theorem test_wellformed_1 : (([.logRead h0 0 0 0, .modeSet h0 0, .attest h0 0 0, .fwStage h0 0 0 0, .fwActivate h0 0, .fwAgentRestarted 0 false, .ownerEnrol h0 0,
   .portMap h0 .plain 0 (List.replicate 8 0), .portEq h0 false .plain 0, .portEqTimeout .plain 0, .memRetrain h0 0, .remapOutDone 0,
   .retrainingDone 0 0 0 false, .remapInDone 0, .merStep h0 false false 0 0 0, .keyImport h0 0 0, .cakLoad h0 0 0,
   .saInstall h0 0 0 0, .saRewrite h0 0 0 0, .saErase h0 0, .saPin h0 0, .saUnpin h0 0, .saExport h0 0 0 0, .saImport h0 0 0 0,
   .gazEdit h0 gaz0, .conEdit h0 con0, .surveyStart h0 0 0 false, .eclSchedule h0 0 0 0 0 0, .eclCancel h0 0 0 0, .almAdvance h0 0 0,
   .almRenew h0 0, .sealRekey h0 0, .rekeyDone 0 [], .pkeJob h0 0, .twinArbitrate h0 0, .diagSaLoad h0 0 0 0,
   .diagLoopback h0 0 0 0 .plain, .choreItemCommit 0, .sweeperVisit 0 false false, .surveyRecheck 0] : List Instr).all Instr.wf) = true := by decide +kernel

theorem test_wellformed_2 : (([.plainFrameRx 0 0 [] .good false, .lineFrameRx 0 0 [] .good false, .orbitFillDone 0 .passed, .gangFinish 0 0 false,
   .egressBegin .plain 0 0, .transitLaunch 0 0, .bundleAssembly 0, .bundleDeadline 0, .linkUp .plain 0, .linkDown .plain 0 0,
   .pfcRefresh .plain 0, .preemptVerify .plain 0 .request, .pipeFault 0 0 0, .testCycleEnd 0 0, .shortKatEnd 0 0, .returnCycleEnd 0 0,
   .quiesceDone 0, .highwayFrameRx 0 0 [], .highwayLos 0, .tribFrameComplete 0, .compassHunt 0, .tribDefectChange 0 0 false,
   .pmSecondClassify 0, .heartbeatRx [] 0, .digestCut 0, .rxCheckpointSend 0, .crossCheckSend 0,
   .joinTrust false 0 0 0 (List.replicate 32 0), .trigPulse 0, .servoChange none 0, .servoChange (some 31) 0, .porstN false 0,
   .thermalTrip 0, .agentRestart 0, .bootSequence bootInput, .lunarSample 0 0, .boundaryCheck .host .read 0 ⟨0, 0, 1⟩,
   .sealedRead .host 0 0 false, .sealedWrite .host 0 0 [] false, .scrub 0 0 false] : List Instr).all Instr.wf) = true := by decide +kernel

theorem test_wellformed_3 : (([.healthSample 0 0, .smbusRead 0, .smbusWrite 0, .debugToken false [], .snapGo .host 0, .sysGsnapGo .host, .qreq .host 0 false,
   .srst .host 0, .blockEn .host 0 false, .lock .host 0, .intForce .host 0 0, .intStatClear .host 0 0, .errInfoClear .host 0,
   .errCountWrite .host 0 0, .pmcWrite .host 0 0x088 0, .intEoi .host 0, .msixUnmask .host 0, .sysCompatWrite .host 0,
   .grtResvQuery .host 0, .portLoopWrite .host .plain 0 0, .portPfcThrWrite .host .plain 0 0, .gazSeedWrite .host 0 0, .gazRdGo .host,
   .conRdGo .host, .orbRdGo .host, .seqRdGo .host, .eclRdGo .host 0, .eclRdNext .host, .swpSurveyStop .host, .swpMisPop .host,
   .almNotePop .host, .eclNotePop .host, .tsiWdata .host 0, .tsiCopy .host 0, .tsiCancel .host .enc, .tsiRidxWrite .host 0,
   .bunWrite .host, .bunRead .host, .trbHunt .host 0, .apsCmdWrite .host 0 0] : List Instr).all Instr.wf) = true := by decide +kernel

theorem test_wellformed_4 : (([.hwyLoopWrite .host 0 0, .oldLoopWrite .host 0, .merRateWrite .host 0, .trgArm .host 0 0, .pmbRdGo .host, .pmbTcaPop .host,
   .schClrMax .host, .sealB2mapWrite .host 0 0, .bdyCommit .host 0, .bdyCommitDrained 0, .bdyNoticePop .host 0,
   .ordCtrlEn .host false, .ordSqTail .host 0, .ordCqHead .host 0, .eraCtrlEn .host false, .eraCons .host 0, .lrnRingCons .host 0,
   .smpCtrlEn .host false, .smpCons .host 0, .ucuAcq ⟨.host, none⟩, .ucuRel .host, .ucuForce .host, .ucuGo .host, .ucuKeysrcWrite .host 0,
   .pkeAbort .host 0, .rngReq .host, .rngReseed .host, .registerWrite .host 0 0 ⟨0, []⟩, .highwayLosync 0 false,
   .oldunSyncChange false 0 false 0 0, .supplyRelease 0, .segmentRewriteDone 0, .controlFrameTx .plain 0 [], .agentChoreItem 0 gaz0] : List Instr).all Instr.wf) = true := by decide +kernel

theorem test_illformed_1 : (([.logRead h0 (2 ^ 32) 0 0, .logRead h0 0 (2 ^ 32) 0, .logRead h0 0 0 (2 ^ 28), .modeSet h0 16, .attest h0 (2 ^ 28) 0,
   .attest h0 0 (2 ^ 28), .fwStage h0 (2 ^ 28) 0 0, .fwStage h0 0 (2 ^ 32) 0, .fwStage h0 0 0 2, .fwActivate h0 2,
   .fwAgentRestarted 64 false, .ownerEnrol h0 (2 ^ 28), .portMap h0 .plain 2 (List.replicate 8 0), .portMap h0 .plain 0 [],
   .portMap h0 .plain 0 (List.replicate 8 2048), .portEq h0 false .plain 16, .portEqTimeout .plain 16, .memRetrain h0 8,
   .remapOutDone 8, .retrainingDone 8 0 0 false, .retrainingDone 0 4 0 false, .retrainingDone 0 0 6 false, .remapInDone 8,
   .merStep h0 false false (2 ^ 48) 0 0, .merStep h0 false false 0 (2 ^ 30) 0, .merStep h0 false false 0 0 (2 ^ 16),
   .keyImport h0 16 0, .keyImport h0 0 (2 ^ 28), .cakLoad h0 16 0, .cakLoad h0 0 (2 ^ 28), .saInstall h0 (2 ^ 21) 0 0,
   .saInstall h0 0 (2 ^ 28) 0, .saInstall h0 0 0 16, .saRewrite h0 (2 ^ 21) 0 0, .saRewrite h0 0 (2 ^ 28) 0, .saRewrite h0 0 0 16,
   .saErase h0 (2 ^ 21), .saPin h0 (2 ^ 21), .saUnpin h0 (2 ^ 21), .saExport h0 (2 ^ 21) 0 0] : List Instr).any Instr.wf) = false := by decide +kernel

theorem test_illformed_2 : (([.saExport h0 0 (2 ^ 28) 0, .saExport h0 0 0 16, .saImport h0 (2 ^ 21) 0 0, .saImport h0 0 (2 ^ 28) 0, .saImport h0 0 0 16,
   .gazEdit h0 { gaz0 with op := 4 }, .conEdit h0 { con0 with op := 4 }, .surveyStart h0 (2 ^ 28) 0 false,
   .surveyStart h0 0 (2 ^ 22) false, .eclSchedule h0 4 0 0 0 0, .eclSchedule h0 0 (2 ^ 21) 0 0 0, .eclSchedule h0 0 0 (2 ^ 21) 0 0,
   .eclSchedule h0 0 0 0 0 (2 ^ 64), .eclCancel h0 4 0 0, .eclCancel h0 0 (2 ^ 21) 0, .almAdvance h0 (2 ^ 16) 0,
   .almAdvance h0 0 (2 ^ 23), .almRenew h0 16, .sealRekey h0 16, .rekeyDone 16 [], .pkeJob h0 (2 ^ 28), .twinArbitrate h0 4,
   .diagSaLoad h0 (2 ^ 21) 0 0, .diagSaLoad h0 0 16 0, .diagSaLoad h0 0 0 (2 ^ 28), .diagLoopback h0 4 0 0 .plain,
   .diagLoopback h0 0 256 0 .plain, .diagLoopback h0 0 0 4 .plain, .choreItemCommit (2 ^ 18), .sweeperVisit (2 ^ 21) false false,
   .surveyRecheck (2 ^ 21), .plainFrameRx 16 0 [] .good false, .plainFrameRx 0 (2 ^ 18) [] .good false,
   .plainFrameRx 0 0 [] (.corrected (2 ^ 16) 0) false, .plainFrameRx 0 0 [] (.corrected 0 (2 ^ 16)) false,
   .plainFrameRx 0 0 [] (.uncorrectable 0) false, .plainFrameRx 0 0 [] (.uncorrectable (2 ^ 16)) false,
   .lineFrameRx 16 0 [] .good false, .lineFrameRx 0 (2 ^ 18) [] .good false, .lineFrameRx 0 0 [] (.corrected (2 ^ 16) 0) false] : List Instr).any Instr.wf) = false := by decide +kernel

theorem test_illformed_3 : (([.lineFrameRx 0 0 [] (.corrected 0 (2 ^ 16)) false, .lineFrameRx 0 0 [] (.uncorrectable 0) false,
   .lineFrameRx 0 0 [] (.uncorrectable (2 ^ 16)) false, .orbitFillDone (2 ^ 21) .passed, .gangFinish 0 (2 ^ 18) false,
   .egressBegin .plain 16 0, .egressBegin .plain 0 (2 ^ 18), .transitLaunch 0 (2 ^ 18), .bundleAssembly 1024, .bundleDeadline 1024,
   .linkUp .plain 16, .linkDown .plain 16 0, .linkDown .plain 0 3, .pfcRefresh .plain 16, .preemptVerify .plain 16 .request,
   .pipeFault 42 0 0, .pipeFault 0 4 0, .pipeFault 0 0 16, .pipeFault 0 1 1, .testCycleEnd 42 0, .testCycleEnd 0 256,
   .shortKatEnd 42 0, .shortKatEnd 0 256, .returnCycleEnd 42 0, .returnCycleEnd 0 256, .quiesceDone 4096, .highwayFrameRx 8 0 [],
   .highwayFrameRx 0 1024 [], .highwayFrameRx 0 0 [1024], .highwayLos 8, .tribFrameComplete 256, .compassHunt 256,
   .tribDefectChange 256 0 false, .tribDefectChange 0 5 false, .pmSecondClassify 1280, .heartbeatRx [] (2 ^ 18), .digestCut 16,
   .rxCheckpointSend (2 ^ 21), .crossCheckSend 16, .joinTrust false (2 ^ 384) 0 0 (List.replicate 32 0)] : List Instr).any Instr.wf) = false := by decide +kernel

theorem test_illformed_4 : (([.joinTrust false 0 (2 ^ 384) 0 (List.replicate 32 0), .joinTrust false 0 0 (2 ^ 64) (List.replicate 32 0),
   .joinTrust false 0 0 0 [], .trigPulse 4, .servoChange (some 32) 0, .servoChange (some 32) 1, .porstN false 16,
   .thermalTrip 8, .agentRestart 64, .bootSequence { bootInput with gib := [] },
   .bootSequence { bootInput with failed := [(8, 0, 0)] }, .bootSequence { bootInput with failed := [(0, 4, 0)] },
   .bootSequence { bootInput with failed := [(0, 0, 6)] }, .lunarSample 9 0, .lunarSample 0 (2 ^ 16),
   .boundaryCheck (.tircy 4) .read 0 ⟨0, 0, 1⟩, .boundaryCheck .host .read (2 ^ 48) ⟨0, 0, 1⟩, .boundaryCheck .host .read 0 ⟨3, 0, 1⟩,
   .boundaryCheck .host .read 0 ⟨0, 16, 1⟩, .boundaryCheck .host .read 0 ⟨0, 0, 0⟩, .boundaryCheck .host .read 0 ⟨0, 0, 1025⟩,
   .sealedRead (.tircy 4) 0 0 false, .sealedRead .host (2 ^ 48) 0 false, .sealedWrite (.tircy 4) 0 0 [] false,
   .sealedWrite .host (2 ^ 48) 0 [] false, .scrub 6 0 false, .scrub 4 (2 ^ 21) false, .healthSample 24 0, .healthSample 0 (2 ^ 32),
   .smbusRead 256, .smbusWrite 256, .debugToken false [64], .snapGo (.tircy 4) 0, .snapGo .host 4096, .sysGsnapGo (.tircy 4),
   .qreq (.tircy 4) 0 false, .qreq .host 4096 false, .srst (.tircy 4) 0, .srst .host 4096, .blockEn (.tircy 4) 0 false] : List Instr).any Instr.wf) = false := by decide +kernel

theorem test_illformed_5 : (([.blockEn .host 4096 false, .lock (.tircy 4) 0, .lock .host 4096, .intForce (.tircy 4) 0 0, .intForce .host 4096 0,
   .intStatClear (.tircy 4) 0 0, .intStatClear .host 4096 0, .errInfoClear (.tircy 4) 0, .errInfoClear .host 4096,
   .errCountWrite (.tircy 4) 0 0, .errCountWrite .host 4096 0, .pmcWrite (.tircy 4) 0 0x088 0, .pmcWrite .host 4096 0x088 0,
   .pmcWrite .host 0 0x084 0, .pmcWrite .host 0 0x0CC 0, .pmcWrite .host 0 0x08A 0, .intEoi (.tircy 4) 0, .msixUnmask (.tircy 4) 0,
   .msixUnmask .host 64, .sysCompatWrite (.tircy 4) 0, .grtResvQuery (.tircy 4) 0, .portLoopWrite (.tircy 4) .plain 0 0,
   .portLoopWrite .host .plain 16 0, .portPfcThrWrite (.tircy 4) .plain 0 0, .portPfcThrWrite .host .plain 16 0,
   .gazSeedWrite (.tircy 4) 0 0, .gazSeedWrite .host 2 0, .gazRdGo (.tircy 4), .conRdGo (.tircy 4), .orbRdGo (.tircy 4),
   .seqRdGo (.tircy 4), .eclRdGo (.tircy 4) 0, .eclRdNext (.tircy 4), .swpSurveyStop (.tircy 4), .swpMisPop (.tircy 4),
   .almNotePop (.tircy 4), .eclNotePop (.tircy 4), .tsiWdata (.tircy 4) 0, .tsiCopy (.tircy 4) 0, .tsiCancel (.tircy 4) .enc] : List Instr).any Instr.wf) = false := by decide +kernel

theorem test_illformed_6 : (([.tsiRidxWrite (.tircy 4) 0, .bunWrite (.tircy 4), .bunRead (.tircy 4), .trbHunt (.tircy 4) 0, .trbHunt .host 256,
   .apsCmdWrite (.tircy 4) 0 0, .apsCmdWrite .host 128 0, .hwyLoopWrite (.tircy 4) 0 0, .hwyLoopWrite .host 8 0,
   .oldLoopWrite (.tircy 4) 0, .merRateWrite (.tircy 4) 0, .trgArm (.tircy 4) 0 0, .trgArm .host 4 0, .pmbRdGo (.tircy 4),
   .pmbTcaPop (.tircy 4), .schClrMax (.tircy 4), .sealB2mapWrite (.tircy 4) 0 0, .sealB2mapWrite .host 2 0, .bdyCommit (.tircy 4) 0,
   .bdyCommit .host 8, .bdyCommitDrained 8, .bdyNoticePop (.tircy 4) 0, .bdyNoticePop .host 8, .ordCtrlEn (.tircy 4) false,
   .ordSqTail (.tircy 4) 0, .ordCqHead (.tircy 4) 0, .eraCtrlEn (.tircy 4) false, .eraCons (.tircy 4) 0, .lrnRingCons (.tircy 4) 0,
   .smpCtrlEn (.tircy 4) false, .smpCons (.tircy 4) 0, .ucuAcq ⟨.tircy 4, none⟩, .ucuAcq ⟨.host, some (.tircy 4)⟩, .ucuRel (.tircy 4), .ucuForce (.tircy 4),
   .ucuGo (.tircy 4), .ucuKeysrcWrite (.tircy 4) 0, .pkeAbort (.tircy 4) 0, .pkeAbort .host 16, .rngReq (.tircy 4),
   .rngReseed (.tircy 4)] : List Instr).any Instr.wf) = false := by decide +kernel

theorem test_illformed_7 : (([.registerWrite (.tircy 4) 0 0 ⟨0, []⟩, .registerWrite .host 0xFFFFFC 15 ⟨0, [0]⟩, .registerWrite .host 0 16 ⟨0, []⟩, .highwayLosync 8 false,
   .oldunSyncChange false 256 false 0 0, .oldunSyncChange false 0 false 17 0, .oldunSyncChange false 0 false 0 (2 ^ 21),
   .supplyRelease 16, .segmentRewriteDone 16, .controlFrameTx .plain 16 [], .agentChoreItem 64 gaz0,
   .agentChoreItem 0 { gaz0 with op := 4 }, .gazRdGo (.agentUser 3), .gazRdGo (.agentUser 64), .gazRdGo (.agentKernel 3),
   .gazRdGo (.agentKernel 64), .gazEdit h0 { gaz0 with kind := 16 }, .gazEdit h0 { gaz0 with port := 16 },
   .gazEdit h0 { gaz0 with action := 4 }, .gazEdit h0 { gaz0 with cls := 4 }, .gazEdit h0 { gaz0 with sa := 2 ^ 21 },
   .gazEdit h0 { gaz0 with key := 2 ^ 128 }, .conEdit h0 { con0 with action := 4 }, .conEdit h0 { con0 with cls := 4 },
   .conEdit h0 { con0 with prio := 256 }, .conEdit h0 { con0 with sa := 2 ^ 21 }, .conEdit h0 { con0 with value := 2 ^ 160 },
   .conEdit h0 { con0 with mask := 2 ^ 160 }] : List Instr).any Instr.wf) = false := by decide +kernel

/-! ### Operations against values from outside the model -/

/-- The check values of the catalogued CRCs over the digits 1 to 9: CRC-16 with 0x1021 from 0xFFFF (R139), CRC-32C (R122), the frame
check sequence of IEEE 802.3 (R95). -/
theorem test_crc_check_values :
    crc16 ((List.range 9).map (fun i => by8 (0x31 + i))) = 0x29B1 ∧ crc32c 0xFFFFFFFF ((List.range 9).map (fun i => by8 (0x31 + i))) = 0xE3069283 ∧
      crc32 ((List.range 9).map (fun i => by8 (0x31 + i))) = 0xCBF43926 := by decide +kernel

/-- SHA-256 of no bytes begins E3B0C442 (FIPS 180-4's empty message). -/
theorem test_sha256_empty : (sha256 []).take 4 = [0xE3, 0xB0, 0xC4, 0x42] := by decide +kernel

/-- AES-128 of FIPS 197, appendix C.1. -/
theorem test_aes128 :
    aesEnc ((List.range 16).map by8) ((List.range 16).map (fun i => by8 (i * 0x11))) =
      [0x69, 0xC4, 0xE0, 0xD8, 0x6A, 0x7B, 0x04, 0x30, 0xD8, 0xCD, 0xB7, 0x80, 0x70, 0xB4, 0xC5, 0x5A] := by decide +kernel

/-- The base point of P-384 lies on the curve (FIPS 186), and a point beside it does not. -/
theorem test_p384_base : onCurve p384 p384.gx p384.gy = true ∧ onCurve p384 p384.gx (p384.gy + 1) = false := by decide +kernel

/-- The table gives no row any bits: no word spells a command, and none is put into the queue. -/
theorem test_no_table_words : decodeTableWord 32 0 = none ∧ (State.reset.withFetchWord 32 0).pending = [] := by decide +kernel

/-! ### The statements: each clause of each has a state and operands that meet its hypotheses -/

theorem witness_StepRunsTheFrontCommand : (∃ (c : _) (rest : _) (s : State), s.pending = c :: rest) :=
  ⟨.idcode, [.bypass], { State.reset with pending := [.idcode, .bypass] }, (by decide +kernel)⟩

theorem witness_EveryStepAnswersANextState : (∃ (s : State), s.pending = []) :=
  ⟨inMode .solo, (by decide +kernel)⟩



theorem witness_FaultNInvariantIsKept : (∃ (s : State) (t : State), (s.pending ≠ [] ∨ s.intr.faultN = (sysFault s == 0 && !modeIn
  [.lunar, .reset] s)) ∧ step s = .next t) :=
  ⟨{ inMode .configure with pending := [.idcode] }, after ({ inMode .configure with pending := [.idcode] }), (by decide +kernel), rfl⟩

theorem witness_AssertedVectorsInvariantIsKept : (∃ (s : State) (t : State), ((Awake s → s.intr.asserted = assertedVecs s)) ∧ step s =
  .next t ∧ Awake t) :=
  ⟨{ inMode .configure with pending := [.idcode] }, after ({ inMode .configure with pending := [.idcode] }), (by decide +kernel), rfl,
    (by decide +kernel)⟩

theorem witness_CapturedErrorsStayPending : (∃ (s : State) (t : State), ((Awake s → ∀ e ∈ s.legends, bit e.2.errInfo 31 = true → bit
  e.2.intStat 31 = true)) ∧ step s = .next t ∧ Awake t ∧ (∀ e ∈ t.legends, bit e.2.errInfo 31 = true)) :=
  ⟨{ inMode .configure with pending := [.idcode], legends := [(1, { Legend.init with errInfo := 0xC0000000, intStat := 0x80000000 })] },
    after
    ({ inMode .configure with pending := [.idcode], legends := [(1, { Legend.init with errInfo := 0xC0000000, intStat := 0x80000000 })] }),
    (by decide +kernel), rfl, (by decide +kernel), (by decide +kernel)⟩



theorem witness_TheModeTriggerOfLowestRankWins : (∃ (l : List ModeTrig) (w : ModeTrig), winner l = some w) :=
  ⟨[{ target := .solo, cause := 0x0B, rank := 6, ord := none }, { target := .drain, cause := 0x10, rank := 3, ord := none }],
    { target := .drain, cause := 0x10, rank := 3, ord := none }, (by decide +kernel)⟩

theorem witness_MaskedVectorsWaitInThePendingBits : (∃ (s : State) (v : Nat), behaviour s 4 = false ∧ ((bit (getReg s (ra (pg .int)
  (0x80C + 16 * v))) 0 = true ∨ s.intr.fmask = true))) ∧ (∃ (s : State) (v : Nat), behaviour s 4 = false ∧ s.dev.pcieUp = true ∧
  s.intr.fmask = false ∧ bit (getReg s (ra (pg .int) (0x80C + 16 * v))) 0 = false ∧ s.intr.pba.testBit v = true) ∧ (∃ (s : State) (v :
  Nat), s.intr.pba.testBit v = false) :=
  ⟨⟨(inMode .configure), 63, (by decide +kernel), (by decide +kernel)⟩,
   ⟨{ put (inMode .configure) (ra (pg .int) (0x80C + 16 * 63)) 0 with intr := { State.reset.intr with pba := 2 ^ 63 } }, 63,
  (by decide +kernel), (by decide +kernel), (by decide +kernel), (by decide +kernel), (by decide +kernel)⟩,
   ⟨(inMode .configure), 0, (by decide +kernel)⟩⟩

/-- Region 61 decides the host's access to the first byte of BAR2; no region of the agents' unit holds it for its user class. -/
theorem witness_TheHighestMatchingRegionDecides :
    (∃ (s : State) (m : Master) (a n : Nat), n < 64 ∧ bit (regionWord s (unitOf m).1 n 2) 31 = true ∧
      bit (regionWord s (unitOf m).1 n 2) (if (unitOf m).2 then 29 else 28) = true ∧ inRegion s (unitOf m).1 n a = true ∧
      (∀ q, n < q → q < 64 → ¬ (bit (regionWord s (unitOf m).1 q 2) 31 = true ∧
        bit (regionWord s (unitOf m).1 q 2) (if (unitOf m).2 then 29 else 28) = true ∧ inRegion s (unitOf m).1 q a = true))) ∧
    (∃ (s : State) (m : Master) (a : Nat), ∀ q, q < 64 → ¬ (bit (regionWord s (unitOf m).1 q 2) 31 = true ∧
      bit (regionWord s (unitOf m).1 q 2) (if (unitOf m).2 then 29 else 28) = true ∧ inRegion s (unitOf m).1 q a = true)) := by
  refine ⟨⟨State.reset, .host, 4 * 2 ^ 44 + 0x38000000, 61, ?_, ?_, ?_, ?_, ?_⟩, State.reset, .agentUser 5, 0, ?_⟩
  · decide +kernel
  · decide +kernel
  · decide +kernel
  · decide +kernel
  · have h : ∀ q : Fin 64, 61 < q.val → ¬ (bit (regionWord State.reset (unitOf .host).1 q.val 2) 31 = true ∧
        bit (regionWord State.reset (unitOf .host).1 q.val 2) (if (unitOf .host).2 then 29 else 28) = true ∧
        inRegion State.reset (unitOf .host).1 q.val (4 * 2 ^ 44 + 0x38000000) = true) := by decide +kernel
    exact fun q a b => h ⟨q, b⟩ a
  · have h : ∀ q : Fin 64, ¬ (bit (regionWord State.reset (unitOf (.agentUser 5)).1 q.val 2) 31 = true ∧
        bit (regionWord State.reset (unitOf (.agentUser 5)).1 q.val 2) (if (unitOf (.agentUser 5)).2 then 29 else 28) = true ∧
        inRegion State.reset (unitOf (.agentUser 5)).1 q.val 0 = true) := by decide +kernel
    exact fun q b => h ⟨q, b⟩

/-- The host without its link; an agent's user code at the order page; writes of three, two and one words. -/
theorem witness_RegisterCommandsTouchNothingWhenDenied :
    (∃ (i : Instr) (m : Master) (a : Nat) (s : State), i.wf = true ∧ regTarget i = some (m, a) ∧ reachable m s = false) ∧
    (∃ (i : Instr) (m : Master) (a : Nat) (s : State), i.wf = true ∧ regTarget i = some (m, a) ∧ reachable m s = true ∧
      permitted s m .write (regAddr a) = false) ∧
    (∃ (m : Master) (off be : Nat) (v : Word) (ws : List Word) (s : State), (Instr.registerWrite m off be ⟨v, ws⟩).wf = true ∧
      reachable m s = false) ∧
    (∃ (m : Master) (off be : Nat) (v : Word) (ws : List Word), (Instr.registerWrite m off be ⟨v, ws⟩).wf = true) ∧
    (∃ (m : Master) (off : Nat) (s : State), off < 2 ^ 24 ∧ reachable m s = true ∧ permitted s m .write (regAddr (off / 4 * 4)) = false) :=
  ⟨⟨.gazRdGo .host, .host, ra (pg .gaz) 0x114, State.reset, by decide +kernel, by decide +kernel, by decide +kernel⟩,
   ⟨.ordSqTail (.agentUser 63) 0, .agentUser 63, ra (pg .ord) 0x10C, inMode .solo, by decide +kernel, by decide +kernel,
    by decide +kernel, by decide +kernel⟩,
   ⟨.host, 0x800, 15, 0, [0, 0], State.reset, by decide +kernel, by decide +kernel⟩,
   ⟨.host, 0xFFFFF8, 15, 0, [0], by decide +kernel⟩,
   ⟨.agentUser 63, 0xFFFFFF, inMode .solo, by decide +kernel, by decide +kernel, by decide +kernel⟩⟩

/-- MODE_SET of the code 0xC; PORT_MAP in SOLO. -/
theorem witness_RefusedOrdersEndWithArgOrState :
    (∃ (i : Instr) (h : OrdHdr) (o : Order) (s : State), i.wf = true ∧ orderOfCmd i = some (h, o) ∧ Takes h o s ∧ orderFormed s o = false) ∧
    (∃ (i : Instr) (h : OrdHdr) (o : Order) (s : State), i.wf = true ∧ orderOfCmd i = some (h, o) ∧ Takes h o s ∧
      orderFormed s o = true ∧ orderLegal s o = false) :=
  ⟨⟨.modeSet h0 0xC, h0, .modeSet 0xC, inMode .solo, by decide +kernel, by decide +kernel, by decide +kernel, by decide +kernel⟩,
   ⟨.portMap h0 .plain 0 (List.replicate 8 0), h0, .portMap .plain 0 (List.replicate 8 0), inMode .solo, by decide +kernel,
    by decide +kernel, by decide +kernel, by decide +kernel, by decide +kernel⟩⟩

/-- The host without its link; a ring that is not empty; a fence with an order outstanding. -/
theorem witness_OrdersThatAreNotTakenWait :
    (∃ (i : Instr) (h : OrdHdr) (o : Order) (s : State), i.wf = true ∧ orderOfCmd i = some (h, o) ∧ reachable .host s = false) ∧
    (∃ (i : Instr) (h : OrdHdr) (o : Order) (s : State), i.wf = true ∧ orderOfCmd i = some (h, o) ∧ s.ords.sqHead ≠ s.ords.sqTail) ∧
    (∃ (i : Instr) (h : OrdHdr) (o : Order) (s : State), i.wf = true ∧ orderOfCmd i = some (h, o) ∧ mayTake s h.fence o = false) :=
  ⟨⟨.nop h0, h0, .nop, State.reset, by decide +kernel, by decide +kernel, by decide +kernel⟩,
   ⟨.nop h0, h0, .nop, { inMode .solo with ords := { State.reset.ords with sqTail := 1 } }, by decide +kernel, by decide +kernel,
    by decide +kernel⟩,
   ⟨.nop { h0 with fence := true }, { h0 with fence := true }, .nop,
    { inMode .solo with ords := { State.reset.ords with outs := [{ id := 0, tag := 7, op := 0, int := true }] } }, by decide +kernel,
    by decide +kernel, by decide +kernel⟩⟩

theorem witness_EndedOrderWaitsForItsCompletion : (∃ (s : State), (∀ x ∈ s.ords.outs, x.id < s.ords.nextId)) :=
  ⟨{ inMode .solo with ords := { (inMode .solo).ords with nextId := 1, outs := [{ id := 0, tag := 7, op := 0, int := true }] } },
    (by decide +kernel)⟩

theorem witness_ScheduledRequestsOutsideTheirRangeEndWithArg : (∃ (t : Word) (s : State), (¬ (2 ≤ tdiff t (now s) ∧ tdiff t (now s) ≤
  2 ^ 31 - 1))) ∧ (∃ (t : Word) (s : State), (¬ (2 ≤ tdiff t (now s) ∧ tdiff t (now s) ≤ 2 ^ 31 - 1))) ∧ (∃ (h : _) (d : _) (t : _) (s
  : State), Accepted (.tsiSwap h d t) h (.tsiSwap d t) s ∧ twinMode s = false ∧ (¬ (2 ≤ tdiff t (now s) ∧ tdiff t (now s) ≤ 2 ^ 31 -
  1))) ∧ (∃ (h : _) (k : _) (i : _) (n : _) (t : _) (f : _) (s : State), Accepted (.eclSchedule h k i n t f) h (.eclSchedule k i n t
  f) s ∧ twinMode s = false ∧ (¬ (2 ≤ tdiff t (now s) ∧ tdiff t (now s) ≤ 2 ^ 31 - 1))) :=
  ⟨⟨1, (inMode .configure), (by decide +kernel)⟩,
   ⟨1, (inMode .configure), (by decide +kernel)⟩,
   ⟨h0, .enc, 1, inMode .solo, (by decide +kernel), (by decide +kernel), (by decide +kernel)⟩,
   ⟨h0, 0, 0, 0, 1, 0, inMode .solo, (by decide +kernel), (by decide +kernel), (by decide +kernel)⟩⟩

theorem witness_HeaderCommandsActOnTheirPage : (∃ (m : _) (page : _) (s : State), Granted (.snapGo m page) m (ra page 0x040) s ∧
  (pageAt page).isSome = true) ∧ (∃ (m : _) (s : State), Granted (.sysGsnapGo m) m (ra (pg .sys) 0x114) s) ∧ (∃ (m : _) (page : _) (v
  : _) (s : State), Granted (.intForce m page v) m (ra page 0x018) s ∧ (pageAt page).isSome = true) ∧ (∃ (m : _) (page : _) (v : _) (s
  : State), Granted (.intStatClear m page v) m (ra page 0x010) s ∧ (pageAt page).isSome = true) ∧ (∃ (m : _) (page : _) (s : State),
  Granted (.errInfoClear m page) m (ra page 0x020) s ∧ (pageAt page).isSome = true) ∧ (∃ (m : _) (page : _) (v : _) (s : State),
  Granted (.errCountWrite m page v) m (ra page 0x02C) s ∧ (pageAt page).isSome = true) ∧ (∃ (m : _) (page : _) (k : _) (v : _) (s :
  State), k < 8 ∧ Granted (.pmcWrite m page (0x088 + 4 * k) v) m (ra page (0x088 + 4 * k)) s ∧ (pageAt page).isSome = true) :=
  ⟨⟨.host, 1, (inMode .configure), (by decide +kernel), (by decide +kernel)⟩,
   ⟨.host, (inMode .configure), (by decide +kernel)⟩,
   ⟨.host, pg .pmb, 0xFFFFFFFF, (inMode .configure), (by decide +kernel), (by decide +kernel)⟩,
   ⟨.host, 1, 1, (inMode .configure), (by decide +kernel), (by decide +kernel)⟩,
   ⟨.host, 0, (inMode .configure), (by decide +kernel), (by decide +kernel)⟩,
   ⟨.host, 0, 5, (inMode .configure), (by decide +kernel), (by decide +kernel)⟩,
   ⟨.host, 0, 7, 9, (inMode .configure), (by decide +kernel), (by decide +kernel), (by decide +kernel)⟩⟩

theorem witness_TheGlobalSnapshotIsASnapshotOfEveryPage : (∃ (m : _) (s : State), Granted (.sysGsnapGo m) m (ra (pg .sys) 0x114) s) :=
  ⟨.host, (inMode .configure), (by decide +kernel)⟩

theorem witness_LegendControlCommandsActOnTheirPage : (∃ (m : _) (page : _) (s : State), Granted (.lock m page) m (ra page 0x008) s ∧
  (pageAt page).isSome = true) ∧ (∃ (m : _) (p : _) (s : State), Granted (.qreq m (pg .pipe p) true) m (ra (pg .pipe p) 0x008) s ∧ p <
  42 ∧ (pipeOf s p).role = 0 ∧ (legend s (pg .pipe p)).qreq = false ∧ (occulting s (pipeDir p)).all (fun o => (pipeOf s o).failCode ==
  0) = true) ∧ (∃ (m : _) (p : _) (o : _) (s : State), Granted (.qreq m (pg .pipe p) true) m (ra (pg .pipe p) 0x008) s ∧ p < 42 ∧
  (pipeOf s p).role = 0 ∧ (legend s (pg .pipe p)).qreq = false ∧ occulting s (pipeDir p) = some o ∧ (pipeOf s o).failCode ≠ 0) ∧ (∃ (m
  : _) (p : _) (s : State), Granted (.qreq m (pg .pipe p) false) m (ra (pg .pipe p) 0x008) s ∧ p < 42 ∧ (legend s (pg .pipe p)).qreq =
  true) ∧ (∃ (m : _) (p : _) (s : State), Granted (.blockEn m (pg .pipe p) true) m (ra (pg .pipe p) 0x008) s ∧ p < 42 ∧ (legend s (pg
  .pipe p)).en = false) ∧ (∃ (m : _) (p : _) (s : State), Granted (.blockEn m (pg .pipe p) false) m (ra (pg .pipe p) 0x008) s ∧ p < 42
  ∧ (legend s (pg .pipe p)).en = true ∧ (legend s (pg .pipe p)).quiesced = true) ∧ (∃ (m : _) (p : _) (s : State), Granted (.blockEn m
  (pg .pipe p) false) m (ra (pg .pipe p) 0x008) s ∧ p < 42 ∧ (legend s (pg .pipe p)).en = true ∧ (legend s (pg .pipe p)).quiesced =
  false) ∧ (∃ (m : _) (p : _) (s : State), Granted (.srst m (pg .pipe p)) m (ra (pg .pipe p) 0x008) s ∧ p < 42 ∧ (((legend s (pg .pipe
  p)).quiesced = true ∨ (pipeOf s p).role = 3))) ∧ (∃ (m : _) (page : _) (b : _) (s : State) (i : Instr), (pageAt page).isSome = true
  ∧ quiescable page = false ∧ i ∈ [Instr.qreq m page b, .blockEn m page b, .srst m page] ∧ Granted i m (ra page 0x008) s) :=
  ⟨⟨.host, 0, (inMode .configure), (by decide +kernel), (by decide +kernel)⟩,
   ⟨.tircy 0, 41, { inMode .configure with legends := [(pg .pipe 41, { Legend.init with en := true })] }, (by decide +kernel),
  (by decide +kernel), (by decide +kernel), (by decide +kernel), (by decide +kernel)⟩,
   ⟨.host, 1, 3, { inMode .configure with pipes := (List.replicate 42 Pipe.init).set 3 { Pipe.init with role := 1, failCode := 8 } },
  (by decide +kernel), (by decide +kernel), (by decide +kernel), (by decide +kernel), (by decide +kernel), (by decide +kernel)⟩,
   ⟨.tircy 0, 41, { inMode .configure with legends := [(pg .pipe 41, { Legend.init with qreq := true })] }, (by decide +kernel),
  (by decide +kernel), (by decide +kernel)⟩,
   ⟨.host, 41, { inMode .configure with legends := [(pg .pipe 41, { Legend.init with en := false })] }, (by decide +kernel),
  (by decide +kernel), (by decide +kernel)⟩,
   ⟨.tircy 0, 41, { inMode .configure with legends := [(pg .pipe 41, { Legend.init with en := true, quiesced := true })] },
  (by decide +kernel), (by decide +kernel), (by decide +kernel), (by decide +kernel)⟩,
   ⟨.tircy 0, 0, (inMode .configure), (by decide +kernel), (by decide +kernel), (by decide +kernel), (by decide +kernel)⟩,
   ⟨.host, 41, { inMode .configure with pipes := (List.replicate 42 Pipe.init).set 41 { Pipe.init with role := 3 } },
  (by decide +kernel), (by decide +kernel), (by decide +kernel)⟩,
   ⟨.host, 0, true, (inMode .configure), .srst .host 0, (by decide +kernel), (by decide +kernel), (by simp), (by decide +kernel)⟩⟩

theorem witness_InterruptSystemAndPortCommandsTakeEffect : (∃ (m : _) (v : _) (s : State), Granted (.intEoi m v) m (ra (pg .int)
  0x300) s ∧ behaviour s 4 = false ∧ s.intr.asserted.testBit (fld v 5 0) = true) ∧ (∃ (m : _) (v : _) (s : State), Granted (.intEoi m
  v) m (ra (pg .int) 0x300) s ∧ behaviour s 4 = false ∧ s.intr.asserted.testBit (fld v 5 0) = false) ∧ (∃ (m : _) (vec : _) (s :
  State), Granted (.msixUnmask m vec) m (ra (pg .int) (0x80C + 16 * vec)) s) ∧ (∃ (m : _) (v : _) (s : State), Granted
  (.sysCompatWrite m v) m (ra (pg .sys) 0x104) s ∧ s.dev.mode = .configure ∧ ((behaviour s 1 = false ∨ legacyHeld s = false)) ∧
  outstanding s = 0 ∧ behaviour s 4 = behaviour (setReg s (ra (pg .sys) 0x104) (v &&& 0x1F)) 4) ∧ (∃ (m : _) (v : _) (s : State),
  Granted (.grtResvQuery m v) m (ra (pg .grt) 0x124) s) ∧ (∃ (m : _) (side : _) (p : _) (v : _) (s : State), Granted (.portLoopWrite m
  side p v) m (ra (portPage side p) 0x120) s ∧ s.dev.mode = .diagnostic ∧ regFld s (ra (portPage side p) 0x120) 1 0 ≠ fld v 1 0) ∧ (∃
  (m : _) (p : _) (v : _) (s : State), Granted (.portPfcThrWrite m .plain p v) m (ra (pg .plain p) 0x114) s ∧ fld v 28 16 < fld v 12
  0) ∧ (∃ (m : _) (p : _) (v : _) (s : State), Granted (.portPfcThrWrite m .plain p v) m (ra (pg .plain p) 0x114) s ∧ fld v 12 0 ≤ fld
  v 28 16) :=
  ⟨⟨.host, 63, { inMode .configure with intr := { State.reset.intr with asserted := 2 ^ 63 } }, (by decide +kernel), (by decide +kernel),
  (by decide +kernel)⟩,
   ⟨.host, 63, (inMode .configure), (by decide +kernel), (by decide +kernel), (by decide +kernel)⟩,
   ⟨.host, 63, (inMode .configure), (by decide +kernel)⟩,
   ⟨.host, 0x1E, (inMode .configure), (by decide +kernel), (by decide +kernel), (by decide +kernel), (by decide +kernel),
  (by decide +kernel)⟩,
   ⟨.host, 5, (inMode .configure), (by decide +kernel)⟩,
   ⟨.host, .line, 15, 2, inMode .diagnostic, (by decide +kernel), (by decide +kernel), (by decide +kernel)⟩,
   ⟨.host, 15, 0x00010002, (inMode .configure), (by decide +kernel), (by decide +kernel)⟩,
   ⟨.host, 15, 0x00020002, (inMode .configure), (by decide +kernel), (by decide +kernel)⟩⟩

theorem witness_TableReadBackCommandsLoadTheirRegisters : (∃ (m : _) (k : _) (v : _) (s : State), Granted (.gazSeedWrite m k v) m (ra
  (pg .gaz) (0x100 + 4 * k)) s ∧ s.dev.mode = .configure) ∧ (∃ (m : _) (s : State) (n : _) (e : _), Granted (.gazRdGo m) m (ra (pg
  .gaz) 0x114) s ∧ workFind s (regFld s (ra (pg .gaz) 0x130) 7 4) (regFld s (ra (pg .gaz) 0x130) 3 0) (leNat (wordsToBytes
  ((List.range 4).map (fun i => getReg s (ra (pg .gaz) (0x120 + 4 * i)))))) = some (n, e)) ∧ (∃ (m : _) (s : State) (e : _), Granted
  (.conRdGo m) m (ra (pg .con) 0x108) s ∧ s.con.work[regFld s (ra (pg .con) 0x104) 15 0]? = some e) ∧ (∃ (m : _) (s : State) (e : _),
  Granted (.orbRdGo m) m (ra (pg .orb) 0x124) s ∧ e = workSa s (regFld s (ra (pg .orb) 0x120) 20 0)) ∧ (∃ (m : _) (s : State) (e : _),
  Granted (.seqRdGo m) m (ra (pg .seq) 0x104) s ∧ e = workSa s (regFld s (ra (pg .seq) 0x100) 20 0)) ∧ (∃ (m : _) (v : _) (s : State),
  Granted (.eclRdGo m v) m (ra (pg .ecl) 0x124) s) ∧ (∃ (m : _) (s : State), Granted (.eclRdNext m) m (ra (pg .ecl) 0x124) s ∧ regFld
  s (ra (pg .ecl) 0x124) 31 2 = 0) :=
  ⟨⟨.host, 1, 0xFFFFFFFF, (inMode .configure), (by decide +kernel), (by decide +kernel)⟩,
   ⟨.host, gazState, (candidates 0 0 0 3 5).headD 0, gazEntry, (by decide +kernel), (by decide +kernel)⟩,
   ⟨.host,
  { inMode .configure with con := { State.reset.con with work := [{ value := 1, mask := 1, prio := 0, action := 0, cls := 0, sa := 0 }] } },
  { value := 1, mask := 1, prio := 0, action := 0, cls := 0, sa := 0 }, (by decide +kernel), (by decide +kernel)⟩,
   ⟨.host, (inMode .configure), workSa (inMode .configure) 0, (by decide +kernel), rfl⟩,
   ⟨.host, (inMode .configure), workSa (inMode .configure) 0, (by decide +kernel), rfl⟩,
   ⟨.host, 3, (inMode .configure), (by decide +kernel)⟩,
   ⟨.host, (inMode .configure), (by decide +kernel), (by decide +kernel)⟩⟩

theorem witness_PopAndRingCommandsMoveTheirIndices : (∃ (m : _) (s : State), Granted (.swpMisPop m) m (ra (pg .swp) 0x128) s) ∧ (∃ (m
  : _) (s : State), Granted (.almNotePop m) m (ra (pg .alm) 0x388) s) ∧ (∃ (m : _) (s : State), Granted (.eclNotePop m) m (ra (pg
  .ecl) 0x388) s) ∧ (∃ (m : _) (s : State), Granted (.pmbTcaPop m) m (ra (pg .pmb) 0x168) s) ∧ (∃ (m : _) (u : _) (s : State), Granted
  (.bdyNoticePop m u) m (ra (pg .bdy u) 0x120) s) ∧ (∃ (m : _) (s : State), Granted (.swpSurveyStop m) m (ra (pg .swp) 0x110) s) ∧ (∃
  (m : _) (s : State), Granted (.schClrMax m) m (ra (pg .sch) 0x118) s) ∧ (∃ (m : _) (s : State), Granted (.ordCtrlEn m true) m (ra
  (pg .ord) 0x100) s ∧ ordEn s = false ∧ ordRingsOk s = true) ∧ (∃ (m : _) (s : State), Granted (.ordCtrlEn m false) m (ra (pg .ord)
  0x100) s ∧ ordEn s = true ∧ outstanding s ≠ 0) ∧ (∃ (m : _) (v : _) (s : State), Granted (.ordSqTail m v) m (ra (pg .ord) 0x10C) s)
  ∧ (∃ (m : _) (v : _) (s : State), Granted (.ordCqHead m v) m (ra (pg .ord) 0x11C) s) ∧ (∃ (m : _) (s : State), Granted (.eraCtrlEn m
  true) m (ra (pg .era) 0x100) s ∧ eraEn s = false ∧ eraRingOk s = true) ∧ (∃ (m : _) (v : _) (s : State), Granted (.eraCons m v) m
  (ra (pg .era) 0x10C) s) ∧ (∃ (m : _) (v : _) (s : State), Granted (.lrnRingCons m v) m (ra (pg .lrn) 0x10C) s) ∧ (∃ (m : _) (s :
  State), Granted (.smpCtrlEn m true) m (ra (pg .smp) 0x100) s ∧ bit (getReg s (ra (pg .smp) 0x100)) 31 = false) ∧ (∃ (m : _) (v : _)
  (s : State), Granted (.smpCons m v) m (ra (pg .smp) 0x10C) s) :=
  ⟨⟨.host, (inMode .configure), (by decide +kernel)⟩,
   ⟨.host, (inMode .configure), (by decide +kernel)⟩,
   ⟨.host, (inMode .configure), (by decide +kernel)⟩,
   ⟨.host, (inMode .configure), (by decide +kernel)⟩,
   ⟨.tircy 0, 7, (inMode .configure), (by decide +kernel)⟩,
   ⟨.host, (inMode .configure), (by decide +kernel)⟩,
   ⟨.host, (inMode .configure), (by decide +kernel)⟩,
   ⟨.host, ringsOff, (by decide +kernel), (by decide +kernel), (by decide +kernel)⟩,
   ⟨.host, { inMode .configure with ords := { State.reset.ords with outs := [{ id := 0, tag := 7, op := 0, int := true }] } },
  (by decide +kernel), (by decide +kernel), (by decide +kernel)⟩,
   ⟨.host, 8, (inMode .configure), (by decide +kernel)⟩,
   ⟨.host, 0, (inMode .configure), (by decide +kernel)⟩,
   ⟨.host, ringsOff, (by decide +kernel), (by decide +kernel), (by decide +kernel)⟩,
   ⟨.host, 0, (inMode .configure), (by decide +kernel)⟩,
   ⟨.host, 0x1FFF, (inMode .configure), (by decide +kernel)⟩,
   ⟨.host, (inMode .configure), (by decide +kernel), (by decide +kernel)⟩,
   ⟨.host, 0, (inMode .configure), (by decide +kernel)⟩⟩

theorem witness_ConnectionAndBundleCommandsTakeEffect : (∃ (m : _) (v : _) (s : State), Granted (.tsiWdata m v) m (ra (pg .tsi) 0x114)
  s ∧ tsiLocked s (regFld s (ra (pg .tsi) 0x110) 31 31) = false) ∧ (∃ (m : _) (v : _) (s : State), Granted (.tsiWdata m v) m (ra (pg
  .tsi) 0x114) s ∧ tsiLocked s (regFld s (ra (pg .tsi) 0x110) 31 31) = true) ∧ (∃ (m : _) (v : _) (s : State), Granted (.tsiCopy m v)
  m (ra (pg .tsi) 0x120) s ∧ bit v 0 = true ∧ tsiLocked s (fld v 31 31) = false) ∧ (∃ (d : _) (s : State), s.tsi.copy.getD (dirNum d)
  false = true) ∧ (∃ (m : _) (d : _) (s : State), Granted (.tsiCancel m d) m (ra (pg .tsi) 0x124) s) ∧ (∃ (m : _) (v : _) (s : State),
  Granted (.tsiRidxWrite m v) m (ra (pg .tsi) 0x118) s) ∧ (∃ (m : _) (s : State), Granted (.bunWrite m) m (ra (pg .bun) 0x124) s ∧
  bunBusy (bunOf s (regFld s (ra (pg .bun) 0x120) 9 0)) = false ∧ bunShape (bunStaged s) = true ∧ ((bcEn (bunStaged s) = true →
  bunFits s (regFld s (ra (pg .bun) 0x120) 9 0) (bunStaged s) = true))) ∧ (∃ (m : _) (s : State), Granted (.bunWrite m) m (ra (pg
  .bun) 0x124) s ∧ bunBusy (bunOf s (regFld s (ra (pg .bun) 0x120) 9 0)) = false ∧ bunShape (bunStaged s) = false) ∧ (∃ (m : _) (s :
  State), Granted (.bunRead m) m (ra (pg .bun) 0x124) s) :=
  ⟨⟨.host, 5, (inMode .configure), (by decide +kernel), (by decide +kernel)⟩,
   ⟨.host, 5, { inMode .configure with tsi := { State.reset.tsi with copy := [true, false] } }, (by decide +kernel), (by decide +kernel)⟩,
   ⟨.host, 0x80000001, (inMode .configure), (by decide +kernel), (by decide +kernel), (by decide +kernel)⟩,
   ⟨.dec, { inMode .configure with tsi := { State.reset.tsi with copy := [false, true] } }, (by decide +kernel)⟩,
   ⟨.host, .enc, (inMode .configure), (by decide +kernel)⟩,
   ⟨.host, 0xC0001FFF, (inMode .configure), (by decide +kernel)⟩,
   ⟨.host, (put (put (inMode .configure) (ra (pg .bun) (0x140 + 12)) 4000) (ra (pg .bun) (0x140 + 8)) 1), (by decide +kernel),
  (by decide +kernel), (by decide +kernel), (by decide +kernel)⟩,
   ⟨.host, (inMode .configure), (by decide +kernel), (by decide +kernel), (by decide +kernel)⟩,
   ⟨.host, (inMode .configure), (by decide +kernel)⟩⟩

theorem witness_CircuitRegisterCommandsTakeEffect : (∃ (m : _) (t : _) (s : State), Granted (.trbHunt m t) m (trbReg t 4) s) ∧ (∃ (m :
  _) (g : _) (v : _) (s : State), Granted (.apsCmdWrite m g v) m (ra (pg .aps) (0x404 + 8 * g)) s ∧ fld v 31 29 ≤ 5) ∧ (∃ (m : _) (h :
  _) (v : _) (s : State), Granted (.hwyLoopWrite m h v) m (ra (pg .hwy h) 0x108) s ∧ s.dev.mode = .diagnostic ∧ regFld s (ra (pg .hwy
  h) 0x108) 1 0 ≠ fld v 1 0) ∧ (∃ (m : _) (h : _) (v : _) (s : State), Granted (.hwyLoopWrite m h v) m (ra (pg .hwy h) 0x108) s ∧
  s.dev.mode ≠ .diagnostic) ∧ (∃ (m : _) (v : _) (s : State), Granted (.oldLoopWrite m v) m (ra (pg .old) 0x108) s ∧ s.dev.mode =
  .diagnostic ∧ regFld s (ra (pg .old) 0x108) 1 0 ≠ fld v 1 0) :=
  ⟨⟨.host, 255, (inMode .configure), (by decide +kernel)⟩,
   ⟨.host, 127, 0xA0000001, (inMode .configure), (by decide +kernel), (by decide +kernel)⟩,
   ⟨.host, 7, 2, inMode .diagnostic, (by decide +kernel), (by decide +kernel), (by decide +kernel)⟩,
   ⟨.host, 0, 2, (inMode .configure), (by decide +kernel), (by decide +kernel)⟩,
   ⟨.host, 1, inMode .diagnostic, (by decide +kernel), (by decide +kernel), (by decide +kernel)⟩⟩

theorem witness_TimeMemoryAndBoundaryCommandsTakeEffect : (∃ (m : _) (v : _) (s : State), Granted (.merRateWrite m v) m (ra (pg .mer)
  0x108) s ∧ ((m = .host → cfgFld s (ra (pg .mer) 0x100) 1 0 = 2)) ∧ v.toInt.natAbs ≤ 3518437) ∧ (∃ (m : _) (v : _) (s : State),
  Granted (.merRateWrite m v) m (ra (pg .mer) 0x108) s ∧ ((m = .host → cfgFld s (ra (pg .mer) 0x100) 1 0 = 2)) ∧ 3518437 <
  v.toInt.natAbs) ∧ (∃ (m : _) (k : _) (v : _) (s : State), Granted (.trgArm m k v) m (trgReg k 0) s ∧ bit v 31 = false ∧ (bit v 29 &&
  !bit (getReg s (trgReg k 0)) 29) = false) ∧ (∃ (m : _) (k : _) (v : _) (s : State), Granted (.trgArm m k v) m (trgReg k 0) s ∧ bit v
  31 = false ∧ (bit v 29 && !bit (getReg s (trgReg k 0)) 29) = true) ∧ (∃ (m : _) (s : State), Granted (.pmbRdGo m) m (ra (pg .pmb)
  0x118) s) ∧ (∃ (m : _) (k : _) (v : _) (s : State), Granted (.sealB2mapWrite m k v) m (ra (pg .seal) (0x120 + 4 * k)) s ∧ s.dev.mode
  = .configure ∧ (∀ i < 8, 4 ≤ fld v (4 * i + 3) (4 * i))) ∧ (∃ (m : _) (u : _) (s : State), Granted (.bdyCommit m u) m (ra (pg .bdy
  u) 0x104) s ∧ (legend s (pg .bdy u)).lock = false ∧ (bdyOf s u).pending = false ∧ stagedBad s u = none) ∧ (∃ (u : _) (s : State), u
  < 8 ∧ (bdyOf s u).pending = true) :=
  ⟨⟨.tircy 0, 3518437, (inMode .configure), (by decide +kernel), (by decide +kernel), (by decide +kernel)⟩,
   ⟨.tircy 0, 3518438, (inMode .configure), (by decide +kernel), (by decide +kernel), (by decide +kernel)⟩,
   ⟨.host, 3, 0, (inMode .configure), (by decide +kernel), (by decide +kernel), (by decide +kernel)⟩,
   ⟨.host, 3, 0x20000000, (inMode .configure), (by decide +kernel), (by decide +kernel), (by decide +kernel)⟩,
   ⟨.host, (inMode .configure), (by decide +kernel)⟩,
   ⟨.tircy 0, 1, 0x44444444, (inMode .configure), (by decide +kernel), (by decide +kernel), (by decide +kernel)⟩,
   ⟨.tircy 0, 7, (inMode .configure), (by decide +kernel), (by decide +kernel), (by decide +kernel), (by decide +kernel)⟩,
   ⟨7, { inMode .configure with bdy := List.replicate 8 { pending := true, notices := [] } }, (by decide +kernel), (by decide +kernel)⟩⟩

theorem witness_EngineCommandsFollowTheirOwner : (∃ (m : _) (s : State), Granted (.ucuAcq ⟨m, none⟩) m (ra (pg .ucu) 0x100) s ∧ s.ucu.held =
  false) ∧ (∃ (m : _) (s : State), Granted (.ucuAcq ⟨m, none⟩) m (ra (pg .ucu) 0x100) s ∧ s.ucu.held = true ∧ ucuOwner s m = false) ∧ (∃ (m : _) (r : _) (s : State),
  Granted (.ucuAcq ⟨m, some r⟩) m (ra (pg .ucu) 0x100) s ∧ Granted (.ucuAcq ⟨r, some m⟩) r (ra (pg .ucu) 0x100) s ∧
  s.ucu.held = false ∧ mCls m < mCls r) ∧ (∃ (m :
  _) (s : State), Granted (.ucuRel m) m (ra (pg .ucu) 0x100) s ∧ ucuOwner s m = true ∧ s.ucu.busy = false) ∧ (∃ (c : _) (s : State),
  Granted (.ucuForce (.tircy c)) (.tircy c) (ra (pg .ucu) 0x100) s) ∧ (∃ (m : _) (s : State), Granted (.ucuGo m) m (ra (pg .ucu)
  0x124) s ∧ ucuOwner s m = true ∧ s.ucu.busy = false ∧ ucuLenOk s = true) ∧ (∃ (m : _) (v : _) (s : State), Granted (.ucuKeysrcWrite
  m v) m (ra (pg .ucu) 0x108) s ∧ ucuOwner s m = false) ∧ (∃ (c : _) (v : _) (s : State), Granted (.ucuKeysrcWrite (.tircy c) v)
  (.tircy c) (ra (pg .ucu) 0x108) s ∧ ucuOwner s (.tircy c) = true ∧ 1 ≤ fld v 31 24 ∧ fld v 31 24 ≤ 13 ∧ fld v 6 0 ≤ 64) ∧ (∃ (s :
  State), s.ucu.held = true ∧ s.ucu.busy = false ∧ regFld s (ra (pg .ucu) 0x104) 15 0 ≤ tdiff (now s) s.ucu.lastUse) ∧ (∃ (m : _)
  (area : _) (s : State), Granted (.pkeAbort m area) m (ra (pg .pke) 0x104) s ∧ ((m = .host → area < 8))) ∧ (∃ (m : _) (s : State),
  Granted (.rngReq m) m (ra (pg .rng) 0x104) s ∧ s.rng.st = 1) ∧ (∃ (m : _) (s : State), Granted (.rngReq m) m (ra (pg .rng) 0x104) s
  ∧ s.rng.st = 2) ∧ (∃ (m : _) (s : State), Granted (.rngReseed m) m (ra (pg .rng) 0x10C) s ∧ s.rng.st = 1) :=
  ⟨⟨.host, (inMode .configure), (by decide +kernel), (by decide +kernel)⟩,
   ⟨.host, { inMode .configure with ucu := { State.reset.ucu with held := true, ownCls := 1, ownCore := 0 } }, (by decide +kernel),
  (by decide +kernel), (by decide +kernel)⟩,
   ⟨.host, .tircy 0, (inMode .configure), (by decide +kernel), (by decide +kernel), (by decide +kernel), (by decide +kernel)⟩,
   ⟨.tircy 0, { inMode .configure with ucu := { State.reset.ucu with held := true, ownCls := 1, ownCore := 0 } }, (by decide +kernel),
  (by decide +kernel), (by decide +kernel)⟩,
   ⟨0, (inMode .configure), (by decide +kernel)⟩,
   ⟨.tircy 0,
  { put (put (inMode .configure) (ra (pg .ucu) 0x108) 0x07000000) (ra (pg .ucu) 0x11C) 0 with ucu := { State.reset.ucu with held := true, ownCls := 1, ownCore := 0 } },
  (by decide +kernel), (by decide +kernel), (by decide +kernel), (by decide +kernel)⟩,
   ⟨.host, 0, (inMode .configure), (by decide +kernel), (by decide +kernel)⟩,
   ⟨0, 0x0D000040, { inMode .configure with ucu := { State.reset.ucu with held := true, ownCls := 1, ownCore := 0 } },
  (by decide +kernel), (by decide +kernel), (by decide +kernel), (by decide +kernel), (by decide +kernel)⟩,
   ⟨{ inMode .configure 10000 with ucu := { State.reset.ucu with held := true, ownCls := 1, ownCore := 0 } }, (by decide +kernel),
  (by decide +kernel), (by decide +kernel)⟩,
   ⟨.host, 7, (inMode .configure), (by decide +kernel), (by decide +kernel)⟩,
   ⟨.host, { inMode .configure with rng := { State.reset.rng with st := 1 } }, (by decide +kernel), (by decide +kernel)⟩,
   ⟨.host, { inMode .configure with rng := { State.reset.rng with st := 2 } }, (by decide +kernel), (by decide +kernel)⟩,
   ⟨.tircy 0, { inMode .configure with rng := { State.reset.rng with st := 1 } }, (by decide +kernel), (by decide +kernel)⟩⟩

theorem witness_RegisterWriteReplacesTheWritableBits : (∃ (m : _) (v : _) (s : State), Granted (.registerWrite m 0x1120 15 ⟨v, []⟩) m
  0x1120 s) ∧ (∃ (m : _) (off : _) (be : _) (v : _) (s : State), Granted (.registerWrite m off be ⟨v, []⟩) m (off / 4 * 4) s ∧ pageAt
  (off / 0x1000) = none) ∧ (∃ (m : _) (off : _) (be : _) (v : _) (s : State), Granted (.registerWrite m off be ⟨v, []⟩) m (off / 4 * 4) s
  ∧ (pageAt (off / 0x1000)).isSome = true ∧ be < 15) ∧ (∃ (m : _) (off : _) (v : _) (s : State) (r : _), Granted (.registerWrite m off
  15 ⟨v, []⟩) m (off / 4 * 4) s ∧ (pageAt (off / 0x1000)).isSome = true ∧ regRow (off / 4 * 4) = some r ∧ r.acc = .ro) ∧ (∃ (m : _) (off
  : _) (v : _) (w : _), (Instr.registerWrite m off 15 ⟨v, [w]⟩).wf = true) :=
  ⟨⟨.host, 0xFFFFFFFF, (inMode .configure), (by decide +kernel)⟩,
   ⟨.host, 0xFFFFFC, 15, 0, (inMode .configure), (by decide +kernel), (by decide +kernel)⟩,
   ⟨.host, 0x1120, 14, 0, (inMode .configure), (by decide +kernel), (by decide +kernel), (by decide +kernel)⟩,
   ⟨.host, 0, 0, (inMode .configure), (regRow 0).getD ⟨0, 0, 0, .rw, 0, 0, []⟩, (by decide +kernel), (by decide +kernel),
  (by decide +kernel), (by decide +kernel)⟩,
   ⟨.host, 0x1120, 0, 0, (by decide +kernel)⟩⟩

theorem witness_NopLogReadAndModeSetTakeEffect : (∃ (h : _) (s : State), Accepted (.nop h) h .nop s) ∧ (∃ (h : _) (f : _) (c : _) (off
  : _) (s : State) (t : _), Accepted (.logRead h f c off) h (.logRead f c off) s ∧ writeBar2 (.tircy 0) off ((logSelect (taken h
  (.logRead f c off) s) f c).2.flatMap logBytes) (taken h (.logRead f c off) s) = (true, t)) ∧ (∃ (h : _) (n : _) (m : _) (s : State),
  Accepted (.modeSet h n) h (.modeSet n) s ∧ Mode.ofCode n = some m ∧
  { target := m, cause := 0x0B, rank := 6, ord := some (takenId s) } ∉ s.dev.trig) :=
  ⟨⟨h0, (inMode .configure), (by decide +kernel)⟩,
   ⟨h0, 0, 1, 64, (inMode .configure), (writeBar2 (.tircy 0) 64 ((logSelect (taken h0 (.logRead 0 1 64) (inMode .configure)) 0
  1).2.flatMap logBytes) (taken h0 (.logRead 0 1 64) (inMode .configure))).2, (by decide +kernel), (by decide +kernel)⟩,
   ⟨h0, 10, .diagnostic, (inMode .configure), (by decide +kernel), (by decide +kernel), (by decide +kernel)⟩⟩

theorem witness_WarmResetAndZeroizeTakeEffect : (∃ (h : _) (s : State) (t : _), Accepted (.warmReset h) h .warmReset s ∧ s.dev.supply
  = true ∧ s.dev.porst = true ∧ s.dev.sysrst = true ∧ s.dev.holdThermal = false ∧ s.dev.holdSupply = false ∧ t = enterBoot (resetState
  true .reset 0x03 (resetEntry 0x03 (taken h .warmReset s)))) ∧ (∃ (h : _) (s : State) (t : _), Accepted (.zeroize h 0x5A45524F) h
  (.zeroize 0x5A45524F) s ∧ t = zeroize (some (takenId s)) (if s.dev.mode = .zeroized then taken h (.zeroize 0x5A45524F) s else modeTo
  .zeroized 0x13 (taken h (.zeroize 0x5A45524F) s))) :=
  ⟨⟨h0, inMode .solo, _, (by decide +kernel), (by decide +kernel), (by decide +kernel), (by decide +kernel), (by decide +kernel),
  (by decide +kernel), rfl⟩,
   ⟨h0, inMode .solo, _, (by decide +kernel), rfl⟩⟩

theorem witness_FirmwareAndProvisioningOrdersTakeEffect : (∃ (h : _) (c : _) (r : _) (s : State) (b : _) (t : _), Accepted (.attest h
  c r) h (.attest c r) s ∧ readBar2 (.tircy 0) c 32 (taken h (.attest c r) s) = (some b, t) ∧ t.pke.jobs.length < 65) ∧ (∃ (h : _) (i
  : _) (l : _) (n : _) (s : State) (b : _) (t : _), Accepted (.fwStage h i l n) h (.fwStage i l n) s ∧ s.dev.mode ≠ .boot ∧ n ≠
  s.fwu.running ∧ l ≤ imgMax ∧ fwBusy s = false ∧ readBar2 (.tircy 0) i (l + 512) (taken h (.fwStage i l n) s) = (some b, t)) ∧ (∃ (h
  : _) (n : _) (s : State) (t : _), Accepted (.fwActivate h n) h (.fwActivate n) s ∧ n ≠ s.fwu.running ∧ (imgSlot s n).ok = true ∧
  fwBusy s = false ∧ sealWrite .loader 0 (imgSlot s n).body (taken h (.fwActivate n) s) = (true, t)) ∧ (∃ (h : _) (n : _) (s : State)
  (t : _), Accepted (.fwActivate h n) h (.fwActivate n) s ∧ n ≠ s.fwu.running ∧ (imgSlot s n).ok = true ∧ fwBusy s = false ∧ sealWrite
  .loader 0 (imgSlot s n).body (taken h (.fwActivate n) s) = (false, t)) ∧ (∃ (h : _) (off : _) (s : State) (b : _) (t : _), Accepted
  (.ownerEnrol h off) h (.ownerEnrol off) s ∧ readBar2 (.tircy 0) off 192 (taken h (.ownerEnrol off) s) = (some b, t) ∧ t.keys.owner =
  none ∧ onCurve p384 (beAt (slice b 0 96) 0 48) (beAt (slice b 0 96) 48 48) = true) ∧ (∃ (h : _) (s : State), Accepted (.kekGenerate
  h) h .kekGenerate s ∧ s.sealPath.commitOrd = none ∧ s.rng.st ≠ 2) ∧ (∃ (h : _) (s : State), Accepted (.provisionCommit h) h
  .provisionCommit s ∧ s.sealPath.commitOrd = none ∧ s.keys.owner.isSome = true ∧ kekState s = 1) :=
  ⟨⟨h0, 0, 64, (inMode .solo), (got (.attest 0 64) 0 32 (inMode .solo)).1.getD [], (got (.attest 0 64) 0 32 (inMode .solo)).2,
  (by decide +kernel), (by decide +kernel), (by decide +kernel)⟩,
   ⟨h0, 0, 16, 1, (inMode .solo), (got (.fwStage 0 16 1) 0 528 (inMode .solo)).1.getD [], (got (.fwStage 0 16 1) 0 528 (inMode .solo)).2,
  (by decide +kernel), (by decide +kernel), (by decide +kernel), (by decide +kernel), (by decide +kernel), (by decide +kernel)⟩,
   ⟨h0, 1, { inMode .solo with fwu := { State.reset.fwu with slots := [⟨true, 0, 0, zeros 64⟩, ⟨true, 0, 0, zeros 64⟩] } }, (sealWrite
  .loader 0 (zeros 64) (taken h0 (.fwActivate 1)
  { inMode .solo with fwu := { State.reset.fwu with slots := [⟨true, 0, 0, zeros 64⟩, ⟨true, 0, 0, zeros 64⟩] } })).2,
  (by decide +kernel), (by decide +kernel), (by decide +kernel), (by decide +kernel), (pair_true (by decide +kernel))⟩,
   ⟨h0, 1,
  { inMode .solo with fwu := { State.reset.fwu with slots := [⟨true, 0, 0, zeros 32⟩, ⟨true, 0, 0, zeros 32⟩] }, sealPath := { (inMode .solo).sealPath with poison := [lineAddr (inMode .solo) 0] } },
  (sealWrite .loader 0 (zeros 32) (taken h0 (.fwActivate 1)
  ({ inMode .solo with fwu := { State.reset.fwu with slots := [⟨true, 0, 0, zeros 32⟩, ⟨true, 0, 0, zeros 32⟩] }, sealPath := { (inMode .solo).sealPath with poison := [lineAddr (inMode .solo) 0] } }))).2,
  (by decide +kernel), (by decide +kernel), (by decide +kernel), (by decide +kernel), (pair_false (by decide +kernel))⟩,
   ⟨h0, 0, (bar2Put 0 (beBytes 48 p384.gx ++ beBytes 48 p384.gy) (inMode .provision)), (got (.ownerEnrol 0) 0 192 (bar2Put 0 (beBytes 48
  p384.gx ++ beBytes 48 p384.gy) (inMode .provision))).1.getD [], (got (.ownerEnrol 0) 0 192 (bar2Put 0 (beBytes 48 p384.gx ++ beBytes
  48 p384.gy) (inMode .provision))).2, (by decide +kernel), (by decide +kernel), (by decide +kernel), (by decide +kernel)⟩,
   ⟨h0, { inMode .provision with rng := { State.reset.rng with st := 1 } }, (by decide +kernel), (by decide +kernel),
  (by decide +kernel)⟩,
   ⟨h0, provisioned, (by decide +kernel), (by decide +kernel), (by decide +kernel), (by decide +kernel)⟩⟩

theorem witness_PortMemoryAndTimeOrdersStartTheirWork : (∃ (h : _) (side : _) (g : _) (ps : _) (s : State), Accepted (.portMap h side
  g ps) h (.portMap side g ps) s ∧ partsOk s side g (stagedMode s side g) ps = true) ∧ (∃ (h : _) (r : _) (side : _) (p : _) (s :
  State), Accepted (.portEq h r side p) h (.portEq r side p) s ∧ portOn s side p = true ∧ (portOf s side p).eq = none) ∧ (∃ (h : _) (c
  : _) (s : State), Accepted (.memRetrain h c) h (.memRetrain c) s ∧ s.sealPath.retrain = none ∧ sweeping s = false ∧ (chanState s
  c).st ≠ 5) ∧ (∃ (h : _) (k : _) (s : State), Accepted (.sealRekey h k) h (.sealRekey k) s ∧ s.sealPath.retrain = none ∧ sweeping s =
  false ∧ s.sealPath.gen.getD k 0 ≠ 0xFFFF) ∧ (∃ (h : _) (sec : _) (ns : _) (fr : _) (s : State), Accepted (.merStep h false false sec
  ns fr) h (.merStep false false sec ns fr) s ∧ s.time.mer + ((sec * 1000000000 + ns) * nsUnit + fr * nsUnit / 2 ^ 16) < merTop) ∧ (∃
  (h : _) (sec : _) (ns : _) (fr : _) (s : State), Accepted (.merStep h true false sec ns fr) h (.merStep true false sec ns fr) s ∧
  (sec * 1000000000 + ns) * nsUnit + fr * nsUnit / 2 ^ 16 ≤ s.time.mer) ∧ (∃ (h : _) (sec : _) (s : State), Accepted (.merStep h false
  true sec 0 0) h (.merStep false true sec 0 0) s) :=
  ⟨⟨h0, .line, 1, List.replicate 8 64, (inMode .configure), (by decide +kernel), (by decide +kernel)⟩,
   ⟨h0, true, .plain, 15, { inMode .solo with plainPorts := List.replicate 16 { Port.init with mode := 4 } }, (by decide +kernel),
  (by decide +kernel), (by decide +kernel)⟩,
   ⟨h0, 7, (inMode .solo), (by decide +kernel), (by decide +kernel), (by decide +kernel), (by decide +kernel)⟩,
   ⟨h0, 15, (inMode .solo), (by decide +kernel), (by decide +kernel), (by decide +kernel), (by decide +kernel)⟩,
   ⟨h0, 1, 999999999, 1, inMode .configure 8000, (by decide +kernel), (by decide +kernel)⟩,
   ⟨h0, 0, 1, 65535, inMode .configure 8000, (by decide +kernel), (by decide +kernel)⟩,
   ⟨h0, 5, (inMode .configure), (by decide +kernel)⟩⟩

theorem witness_KeyAndJobOrdersTakeEffect_1 : (∃ (h : _) (n : _) (off : _) (s : State) (b : _) (t : _), Accepted (.keyImport h n off)
  h (.keyImport n off) s ∧ readBar2 (.tircy 0) off 256 (taken h (.keyImport n off) s) = (some b, t) ∧ (byteAt b 0).toNat = 2) :=
  ⟨h0, 15, 0, importState, (got (.keyImport 15 0) 0 256 importState).1.getD [], (got (.keyImport 15 0) 0 256 importState).2,
    (by decide +kernel), (by decide +kernel), (by decide +kernel)⟩

theorem witness_KeyAndJobOrdersTakeEffect_2 : (∃ (h : _) (n : _) (off : _) (s : State) (b : _) (t : _), Accepted (.cakLoad h n off) h
  (.cakLoad n off) s ∧ readBar2 (.tircy 0) off 0x4C (taken h (.cakLoad n off) s) = (some b, t) ∧ (byteAt b 0).toNat = 32 ∧ (byteAt b
  1).toNat = 16 ∧ t.keys.caks.all (fun c => c.1 != slice b 4 16) = true ∧ t.keys.caks.length < 256) :=
  ⟨h0, 15, 0, cakState, (got (.cakLoad 15 0) 0 0x4C cakState).1.getD [], (got (.cakLoad 15 0) 0 0x4C cakState).2, (by decide +kernel),
    (by decide +kernel), (by decide +kernel), (by decide +kernel), (by decide +kernel), (by decide +kernel)⟩

theorem witness_KeyAndJobOrdersTakeEffect_3 : (∃ (h : _) (i : _) (off : _) (n : _) (s : State) (k : _) (t : _), Accepted (.saExport h
  i off n) h (.saExport i off n) s ∧ (workSa s i).st = 1 ∧ behaviour s 2 = false ∧ s.keys.slots.getD n none = some k ∧ writeBar2
  (.tircy 0) off (wordsToBytes (exportImage (taken h (.saExport i off n) s) i (kwWrap k (recKey (workSa s i).record)))) (taken h
  (.saExport i off n) s) = (true, t)) :=
  ⟨h0, 3, 0, 15, exportState, zeros 32, (writeBar2 (.tircy 0) 0 (wordsToBytes (exportImage (taken h0 (.saExport 3 0 15) exportState) 3
    (kwWrap (zeros 32) (recKey (workSa exportState 3).record)))) (taken h0 (.saExport 3 0 15) exportState)).2, (by decide +kernel),
    (by decide +kernel), (by decide +kernel), (by decide +kernel), (pair_true (by decide +kernel))⟩

theorem witness_KeyAndJobOrdersTakeEffect_4 : (∃ (h : _) (i : _) (k : _) (off : _) (s : State) (b : _) (t : _), Accepted (.diagSaLoad
  h i k off) h (.diagSaLoad i k off) s ∧ readBar2 (.tircy 0) off 256 (taken h (.diagSaLoad i k off) s) = (some b, t) ∧ (workSa t i).st
  = 0 ∧ imageBad t (bytesToWords 64 b) = false ∧ installBusy t (bytesToWords 64 b) = false) :=
  ⟨h0, 9, 0, 0, (inMode .diagnostic), (got (.diagSaLoad 9 0 0) 0 256 (inMode .diagnostic)).1.getD [], (got (.diagSaLoad 9 0 0) 0 256
    (inMode .diagnostic)).2, (by decide +kernel), (by decide +kernel), (by decide +kernel), (by decide +kernel), (by decide +kernel)⟩

theorem witness_KeyAndJobOrdersTakeEffect_5 : (∃ (h : _) (off : _) (s : State) (b : _) (b2 : _) (t : _) (t2 : _), Accepted (.pkeJob h
  off) h (.pkeJob off) s ∧ readBar2 (.tircy 0) off 0x40 (taken h (.pkeJob off) s) = (some b, t) ∧ jobOk off (jobOf (some (takenId s))
  b) = true ∧ readBar2 (.tircy 0) off (jobBytes (jobOf (some (takenId s)) b)) t = (some b2, t2) ∧ t2.pke.jobs.length < 65) :=
  ⟨h0, 0, pkeState, pkeHead.1.getD [], pkeBody.1.getD [], pkeHead.2, pkeBody.2, (by decide +kernel), (by decide +kernel),
    (by decide +kernel), (by decide +kernel), (by decide +kernel)⟩

/-- SA_ERASE in SOLO, whose item joins the queue, and in TWIN_HOLD, whose item joins the tick's list. -/
theorem witness_ChoreOrdersQueueTheirItem :
    (∃ (i : Instr) (h : OrdHdr) (o : Order) (b : Option ChoreBody) (c : ChoreBody) (s : State), Accepted i h o s ∧
      orderOfCmd i = some (h, o) ∧ twinMode s = false ∧ o = .saErase 7 ∧ b = some (.erase 7) ∧ b = some c) ∧
    (∃ (i : Instr) (h : OrdHdr) (o : Order) (b : Option ChoreBody) (c : ChoreBody) (s : State), Accepted i h o s ∧
      orderOfCmd i = some (h, o) ∧ twinMode s = true ∧ o = .saErase 7 ∧ b = some (.erase 7) ∧ b = some c) :=
  ⟨⟨.saErase h0 7, h0, .saErase 7, some (.erase 7), .erase 7, inMode .solo, by decide +kernel, by decide +kernel, by decide +kernel,
    rfl, rfl, rfl⟩,
   ⟨.saErase h0 7, h0, .saErase 7, some (.erase 7), .erase 7, inMode .twinHold, by decide +kernel, by decide +kernel,
    by decide +kernel, rfl, rfl, rfl⟩⟩

theorem witness_ScheduledOrdersAreHeld : (∃ (h : _) (b : _) (c : _) (r : _) (s : State), Accepted (.surveyStart h b c r) h
  (.surveyStart b c r) s ∧ s.swp.survey = none) ∧ (∃ (h : _) (k : _) (i : _) (n : _) (t : _) (f : _) (s : State), Accepted
  (.eclSchedule h k i n t f) h (.eclSchedule k i n t f) s ∧ twinMode s = false ∧ eclJudge s k i n t f = .ok) ∧ (∃ (h : _) (k : _) (i :
  _) (t : _) (s : State) (e : _), Accepted (.eclCancel h k i t) h (.eclCancel k i t) s ∧ twinMode s = false ∧ eclSelect s k i t = some
  e) ∧ (∃ (h : _) (d : _) (t : _) (s : State), Accepted (.tsiSwap h d t) h (.tsiSwap d t) s ∧ twinMode s = false ∧ tsiBad s (dirNum d)
  = false ∧ 2 ≤ tdiff t (now s) ∧ tdiff t (now s) ≤ 2 ^ 31 - 1 ∧ (s.tsi.swap.getD (dirNum d) []).any (fun x => x.1 == t) = false) ∧ (∃
  (h : _) (m : _) (t : _) (s : State), Accepted (.almAdvance h m t) h (.almAdvance m t) s ∧ twinMode s = false ∧ (List.range
  16).filter (fun c => m.testBit c) ≠ [] ∧ ((List.range 16).filter (fun c => m.testBit c)).all (fun c => !(almOf s c).spent) = true) ∧
  (∃ (h : _) (m : _) (t : _) (s : State), Accepted (.almAdvance h m t) h (.almAdvance m t) s ∧ twinMode s = true ∧ (List.range
  16).filter (fun c => m.testBit c) ≠ [] ∧ ((List.range 16).filter (fun c => m.testBit c)).all (fun c => !(almOf s c).spent) = true) ∧
  (∃ (h : _) (c : _) (s : State), Accepted (.almRenew h c) h (.almRenew c) s ∧ twinMode s = true ∧ (almOf s c).spent = true ∧ renewing
  (almOf s c) = false ∧ renewListed s c = false ∧ almBound s c = 0 ∧ (almOf s c).noSpare = false ∧ (almOf s c).gen ≠ 0xFFFF) ∧ (∃ (h :
  _) (c : _) (s : State), Accepted (.almRenew h c) h (.almRenew c) s ∧ twinMode s = false ∧ (almOf s c).spent = true ∧ renewing (almOf
  s c) = false ∧ renewListed s c = false ∧ almBound s c = 0 ∧ (almOf s c).noSpare = false ∧ (almOf s c).gen ≠ 0xFFFF) :=
  ⟨⟨h0, 0, 2097152, false, (inMode .solo), (by decide +kernel), (by decide +kernel)⟩,
   ⟨h0, 0, 3, 4, 2, 0, withSas (inMode .solo), (by decide +kernel), (by decide +kernel), (by decide +kernel)⟩,
   ⟨h0, 1, 5, 9,
  { withSas (inMode .solo) with ecl := { State.reset.ecl with entries := [{ kind := 1, sa := 5, new := 0, target := 9, floor := 1, ord := none, active := false, agent := false, doomed := false, gone := false }] } },
  { kind := 1, sa := 5, new := 0, target := 9, floor := 1, ord := none, active := false, agent := false, doomed := false, gone := false },
  (by decide +kernel), (by decide +kernel), (by decide +kernel)⟩,
   ⟨h0, .dec, 2147483647, (inMode .solo), (by decide +kernel), (by decide +kernel), (by decide +kernel), (by decide +kernel),
  (by decide +kernel), (by decide +kernel)⟩,
   ⟨h0, 0x8001, 7, (inMode .solo), (by decide +kernel), (by decide +kernel), (by decide +kernel), (by decide +kernel)⟩,
   ⟨h0, 0x8001, 7, inMode .twinHold, (by decide +kernel), (by decide +kernel), (by decide +kernel), (by decide +kernel)⟩,
   ⟨h0, 15, { inMode .twinHold with alm := { State.reset.alm with ctrs := List.replicate 16 { AlmCtr.init with spent := true } } },
  (by decide +kernel), (by decide +kernel), (by decide +kernel), (by decide +kernel), (by decide +kernel), (by decide +kernel),
  (by decide +kernel), (by decide +kernel)⟩,
   ⟨h0, 15, { inMode .solo with alm := { State.reset.alm with ctrs := List.replicate 16 { AlmCtr.init with spent := true } } },
  (by decide +kernel), (by decide +kernel), (by decide +kernel), (by decide +kernel), (by decide +kernel), (by decide +kernel),
  (by decide +kernel), (by decide +kernel)⟩⟩

theorem witness_TwinAndDiagnosticOrdersTakeEffect : (∃ (h : _) (r : _) (s : State), Accepted (.twinArbitrate h r) h (.twinArbitrate r)
  s) ∧ (∃ (h : _) (s : State), Accepted (.twinSwitchback h) h .twinSwitchback s ∧ s.twin.present = true ∧ s.twin.peerPhase = 3 ∧
  s.twin.alignReq = false ∧ s.twin.alignFixed = false) ∧ (∃ (h : _) (m : _) (n : _) (side : _) (s : State), Accepted (.diagLoopback h
  m n 0 side) h (.diagLoopback m n 0 side) s ∧ n < 16) ∧ (∃ (h : _) (m : _) (n : _) (side : _) (s : State), Accepted (.diagLoopback h
  m n 1 side) h (.diagLoopback m n 1 side) s ∧ n < 8) ∧ (∃ (h : _) (m : _) (n : _) (side : _) (s : State), Accepted (.diagLoopback h m
  n 2 side) h (.diagLoopback m n 2 side) s) ∧ (∃ (h : _) (m : _) (n : _) (side : _) (s : State), Accepted (.diagLoopback h m n 3 side)
  h (.diagLoopback m n 3 side) s) :=
  ⟨⟨h0, 2, (inMode .twinEmit), (by decide +kernel)⟩,
   ⟨h0, { inMode .twinHold with twin := { State.reset.twin with peerPhase := 3, present := true } }, (by decide +kernel),
  (by decide +kernel), (by decide +kernel), (by decide +kernel), (by decide +kernel)⟩,
   ⟨h0, 1, 15, .line, (inMode .diagnostic), (by decide +kernel), (by decide +kernel)⟩,
   ⟨h0, 2, 7, .plain, (inMode .diagnostic), (by decide +kernel), (by decide +kernel)⟩,
   ⟨h0, 1, 0, .plain, (inMode .diagnostic), (by decide +kernel)⟩,
   ⟨h0, 1, 0, .plain, (inMode .diagnostic), (by decide +kernel)⟩⟩

theorem witness_RingsMoveOrdersAndCompletions : (∃ (s : State) (b : _) (t : _), takeRoom s = true ∧ s.ords.sqHead ≠ s.ords.sqTail ∧
  behaviour s 3 = false ∧ readBar2 (.tircy 0) (sqSlot s s.ords.sqHead) 64 s = (some b, t) ∧ mayTake s (bit ((bytesToWords 16 (b ++
  zeros (64 - b.length))).getD 0 0) 17) (orderOf (bytesToWords 16 (b ++ zeros (64 - b.length)))) = true) ∧ (∃ (s : State) (e : _)
  (rest : _) (t : _), ordEn s = true ∧ ringsHeld s = false ∧ s.ords.ended = e :: rest ∧ writeBar2 (.tircy 0) ((getReg s (ra (pg .ord)
  0x114)).toNat + s.ords.cqTail.toNat % cqSlots s * 16) (wordsToBytes (complWords e s.ords.cqTail.toNat (cqSlots s))) s = (true, t))
  :=
  ⟨⟨{ inMode .solo with ords := { State.reset.ords with sqTail := 1 } }, (readBar2 (.tircy 0) 0 64
  ({ inMode .solo with ords := { State.reset.ords with sqTail := 1 } })).1.getD [], (readBar2 (.tircy 0) 0 64
  ({ inMode .solo with ords := { State.reset.ords with sqTail := 1 } })).2, (by decide +kernel), (by decide +kernel),
  (by decide +kernel), (by decide +kernel), (by decide +kernel)⟩,
   ⟨{ inMode .solo with ords := { State.reset.ords with ended := [{ id := 0, tag := 7, op := 0, int := true, status := .ok, detail := 0, tick := 0 }] } },
  { id := 0, tag := 7, op := 0, int := true, status := .ok, detail := 0, tick := 0 }, [], (writeBar2 (.tircy 0) 0x1000 (wordsToBytes
  (complWords { id := 0, tag := 7, op := 0, int := true, status := .ok, detail := 0, tick := 0 } 0 16))
  ({ inMode .solo with ords := { State.reset.ords with ended := [{ id := 0, tag := 7, op := 0, int := true, status := .ok, detail := 0, tick := 0 }] } })).2,
  (by decide +kernel), (by decide +kernel), (by decide +kernel), (by decide +kernel)⟩⟩

theorem witness_ResetIsTakenAndReleased : (∃ (st : _) (s : State) (t : _), st < 16 ∧ Awake s ∧ s.dev.porst = true ∧ t =
  (let u := resetState false .reset 0x01 (resetEntry 0x01 s); { u with chans := State.reset.chans, dev := { u.dev with porst := false, holdSupply := false } }))
  ∧ (∃ (s : State) (t : _), Awake s ∧ s.dev.sysrst = true ∧ t =
  (let u := resetState true .reset 0x02 (resetEntry 0x02 s); { u with dev := { u.dev with sysrst := false } })) ∧ (∃ (s : State),
  s.dev.mode = .reset ∧ s.dev.sysrst = true) ∧ (∃ (n : _) (s : State) (t : _), Awake s ∧ n < 8 ∧ t =
  (let u := resetState true .reset 0x15 (resetEntry 0x15 s); { u with dev := { u.dev with holdThermal := true } })) ∧ (∃ (s : State)
  (t : _), Awake s ∧ s.dev.supply = true ∧ s.dev.porst = true ∧ s.dev.sysrst = true ∧ s.dev.holdThermal = false ∧ s.dev.holdSupply =
  false ∧ t = enterBoot (resetState true .reset 0x04 (resetEntry 0x04 s))) ∧ (∃ (st : _) (s : State) (t : _), st < 16 ∧ s.dev.mode =
  .reset ∧ s.dev.supply = true ∧ s.dev.sysrst = true ∧ s.dev.holdThermal = false ∧ s.dev.holdSupply = false ∧ s.dev.porst = false ∧ t
  = enterBoot (latchStraps st { s with dev := { s.dev with porst := true } })) ∧ (∃ (s : State) (t : _), s.dev.mode = .reset ∧
  s.dev.supply = true ∧ s.dev.porst = true ∧ s.dev.holdThermal = false ∧ s.dev.holdSupply = false ∧ s.dev.sysrst = false ∧ t =
  enterBoot { s with dev := { s.dev with sysrst := true } }) ∧ (∃ (s : State) (t : _), s.dev.mode = .reset ∧ s.dev.supply = true ∧
  s.dev.porst = true ∧ s.dev.sysrst = true ∧ s.dev.holdSupply = false ∧ t = enterBoot
  { s with dev := { s.dev with holdThermal := false } }) ∧ (∃ (st : _) (s : State) (t : _), st < 16 ∧ s.dev.mode = .reset ∧
  s.dev.supply = true ∧ s.dev.porst = true ∧ s.dev.sysrst = true ∧ s.dev.holdThermal = false ∧ s.dev.holdSupply = true ∧ t = enterBoot
  (latchStraps st { s with dev := { s.dev with holdSupply := false } })) :=
  ⟨⟨15, (inMode .solo), _, (by decide +kernel), (by decide +kernel), (by decide +kernel), rfl⟩,
   ⟨(inMode .solo), _, (by decide +kernel), (by decide +kernel), rfl⟩,
   ⟨inMode .reset, (by decide +kernel), (by decide +kernel)⟩,
   ⟨7, (inMode .solo), _, (by decide +kernel), (by decide +kernel), rfl⟩,
   ⟨(inMode .solo), _, (by decide +kernel), (by decide +kernel), (by decide +kernel), (by decide +kernel), (by decide +kernel),
  (by decide +kernel), rfl⟩,
   ⟨15, { inMode .reset with dev := { State.reset.dev with porst := false, supply := true } }, _, (by decide +kernel),
  (by decide +kernel), (by decide +kernel), (by decide +kernel), (by decide +kernel), (by decide +kernel), (by decide +kernel), rfl⟩,
   ⟨{ inMode .reset with dev := { State.reset.dev with porst := true, sysrst := false, supply := true } }, _, (by decide +kernel),
  (by decide +kernel), (by decide +kernel), (by decide +kernel), (by decide +kernel), (by decide +kernel), rfl⟩,
   ⟨{ inMode .reset with dev := { State.reset.dev with porst := true, holdThermal := true, supply := true } }, _, (by decide +kernel),
  (by decide +kernel), (by decide +kernel), (by decide +kernel), (by decide +kernel), rfl⟩,
   ⟨15, { inMode .reset with dev := { State.reset.dev with porst := true, holdSupply := true, supply := true } }, _, (by decide +kernel),
  (by decide +kernel), (by decide +kernel), (by decide +kernel), (by decide +kernel), (by decide +kernel), (by decide +kernel), rfl⟩⟩

theorem witness_SuppliesLinkAndBootFollowTheirEvents : (∃ (s : State), s.dev.supply = true ∧ s.lun.declared = [] ∧ s.dev.vbat = true)
  ∧ (∃ (s : State) (c : _) (u : _), s.dev.supply = false ∧ c = (if s.lun.vbatLost then 0x00 else 0x05) ∧ u = resetUnknown c
  { s with dev := { s.dev with supply := true } }) ∧ (∃ (s : State), s.dev.supply = true) ∧ (∃ (s : State), s.dev.supply = false) ∧ (∃
  (s : State), Awake s ∧ s.dev.perst = true) ∧ (∃ (inp : _) (s : State), (Instr.bootSequence inp).wf = true ∧ s.dev.mode = .boot ∧
  s.dev.bootWait = false ∧ s.sealPath.initDone = false ∧ bootChoice (bootSlot (bootRng inp.rngFails s) inp.imgA) (bootSlot (bootRng
  inp.rngFails s) inp.imgB) = none) ∧ (∃ (inp : _) (s : State) (n : _), (Instr.bootSequence inp).wf = true ∧ s.dev.mode = .boot ∧
  s.dev.bootWait = false ∧ s.sealPath.initDone = false ∧ bootChoice (bootSlot (bootRng inp.rngFails s) inp.imgA) (bootSlot (bootRng
  inp.rngFails s) inp.imgB) = some n) :=
  ⟨⟨(inMode .solo), (by decide +kernel), (by decide +kernel), (by decide +kernel)⟩,
   ⟨{ State.reset with dev := { State.reset.dev with mode := .lunar, supply := false } }, _, _, (by decide +kernel), rfl, rfl⟩,
   ⟨(inMode .solo), (by decide +kernel)⟩,
   ⟨{ State.reset with dev := { State.reset.dev with mode := .lunar, supply := false } }, (by decide +kernel)⟩,
   ⟨(inMode .solo), (by decide +kernel), (by decide +kernel)⟩,
   ⟨bootInput, { inMode .boot with dev := { (inMode .boot).dev with pcieUp := false }, sealPath := State.reset.sealPath },
  (by decide +kernel), (by decide +kernel), (by decide +kernel), (by decide +kernel), (by decide +kernel)⟩,
   ⟨{ bootInput with imgA := some (1, 1, zeros 64) },
  { inMode .boot with dev := { (inMode .boot).dev with pcieUp := false }, sealPath := State.reset.sealPath }, 0, (by decide +kernel),
  (by decide +kernel), (by decide +kernel), (by decide +kernel), (by decide +kernel)⟩⟩

theorem witness_MonitorsGeneratorAndManagementEventsTakeEffect : (∃ (n : _) (v : _) (k : _) (s : State), n < 9 ∧ n ≠ 6 ∧ v < 2 ^ 16 ∧
  sampledNow s n = true ∧ tamperSample s n v = true ∧ k = min 255 (s.lun.tamper.getD n 0 + 1) ∧ ((s.lun.alarm.testBit n = true ∨ k <
  lunFilter s n))) ∧ (∃ (n : _) (v : _) (k : _) (s : State), n < 9 ∧ n ≠ 6 ∧ v < 2 ^ 16 ∧ sampledNow s n = true ∧ tamperSample s n v =
  true ∧ k = min 255 (s.lun.tamper.getD n 0 + 1) ∧ s.lun.alarm.testBit n = false ∧ lunFilter s n ≤ k) ∧ (∃ (n : _) (v : _) (s :
  State), n < 9 ∧ n ≠ 6 ∧ v < 2 ^ 16 ∧ sampledNow s n = true ∧ tamperSample s n v = false ∧ s.lun.alarm.testBit n = false) ∧ (∃ (n :
  _) (v : _) (s : State), n < 9 ∧ n ≠ 6 ∧ v < 2 ^ 16 ∧ sampledNow s n = false) ∧ (∃ (ds : _) (s : State), (List.range 13).filter
  s.lun.declared.contains = ds ∧ ds ≠ [] ∧ s.dev.supply = true ∧ ((∀ n ∈ ds, bit (lunResp s n) 2 = false ∧ bit (lunResp s n) 3 = false
  ∧ bit (lunResp s n) 4 = false))) ∧ (∃ (n : _) (v : _) (s : State), n < 24 ∧ v < 2 ^ 32 ∧ s.dev.supply = true ∧ s.hlt.mons.getD n
  Monitor.init = { Monitor.init with value := 0 } ∧ (∀ c, outsideLimit s n c false (signed 32 v) = false)) ∧ (∃ (s : State), s.rng.st
  = 1 ∧ ((2 ^ 20 ≤ s.rng.reqs ∨ 8000 ≤ tdiff (now s) s.rng.seedTick))) ∧ (∃ (s : State), Awake s ∧ s.rng.st ≠ 0) ∧ (∃ (a : _) (b : _)
  (s : State), Awake s ∧ s.rng.st ≠ 0 ∧ (a || b) ∧ s.rng.failed + 1 ≠ 3) ∧ (∃ (a : _) (b : _) (s : State), Awake s ∧ s.rng.st = 1 ∧ (a
  || b) ∧ s.rng.failed = 2) ∧ (∃ (c : _) (s : State), c < 64 ∧ Awake s ∧ (agentOf s c).isSome = true) ∧ (∃ (c : _) (s : State), c <
  256 ∧ s.dev.supply = true ∧ s.dev.porst = true) ∧ (∃ (c : _) (s : State), c < 256 ∧ s.dev.supply = true ∧ s.dev.porst = true) ∧ (∃
  (rs : List Nat) (s : State), Awake s ∧ s.keys.owner.isSome = true ∧ (∀ x ∈ rs, x < 64)) :=
  ⟨⟨3, 1, 254, (put (put { inMode .solo with lun := { State.reset.lun with tamper := List.replicate 9 253 } } (ra (pg .lun) (0x110 + 12))
  255) (ra (pg .lun) 0x104) 0x1FF), (by decide +kernel), (by decide +kernel), (by decide +kernel), (by decide +kernel),
  (by decide +kernel), (by decide +kernel), (by decide +kernel)⟩,
   ⟨3, 1, 255, (put (put { inMode .solo with lun := { State.reset.lun with tamper := List.replicate 9 254 } } (ra (pg .lun) (0x110 + 12))
  255) (ra (pg .lun) 0x104) 0x1FF), (by decide +kernel), (by decide +kernel), (by decide +kernel), (by decide +kernel),
  (by decide +kernel), (by decide +kernel), (by decide +kernel), (by decide +kernel)⟩,
   ⟨0, 0x0000, (inMode .solo), (by decide +kernel), (by decide +kernel), (by decide +kernel), (by decide +kernel), (by decide +kernel),
  (by decide +kernel)⟩,
   ⟨8, 0, State.reset, (by decide +kernel), (by decide +kernel), (by decide +kernel), (by decide +kernel)⟩,
   ⟨[12], (put { inMode .solo with lun := { State.reset.lun with declared := [12] } } (ra (pg .lun) (0x160 + 48)) 2),
  (by decide +kernel), (by decide +kernel), (by decide +kernel), (by decide +kernel)⟩,
   ⟨0, 0, (inMode .solo), (by decide +kernel), (by decide +kernel), (by decide +kernel), (by decide +kernel),
  (by intro c; cases c <;> decide +kernel)⟩,
   ⟨{ inMode .solo with rng := { State.reset.rng with st := 1, seedTick := 2 ^ 32 - 8000 } }, (by decide +kernel), (by decide +kernel)⟩,
   ⟨{ inMode .solo with rng := { State.reset.rng with st := 1 } }, (by decide +kernel), (by decide +kernel)⟩,
   ⟨true, false, { inMode .solo with rng := { State.reset.rng with st := 2, failed := 3 } }, (by decide +kernel), (by decide +kernel),
  (by decide +kernel), (by decide +kernel)⟩,
   ⟨false, true, { inMode .solo with rng := { State.reset.rng with st := 1, failed := 2 } }, (by decide +kernel), (by decide +kernel),
  (by decide +kernel), (by decide +kernel)⟩,
   ⟨4, (inMode .solo), (by decide +kernel), (by decide +kernel), (by decide +kernel)⟩,
   ⟨0, (inMode .solo), (by decide +kernel), (by decide +kernel), (by decide +kernel)⟩,
   ⟨0, (inMode .solo), (by decide +kernel), (by decide +kernel), (by decide +kernel)⟩,
   ⟨[0, 63], { inMode .solo with keys := { State.reset.keys with owner := some (zeros 96) } }, (by decide +kernel), (by decide +kernel),
  (by decide +kernel)⟩⟩

theorem witness_TestPortLoadsItsInstruction : (∃ (i : _) (op : _) (s : State), s.dev.supply = true ∧ s.dev.porst = false ∧ (i, op) ∈
  [(Instr.extest, 0x00), (.extestPulse, 0x03), (.extestTrain, 0x04), (.clamp, 0x05), (.highz, 0x06)]) ∧ (∃ (i : _) (op : _) (s :
  State), s.dev.supply = true ∧ s.dev.porst = true ∧ (i, op) ∈ [(Instr.extest, 0x00), (.extestPulse, 0x03), (.extestTrain, 0x04),
  (.clamp, 0x05), (.highz, 0x06)]) ∧ (∃ (s : State), s.dev.supply = true) ∧ (∃ (s : State), s.dev.supply = true) ∧ (∃ (s : State),
  s.dev.supply = true) ∧ (∃ (s : State), s.dev.supply = true) :=
  ⟨⟨.highz, 0x06, State.reset, (by decide +kernel), (by decide +kernel), (by decide +kernel)⟩,
   ⟨.extest, 0x00, (inMode .solo), (by decide +kernel), (by decide +kernel), (by decide +kernel)⟩,
   ⟨State.reset, (by decide +kernel)⟩,
   ⟨State.reset, (by decide +kernel)⟩,
   ⟨State.reset, (by decide +kernel)⟩,
   ⟨State.reset, (by decide +kernel)⟩⟩

theorem witness_RecordsReachTheirRings : (∃ (r : _) (rest : _) (s : State) (t : _), s.era.wait = r :: rest ∧ ringsHeld s = false ∧
  eraEn s = true ∧ s.era.sums = [] ∧ eraHeld s < 65536 ∧ eraPut r 0 1 (ended r { s with era := { s.era with wait := rest } }) = (true,
  t)) ∧ (∃ (r : _) (rest : _) (s : State), s.era.wait = r :: rest ∧ ringsHeld s = false ∧ ((eraEn s = false ∨ s.era.sums ≠ [] ∨ 65536
  ≤ eraHeld s))) ∧ (∃ (s : State), eraEn s = true ∧ s.era.sums ≠ [] ∧ eraHeld s + 1024 ≤ 65536 ∧ ringsHeld s = false) ∧ (∃ (r : _)
  (rest : _) (s : State) (t : _), s.smp.wait = r :: rest ∧ tdiff s.smp.prod s.smp.cons < 4096 ∧ writeBar2 .record ((getReg s (ra (pg
  .smp) 0x104)).toNat + s.smp.prod.toNat % 4096 * 64) (wordsToBytes ((List.range 15).map (fun k => r.words.getD k 0) ++ [s.smp.prod]))
  { s with smp := { s.smp with wait := rest } } = (true, t)) ∧ (∃ (r : _) (rest : _) (s : State), s.smp.wait = r :: rest ∧ 4096 ≤
  tdiff s.smp.prod s.smp.cons) :=
  ⟨⟨failure, [], (put { inMode .solo with era := { State.reset.era with wait := [failure] } } (ra (pg .era) 0x100) 0x80000000), (eraPut
  failure 0 1 (ended failure (put (inMode .solo) (ra (pg .era) 0x100) 0x80000000))).2, (by decide +kernel), (by decide +kernel),
  (by decide +kernel), (by decide +kernel), (by decide +kernel), (by decide +kernel)⟩,
   ⟨failure, [], { inMode .solo with era := { State.reset.era with wait := [failure] } }, (by decide +kernel), (by decide +kernel),
  (by decide +kernel)⟩,
   ⟨(put (summarise failure (inMode .solo)) (ra (pg .era) 0x100) 0x80000000), (by decide +kernel), (by decide +kernel),
  (by decide +kernel), (by decide +kernel)⟩,
   ⟨smpRec, [], { inMode .solo with smp := { State.reset.smp with wait := [smpRec], prod := 0 } }, (writeBar2 .record 0 (wordsToBytes
  ((List.range 15).map (fun k => smpRec.words.getD k 0) ++ [0])) (inMode .solo)).2, (by decide +kernel), (by decide +kernel),
  (by decide +kernel)⟩,
   ⟨smpRec, [], { inMode .solo with smp := { State.reset.smp with wait := [smpRec], prod := 4096 } }, (by decide +kernel),
  (by decide +kernel)⟩⟩

theorem witness_MeridianEventsTakeEffect : (∃ (s : State) (c : _), bit (getReg s (ra (pg .mer) 0x14C)) 0 = true ∧ s.mer.step = [] ∧
  s.mer.ppsLast.any (fun t => decide (s.time.mer < t + 500000000 * nsUnit)) = false ∧ c = adriftUpdate
  { s with mer := { s.mer with ppsAt := some s.time.mer, ppsLast := some s.time.mer, ppsErr := ppsError s, ppsAge := 0 } }) ∧ (∃ (s :
  State) (c : _) (o : _) (sec : _) (t : _), bit (getReg s (ra (pg .mer) 0x14C)) 0 = true ∧ s.mer.step = [(o, sec, t)] ∧ s.time.mer < t
  + 2000000000 * nsUnit ∧ s.mer.ppsLast.any (fun t => decide (s.time.mer < t + 500000000 * nsUnit)) = false ∧ s.dev.mode = .configure
  ∧ merSrc s ≠ 1 ∧ c = event (pg .mer) 2 (bump (pg .mer) 0x320 1 (adriftUpdate
  { s with mer := { s.mer with ppsAt := some s.time.mer, ppsLast := some s.time.mer, ppsErr := ppsError s, ppsAge := 0 } }))) ∧ (∃ (k
  : _) (t : _) (s : State), k < 4 ∧ (trgOf (trgEnd s) k).next = some t ∧ trgArmed (trgEnd s) k = true ∧ t ≤ (advanceMer t (trgEnd
  s)).time.mer) ∧ (∃ (n : _) (page : _) (s : State), ((n < 16 ∧ page = pg .plain n) ∨ (16 ≤ n ∧ n < 32 ∧ page = pg .line (n - 16))) ∧
  merSrc s ≠ 1 ∧ bit (cfgReg s (ra page 0x108)) 2 = true) ∧ (∃ (s : State), merSrc s = 0 ∧ s.mer.servo = 2 ∧ pairOk s = true) ∧ (∃ (s
  : State), merSrc s = 0 ∧ s.mer.servo = 2 ∧ pairOk s = false) ∧ (∃ (s : State), s.dev.supply = true ∧ s.time.stepped = true ∧
  s.time.run = true ∧ tickStart s % (1000000000 * nsUnit) = 0) ∧ (∃ (o : _) (n : _) (t : _) (s : State), s.mer.step = [(o, n, t)] ∧ t
  + 2000000000 * nsUnit ≤ s.time.mer) :=
  ⟨⟨(put (inMode .solo) (ra (pg .mer) 0x14C) 1), _, (by decide +kernel), (by decide +kernel), (by decide +kernel), rfl⟩,
   ⟨(put { inMode .configure 8000 with mer := { State.reset.mer with step := [(0, 5, 0)] } } (ra (pg .mer) 0x14C) 1), _, 0, 5, 0,
  (by decide +kernel), (by decide +kernel), (by decide +kernel), (by decide +kernel), (by decide +kernel), (by decide +kernel), rfl⟩,
   ⟨3, 100,
  { put (inMode .solo) (trgReg 3 0) 0x80000000 with mer := { State.reset.mer with trig := List.replicate 4 { Trig.init with next := some 100 } } },
  (by decide +kernel), (by decide +kernel), (by decide +kernel), (by decide +kernel)⟩,
   ⟨31, pg .line 15, cfgPut (inMode .solo) (ra (pg .line 15) 0x108) 4, (by decide +kernel), (by decide +kernel), (by decide +kernel)⟩,
   ⟨{ put (inMode .twinEmit) (ra (pg .mer) 0x100) 0x10 with mer := { State.reset.mer with servo := 2 }, twin := { State.reset.twin with present := true, peerServo := 2 } },
  (by decide +kernel), (by decide +kernel), (by decide +kernel)⟩,
   ⟨{ inMode .solo with mer := { State.reset.mer with servo := 2 } }, (by decide +kernel), (by decide +kernel), (by decide +kernel)⟩,
   ⟨{ inMode .solo 8000 with time := { (inMode .solo 8000).time with stepped := true } }, (by decide +kernel), (by decide +kernel),
  (by decide +kernel), (by decide +kernel)⟩,
   ⟨0, 5, 0, { inMode .solo 16000 with mer := { State.reset.mer with step := [(0, 5, 0)] } }, (by decide +kernel), (by decide +kernel)⟩⟩

theorem witness_ReceivedAndTimedFramesPassTheirStages : (∃ (p : _) (clk : _) (b : Bytes) (e : _) (x : _) (s : State) (t : State),
  (Instr.plainFrameRx p clk b e x).wf = true ∧ t = atPort .plain p clk e s ∧ portOn t .plain p = true ∧ loopMode t .plain p = 0 ∧
  macOpen t .plain p = false) ∧ (∃ (p : _) (clk : _) (b : Bytes) (e : _) (x : _) (s : State) (t : State), (Instr.plainFrameRx p clk b
  e x).wf = true ∧ t = atPort .plain p clk e s ∧ portOn t .plain p = true ∧ loopMode t .plain p = 0 ∧ macOpen t .plain p = true ∧
  etherType b = 0x8808 ∧ hasType b = true) ∧ (∃ (p : _) (clk : _) (b : Bytes) (c : Bytes) (e : _) (x : _) (s : State) (t : State) (u :
  State), (Instr.plainFrameRx p clk b e x).wf = true ∧ t = atPort .plain p clk e s ∧ portOn t .plain p = true ∧ loopMode t .plain p =
  0 ∧ macOpen t .plain p = true ∧ etherType b ≠ 0x8808 ∧ rtagElim p b t = (some c, u) ∧ controlOnly u = false) ∧ (∃ (p : _) (clk : _)
  (b : Bytes) (c : Bytes) (e : _) (x : _) (s : State) (t : State) (u : State), (Instr.plainFrameRx p clk b e x).wf = true ∧ t = atPort
  .plain p clk e s ∧ portOn t .plain p = true ∧ loopMode t .plain p = 0 ∧ macOpen t .plain p = true ∧ etherType b ≠ 0x8808 ∧ rtagElim
  p b t = (some c, u) ∧ controlOnly u = true ∧ (hasType c && isControl u .plain p c) = false) ∧ (∃ (p : _) (clk : _) (b : Bytes) (e :
  _) (x : _) (s : State) (t : State) (u : State), (Instr.plainFrameRx p clk b e x).wf = true ∧ t = atPort .plain p clk e s ∧ portOn t
  .plain p = true ∧ loopMode t .plain p = 0 ∧ macOpen t .plain p = true ∧ etherType b ≠ 0x8808 ∧ rtagElim p b t = (none, u)) ∧ (∃ (p :
  _) (clk : _) (b : Bytes) (e : _) (x : _) (s : State) (t : State), (Instr.plainFrameRx p clk b e x).wf = true ∧ t = atPort .plain p
  clk e s ∧ portOn t .plain p = true ∧ (loopMode t .plain p = 1 ∨ loopMode t .plain p = 2)) ∧ (∃ (p : _) (clk : _) (b : Bytes) (e : _)
  (x : _) (s : State) (t : State), (Instr.lineFrameRx p clk b e x).wf = true ∧ t = atPort .line p clk e s ∧ portOn t .line p = true ∧
  loopMode t .line p = 0 ∧ macOpen t .line p = false) ∧ (∃ (p : _) (clk : _) (b : Bytes) (e : _) (x : _) (s : State) (t : State),
  (Instr.lineFrameRx p clk b e x).wf = true ∧ t = atPort .line p clk e s ∧ portOn t .line p = true ∧ loopMode t .line p = 0 ∧ macOpen
  t .line p = true ∧ etherType b = 0x8808 ∧ hasType b = true) ∧ (∃ (p : _) (clk : _) (b : Bytes) (e : _) (x : _) (s : State) (t :
  State) (u : State), (Instr.lineFrameRx p clk b e x).wf = true ∧ t = atPort .line p clk e s ∧ portOn t .line p = true ∧ loopMode t
  .line p = 0 ∧ macOpen t .line p = true ∧ etherType b ≠ 0x8808 ∧ controlOnly t = false ∧ u = rxStart .line p b.length x t) ∧ (∃ (p :
  _) (clk : _) (b : Bytes) (e : _) (x : _) (s : State) (t : State), (Instr.lineFrameRx p clk b e x).wf = true ∧ t = atPort .line p clk
  e s ∧ portOn t .line p = true ∧ loopMode t .line p = 0 ∧ macOpen t .line p = true ∧ etherType b ≠ 0x8808 ∧ controlOnly t = true ∧
  (hasType b && isControl t .line p b) = false) ∧ (∃ (p : _) (clk : _) (b : Bytes) (e : _) (x : _) (s : State) (t : State),
  (Instr.lineFrameRx p clk b e x).wf = true ∧ t = atPort .line p clk e s ∧ portOn t .line p = true ∧ (loopMode t .line p = 1 ∨
  loopMode t .line p = 2)) ∧ (∃ (id : _) (f : _) (s : State), frameOf s id = some f ∧ f.receiving = true ∧ f.bad = none) ∧ (∃ (id : _)
  (f : _) (s : State), frameOf s id = some f ∧ f.receiving = true ∧ f.bad = none) ∧ (∃ (id : _) (clk : _) (f : _) (n : _) (at_ : _) (s
  : State) (t : _) (b : _) (u : _), (Instr.transitLaunch id clk).wf = true ∧ t = frameTime clk s ∧ frameOf t id = some f ∧ f.launch =
  some (n, at_) ∧ at_ ≤ t.time.mer + 2 * nsUnit ∧ launchBehind t f n = false ∧ f.stage ≠ .emitting ∧ egressUp t f = true ∧ frameReady
  t f = true ∧ clearWire t f.dir (emitPorts t f) (some at_) = some (b, u) ∧ b ≤ at_ + 2 * nsUnit) ∧ (∃ (id : _) (clk : _) (f : _) (n :
  _) (at_ : _) (s : State) (t : _) (b : _) (u : _), (Instr.transitLaunch id clk).wf = true ∧ t = frameTime clk s ∧ frameOf t id = some
  f ∧ f.launch = some (n, at_) ∧ at_ ≤ t.time.mer + 2 * nsUnit ∧ launchBehind t f n = false ∧ f.stage ≠ .emitting ∧ egressUp t f =
  true ∧ frameReady t f = true ∧ clearWire t f.dir (emitPorts t f) (some at_) = some (b, u) ∧ at_ + 2 * nsUnit < b ∧ (lateRule t n).2
  = false ∧ b ≤ at_ + (lateRule t n).1 * nsUnit) ∧ (∃ (id : _) (clk : _) (f : _) (n : _) (at_ : _) (s : State) (t : _),
  (Instr.transitLaunch id clk).wf = true ∧ t = frameTime clk s ∧ frameOf t id = some f ∧ f.launch = some (n, at_) ∧ at_ ≤ t.time.mer ∧
  at_ + (lateRule t n).1 * nsUnit < t.time.mer ∧ frameReady t f = false ∧ launchBehind t f n = false ∧ f.stage ≠ .emitting ∧ egressUp
  t f = true) :=
  ⟨⟨15, 0, (plainBytes 0x08 0x00), .good, true, ports .zeroized, (atPort .plain 15 0 .good (ports .zeroized)), (by decide +kernel),
  (by decide +kernel), (by decide +kernel), (by decide +kernel), (by decide +kernel)⟩,
   ⟨0, 0, (plainBytes 0x88 0x08), .corrected 1 3, true, (ports .solo), (atPort .plain 0 0 (.corrected 1 3) ((ports .solo))),
  (by decide +kernel), (by decide +kernel), (by decide +kernel), (by decide +kernel), (by decide +kernel), (by decide +kernel),
  (by decide +kernel)⟩,
   ⟨0, 0, (plainBytes 0x08 0x00), (rtagElim 0 (plainBytes 0x08 0x00) (atPort .plain 0 0 (.uncorrectable 1) ((ports .solo)))).1.getD [],
  .uncorrectable 1, false, (ports .solo), (atPort .plain 0 0 (.uncorrectable 1) ((ports .solo))), (rtagElim 0 (plainBytes 0x08 0x00)
  (atPort .plain 0 0 (.uncorrectable 1) ((ports .solo)))).2, (by decide +kernel), (by decide +kernel), (by decide +kernel),
  (by decide +kernel), (by decide +kernel), (by decide +kernel), (by decide +kernel), (by decide +kernel)⟩,
   ⟨0, 0, (plainBytes 0x08 0x00), (plainBytes 0x08 0x00), .good, true, ports .configure, (atPort .plain 0 0 .good (ports .configure)),
  (atPort .plain 0 0 .good (ports .configure)), (by decide +kernel), (by decide +kernel), (by decide +kernel), (by decide +kernel),
  (by decide +kernel), (by decide +kernel), (by decide +kernel), (by decide +kernel), (by decide +kernel)⟩,
   ⟨0, 0, (zeros 12 ++ [0xF1, 0xC1, 0, 0, 0, 5] ++ zeros 44), .good, true, (cfgPut
  ({ ports .twinEmit with twin := { State.reset.twin with rtag := [(0, 0, (rtagStep none 5).2.1, (rtagStep none 5).2.2)] } }) (ra (pg
  .twn) 0x124) 1), (atPort .plain 0 0 .good ((cfgPut
  ({ ports .twinEmit with twin := { State.reset.twin with rtag := [(0, 0, (rtagStep none 5).2.1, (rtagStep none 5).2.2)] } }) (ra (pg
  .twn) 0x124) 1))), (rtagElim 0 (zeros 12 ++ [0xF1, 0xC1, 0, 0, 0, 5] ++ zeros 44) (atPort .plain 0 0 .good ((cfgPut
  ({ ports .twinEmit with twin := { State.reset.twin with rtag := [(0, 0, (rtagStep none 5).2.1, (rtagStep none 5).2.2)] } }) (ra (pg
  .twn) 0x124) 1)))).2, (by decide +kernel), (by decide +kernel), (by decide +kernel), (by decide +kernel), (by decide +kernel),
  (by decide +kernel), (pair_none (by decide +kernel))⟩,
   ⟨15, 0, (plainBytes 0x08 0x00), .good, true, (put (ports .solo) (ra (portPage .plain 15) 0x120) 1), (atPort .plain 15 0 .good ((put
  (ports .solo) (ra (portPage .plain 15) 0x120) 1))), (by decide +kernel), (by decide +kernel), (by decide +kernel),
  (by decide +kernel)⟩,
   ⟨15, 0, (plainBytes 0x08 0x00), .good, true, ports .zeroized, (atPort .line 15 0 .good (ports .zeroized)), (by decide +kernel),
  (by decide +kernel), (by decide +kernel), (by decide +kernel), (by decide +kernel)⟩,
   ⟨0, 0, (plainBytes 0x88 0x08), .good, true, (ports .solo), (atPort .line 0 0 .good ((ports .solo))), (by decide +kernel),
  (by decide +kernel), (by decide +kernel), (by decide +kernel), (by decide +kernel), (by decide +kernel), (by decide +kernel)⟩,
   ⟨15, 0, (plainBytes 0x08 0x00), .good, true, (ports .solo), (atPort .line 15 0 .good ((ports .solo))), _, (by decide +kernel),
  (by decide +kernel), (by decide +kernel), (by decide +kernel), (by decide +kernel), (by decide +kernel), (by decide +kernel), rfl⟩,
   ⟨0, 0, (plainBytes 0x08 0x00), .cut, true, ports .configure, (atPort .line 0 0 .cut (ports .configure)), (by decide +kernel),
  (by decide +kernel), (by decide +kernel), (by decide +kernel), (by decide +kernel), (by decide +kernel), (by decide +kernel),
  (by decide +kernel)⟩,
   ⟨15, 0, (plainBytes 0x08 0x00), .good, true, (put (ports .solo) (ra (portPage .line 15) 0x120) 2), (atPort .line 15 0 .good ((put
  (ports .solo) (ra (portPage .line 15) 0x120) 2))), (by decide +kernel), (by decide +kernel), (by decide +kernel),
  (by decide +kernel)⟩,
   ⟨0, { frm .dec .waiting with receiving := true }, holding { frm .dec .waiting with receiving := true }, (by decide +kernel),
  (by decide +kernel), (by decide +kernel)⟩,
   ⟨0, { frm .dec .waiting with receiving := true }, holding { frm .dec .waiting with receiving := true }, (by decide +kernel),
  (by decide +kernel), (by decide +kernel)⟩,
   ⟨0, 0, { frm .enc .queued with launch := some (256, 0) }, 256, 0, holding { frm .enc .queued with launch := some (256, 0) },
  (frameTime 0 (holding { frm .enc .queued with launch := some (256, 0) })), 0, (frameTime 0 (holding
  { frm .enc .queued with launch := some (256, 0) })), (by decide +kernel), (by decide +kernel), (by decide +kernel),
  (by decide +kernel), (by decide +kernel), (by decide +kernel), (by decide +kernel), (by decide +kernel), (by decide +kernel),
  (by decide +kernel), (by decide +kernel)⟩,
   ⟨0, 0, { frm .enc .queued with launch := some (256, 10 * tickUnit - 5 * nsUnit) }, 256, 10 * tickUnit - 5 * nsUnit, (put (holding
  { frm .enc .queued with launch := some (256, 10 * tickUnit - 5 * nsUnit) } 10) (ra (pg .bun) 0x10C) 10), (frameTime 0 ((put (holding
  { frm .enc .queued with launch := some (256, 10 * tickUnit - 5 * nsUnit) } 10) (ra (pg .bun) 0x10C) 10))), 10 * tickUnit, (frameTime
  0 ((put (holding { frm .enc .queued with launch := some (256, 10 * tickUnit - 5 * nsUnit) } 10) (ra (pg .bun) 0x10C) 10))),
  (by decide +kernel), (by decide +kernel), (by decide +kernel), (by decide +kernel), (by decide +kernel), (by decide +kernel),
  (by decide +kernel), (by decide +kernel), (by decide +kernel), (by decide +kernel), (by decide +kernel), (by decide +kernel),
  (by decide +kernel)⟩,
   ⟨0, 0, { frm .enc .ready with launch := some (256, 0) }, 256, 0, holding { frm .enc .ready with launch := some (256, 0) } 10,
  (frameTime 0 (holding { frm .enc .ready with launch := some (256, 0) } 10)), (by decide +kernel), (by decide +kernel),
  (by decide +kernel), (by decide +kernel), (by decide +kernel), (by decide +kernel), (by decide +kernel), (by decide +kernel),
  (by decide +kernel), (by decide +kernel)⟩⟩

theorem witness_FramesMoveThroughTheEngine : (∃ (d : _) (f : _) (s : State), firstOf ((slotWaiters s d).filter (fun f => mayAdmit s d
  f.cls && f.cls == 0)) = some f) ∧ (∃ (d : _) (f : _) (s : State), ((∀ x ∈ slotWaiters s d, mayAdmit s d x.cls = true → x.cls ≠ 0)) ∧
  firstOf ((slotWaiters s d).filter (fun f => mayAdmit s d f.cls)) = some f) ∧ (∃ (d : _) (f : _) (s : State), ((s.frames.list.filter
  (fun f => f.dir == d && f.stage == .ready && (d == .enc || arrived s f))).find? (fun f => f.cls == 0) = some f) ∧ gangSize s f ≤
  (freePipes s (dirNum d)).length) ∧ (∃ (d : _) (l : _) (f : _) (r : _) (s : State), (s.frames.list.filter (fun f => f.dir == d &&
  f.stage == .ready && (d == .enc || arrived s f)) = l) ∧ l = f :: r ∧ (∀ x ∈ l, x.cls ≠ 0) ∧ gangSize s f ≤ (freePipes s (dirNum
  d)).length ∧ ((frameBlocks f ≤ 16 ∨ xres s d + gangSize s f ≤ expressOpen s (dirNum d)))) ∧ (∃ (side : _) (p : _) (clk : _) (f : _)
  (s : State) (t : _) (at_ : _) (u : _), (Instr.egressBegin side p clk).wf = true ∧ t = egressFirst side p ([0, 1, 2].foldl (fun s c
  => pruneQueue (dirOut side) p c s.frames.list.length s) (frameTime clk s)) ∧ (classQueue t (dirOut side) p 0).head? = some f ∧
  frameReady t f = true ∧ mayBegin t f = true ∧ clearWire t (dirOut side) (emitPorts t f) none = some (at_, u)) ∧ (∃ (side : _) (p :
  _) (clk : _) (s : State) (t : _), (Instr.egressBegin side p clk).wf = true ∧ t = egressFirst side p ([0, 1, 2].foldl (fun s c =>
  pruneQueue (dirOut side) p c s.frames.list.length s) (frameTime clk s)) ∧ classQueue t (dirOut side) p 0 = [] ∧ portFree t side p =
  true ∧ suspended t (dirOut side) p = none) ∧ (∃ (i : _) (s : State), (Instr.orbitFillDone i .tag).wf = true ∧
  s.orb.fills.contains i = true) ∧ (∃ (i : _) (s : State), (Instr.orbitFillDone i .integ).wf = true ∧ s.orb.fills.contains i =
  true) ∧ (∃ (i : _) (s : State) (b : _) (t : _), (Instr.orbitFillDone i .passed).wf = true ∧ s.orb.fills.contains i = true ∧
  sealRead .orbit (homeAddr i) 256 s = (some b, t) ∧ fillFits (saOf s i) (bytesToWords 64 b) = true) ∧ (∃ (id : _) (clk : _) (b : _)
  (f : _) (s : State), (Instr.gangFinish id clk b).wf = true ∧ frameOf (frameTime clk s) id = some f ∧ f.gang ≠ [] ∧ f.doneAt ≤
  (frameTime clk s).time.cyc ∧ f.dir = .enc ∧ f.receiving = false) ∧ (∃ (id : _) (clk : _) (f : _) (s : State), (Instr.gangFinish id
  clk true).wf = true ∧ frameOf (frameTime clk s) id = some f ∧ f.gang ≠ [] ∧ f.doneAt ≤ (frameTime clk s).time.cyc ∧ f.dir = .dec) ∧
  (∃ (id : _) (clk : _) (f : _) (s : State), (Instr.gangFinish id clk false).wf = true ∧ frameOf (frameTime clk s) id = some f ∧
  f.gang ≠ [] ∧ f.doneAt ≤ (frameTime clk s).time.cyc ∧ f.dir = .dec) :=
  ⟨⟨.enc, frm .enc .waiting, holding (frm .enc .waiting), (by decide +kernel)⟩,
   ⟨.dec, { frm .dec .waiting with cls := 2 }, holding { frm .dec .waiting with cls := 2 }, (by decide +kernel), (by decide +kernel)⟩,
   ⟨.enc, frm .enc .ready, holding (frm .enc .ready), (by decide +kernel), (by decide +kernel)⟩,
   ⟨.enc, [{ frm .enc .ready with cls := 2 }], { frm .enc .ready with cls := 2 }, [], holding { frm .enc .ready with cls := 2 },
  (by decide +kernel), (by decide +kernel), (by decide +kernel), (by decide +kernel), (by decide +kernel)⟩,
   ⟨.line, 15, 0, frm .enc .queued, holding (frm .enc .queued), egressFirst .line 15 ([0, 1, 2].foldl (fun s c => pruneQueue (dirOut
  .line) 15 c s.frames.list.length s) (frameTime 0 (holding (frm .enc .queued)))), 0, egressFirst .line 15 ([0, 1, 2].foldl (fun s c
  => pruneQueue (dirOut .line) 15 c s.frames.list.length s) (frameTime 0 (holding (frm .enc .queued)))), (by decide +kernel),
  (by decide +kernel), (by decide +kernel), (by decide +kernel), (by decide +kernel), (by decide +kernel)⟩,
   ⟨.line, 15, 0, holding { frm .enc .queued with cls := 1 }, egressFirst .line 15 ([0, 1, 2].foldl (fun s c => pruneQueue (dirOut .line)
  15 c s.frames.list.length s) (frameTime 0 (holding { frm .enc .queued with cls := 1 }))), (by decide +kernel), (by decide +kernel),
  (by decide +kernel), (by decide +kernel), (by decide +kernel)⟩,
   ⟨0, { inMode .solo with orb := { State.reset.orb with fills := [0] } }, (by decide +kernel), (by decide +kernel)⟩,
   ⟨0, { inMode .solo with orb := { State.reset.orb with fills := [0] } }, (by decide +kernel), (by decide +kernel)⟩,
   ⟨3, { inMode .solo with orb := { State.reset.orb with fills := [3] } }, zeros 256, (sealRead .orbit (homeAddr 3) 256
  { inMode .solo with orb := { State.reset.orb with fills := [3] } }).2, (by decide +kernel), (by decide +kernel),
  (by decide +kernel), (by decide +kernel)⟩,
   ⟨0, 0, false, { frm .enc .gang with gang := [1] }, holding { frm .enc .gang with gang := [1] }, (by decide +kernel),
  (by decide +kernel), (by decide +kernel), (by decide +kernel), (by decide +kernel), (by decide +kernel)⟩,
   ⟨0, 0, { frm .dec .gang with gang := [41] }, holding { frm .dec .gang with gang := [41] }, (by decide +kernel), (by decide +kernel),
  (by decide +kernel), (by decide +kernel), (by decide +kernel)⟩,
   ⟨0, 0, { frm .dec .gang with gang := [41] }, holding { frm .dec .gang with gang := [41] }, (by decide +kernel), (by decide +kernel),
  (by decide +kernel), (by decide +kernel), (by decide +kernel)⟩⟩

theorem witness_LinkEventsMoveTheirPort : (∃ (side : _) (p : _) (s : State), p < 16 ∧ portOn s side p = true ∧ bit (getReg s (ra
  (portPage side p) 0x108)) 1 = false ∧ linkUp (portOf s side p) = false) ∧ (∃ (side : _) (p : _) (s : State), p < 16 ∧ portOn s side
  p = true) ∧ (∃ (side : _) (p : _) (s : State), p < 16 ∧ portOn s side p = true) ∧ (∃ (side : _) (p : _) (s : State), p < 16 ∧ portOn
  s side p = true ∧ bit (getReg s (ra (portPage side p) 0x108)) 1 = true) ∧ (∃ (side : _) (p : _) (o : _) (t : _) (s : State), p < 16
  ∧ (portOf s side p).eq = some (o, t) ∧ 16000 ≤ tdiff (now s) t) ∧ (∃ (side : _) (p : _) (b : _) (s : State) (f : _), p < 16 ∧
  (Instr.controlFrameTx side p b).wf = true ∧ portOn s side p = true ∧ ((traffic s = true ∨ controlOnly s = true)) ∧ agentMay s side p
  b = true ∧ macSet s side p = true ∧ f =
  { Frame.fresh (dirOut side) p (padMin (b.take 6 ++ portMac s side p ++ b.drop 12)) s.time.mer (now s) with kind := .control, cls := 1, dest := p, cells := cellsOf ((padMin (b.take 6 ++ portMac s side p ++ b.drop 12)).length + 4) })
  ∧ (∃ (p : _) (q : _) (d : _) (s : State) (t : _), p < 16 ∧ q = regFld s (ra (pg .plain p) 0x118) 15 0 ∧ d = (portOf s .plain
  p).pfcAt + lineTime (portRate s .plain p) (q * 32) ∧ portOn s .plain p = true ∧ (portOf s .plain p).xoff = true ∧ (portOf s .plain
  p).pfcWait = [] ∧ bit (getReg s (ra (pg .plain p) 0x118)) 31 = true ∧ t = advanceMer d s ∧ d ≤ t.time.mer) ∧ (∃ (side : _) (p : _)
  (s : State), p < 16 ∧ portOn s side p = true ∧ linkUp (portOf s side p) = true ∧ (portOf s side p).verify = 1) ∧ (∃ (side : _) (p :
  _) (s : State), p < 16 ∧ portOn s side p = true ∧ linkUp (portOf s side p) = true ∧ (portOf s side p).verify = 1 ∧ (portOf s side
  p).verTries < 2) ∧ (∃ (side : _) (p : _) (s : State), p < 16 ∧ portOn s side p = true ∧ linkUp (portOf s side p) = true ∧ (portOf s
  side p).verify = 1 ∧ 2 ≤ (portOf s side p).verTries) ∧ (∃ (side : _) (p : _) (s : State), p < 16 ∧ portOn s side p = true ∧ (portOf
  s side p).ingUp = true ∧ egOpen s side p = true ∧ idleMode s = false) :=
  ⟨⟨.plain, 15, { ports .solo with plainPorts := List.replicate 16 { Port.init with mode := 5, part := 64 } }, (by decide +kernel),
  (by decide +kernel), (by decide +kernel), (by decide +kernel)⟩,
   ⟨.line, 15, (ports .solo), (by decide +kernel), (by decide +kernel)⟩,
   ⟨.line, 15, (ports .solo), (by decide +kernel), (by decide +kernel)⟩,
   ⟨.plain, 15, (put (ports .solo) (ra (portPage .plain 15) 0x108) 2), (by decide +kernel), (by decide +kernel), (by decide +kernel)⟩,
   ⟨.plain, 15, 0, 0, { ports .solo 16000 with plainPorts := List.replicate 16 { Port.init with mode := 5, eq := some (0, 0) } },
  (by decide +kernel), (by decide +kernel), (by decide +kernel)⟩,
   ⟨.line, 15, (plainBytes 0x08 0x00), (put (put (ports .solo) (ra (portPage .line 15) 0x12C) 1) (ra (portPage .line 15) 0x130) 1), _,
  (by decide +kernel), (by decide +kernel), (by decide +kernel), (by decide +kernel), (by decide +kernel), (by decide +kernel), rfl⟩,
   ⟨15, 2, _, (put
  ({ ports .solo with plainPorts := List.replicate 16 { Port.init with mode := 5, ingUp := true, egUp := true, xoff := true } }) (ra
  (pg .plain 15) 0x118) 0x80000002), _, (by decide +kernel), (by decide +kernel), rfl, (by decide +kernel), (by decide +kernel),
  (by decide +kernel), (by decide +kernel), rfl, (by decide +kernel)⟩,
   ⟨.plain, 15,
  { ports .solo with plainPorts := List.replicate 16 { Port.init with mode := 5, ingUp := true, egUp := true, verify := 1 } },
  (by decide +kernel), (by decide +kernel), (by decide +kernel), (by decide +kernel)⟩,
   ⟨.plain, 15,
  { ports .solo with plainPorts := List.replicate 16 { Port.init with mode := 5, ingUp := true, egUp := true, verify := 1, verTries := 1 } },
  (by decide +kernel), (by decide +kernel), (by decide +kernel), (by decide +kernel), (by decide +kernel)⟩,
   ⟨.plain, 15,
  { ports .solo with plainPorts := List.replicate 16 { Port.init with mode := 5, ingUp := true, egUp := true, verify := 1, verTries := 2 } },
  (by decide +kernel), (by decide +kernel), (by decide +kernel), (by decide +kernel), (by decide +kernel)⟩,
   ⟨.plain, 15, (ports .solo), (by decide +kernel), (by decide +kernel), (by decide +kernel), (by decide +kernel), (by decide +kernel)⟩⟩

theorem witness_PipelinesAreTestedAndQuiesced : (∃ (p : _) (n : _) (s : State), p < 42 ∧ n < 16 ∧ (pipeOf s p).role = 0) ∧ (∃ (p : _)
  (u : _) (s : State), p < 42 ∧ u < 4 ∧ (pipeOf s p).role = 0) ∧ (∃ (d : _) (r : _) (s : State), s.rota.getD (dirNum d) ⟨0, 0, false⟩
  = r ∧ r.due = true) ∧ (∃ (p : _) (s : State), p < 42 ∧ (pipeOf s p).role = 1 ∧ inShort (pipeOf s p) = false ∧ (pipeOf s p).running =
  true ∧ (pipeOf s p).bad = false ∧ cycleTicks ≤ tdiff (now s) (pipeOf s p).cycAt) ∧ (∃ (p : _) (c : _) (s : State), p < 42 ∧ c < 256
  ∧ c ≠ 0 ∧ (pipeOf s p).role = 1 ∧ inShort (pipeOf s p) = false ∧ (pipeOf s p).running = true ∧ cycleTicks ≤ tdiff (now s) (pipeOf s
  p).cycAt) ∧ (∃ (p : _) (t : _) (s : State), p < 42 ∧ (pipeOf s p).short = some t ∧ (pipeOf s p).running = true ∧ (pipeOf s p).bad =
  false) ∧ (∃ (p : _) (t : _) (c : _) (s : State), p < 42 ∧ c < 256 ∧ c ≠ 0 ∧ (pipeOf s p).short = some t ∧ (pipeOf s p).running =
  true) ∧ (∃ (p : _) (c : _) (t : _) (s : State), p < 42 ∧ c < 256 ∧ c ≠ 0 ∧ (pipeOf s p).role = 2 ∧ cycleTicks ≤ tdiff (now s)
  (pipeOf s p).cycAt ∧ t = testFail p c (bump (pg .pipe p) 0x238 1 (testDone p false s))) ∧ (∃ (p : _) (t : _) (s : State), p < 42 ∧
  (pipeOf s p).role = 2 ∧ (pipeOf s p).bad = false ∧ cycleTicks ≤ tdiff (now s) (pipeOf s p).cycAt ∧ t = setReady (pg .pipe p) (bump
  (pg .pipe p) 0x238 1 (testDone p true s)) ∧ ((pipesOf (pipeDir p)).any (fun q => (pipeOf t q).role == 1 || (pipeOf t q).occPend) =
  true)) ∧ (∃ (p : _) (s : State), p < 42 ∧ (legend s (pg .pipe p)).qreq = true ∧ (legend s (pg .pipe p)).quiesced = false ∧ pipeBusy
  s p = false) :=
  ⟨⟨41, 15, pipes Pipe.init, (by decide +kernel), (by decide +kernel), (by decide +kernel)⟩,
   ⟨41, 3, pipes Pipe.init, (by decide +kernel), (by decide +kernel), (by decide +kernel)⟩,
   ⟨.dec, { mark := 41, left := 0, due := true }, { inMode .solo with rota := List.replicate 2 { mark := 41, left := 0, due := true } },
  (by decide +kernel), (by decide +kernel)⟩,
   ⟨41, pipes { Pipe.init with role := 1, running := true } 320, (by decide +kernel), (by decide +kernel), (by decide +kernel),
  (by decide +kernel), (by decide +kernel), (by decide +kernel)⟩,
   ⟨0, 255, pipes { Pipe.init with role := 1, running := true } 320, (by decide +kernel), (by decide +kernel), (by decide +kernel),
  (by decide +kernel), (by decide +kernel), (by decide +kernel), (by decide +kernel)⟩,
   ⟨20, 0, pipes { Pipe.init with short := some 0, running := true } 3, (by decide +kernel), (by decide +kernel), (by decide +kernel),
  (by decide +kernel)⟩,
   ⟨21, 0, 1, pipes { Pipe.init with short := some 0, running := true } 3, (by decide +kernel), (by decide +kernel), (by decide +kernel),
  (by decide +kernel), (by decide +kernel)⟩,
   ⟨41, 1, _, pipes { Pipe.init with role := 2 } 320, (by decide +kernel), (by decide +kernel), (by decide +kernel), (by decide +kernel),
  (by decide +kernel), rfl⟩,
   ⟨41, _, { inMode .solo 320 with pipes := (List.replicate 42 { Pipe.init with role := 1 }).set 41 { Pipe.init with role := 2 } },
  (by decide +kernel), (by decide +kernel), (by decide +kernel), (by decide +kernel), rfl, (by decide +kernel)⟩,
   ⟨41, { inMode .solo with legends := [(pg .pipe 41, { Legend.init with qreq := true })] }, (by decide +kernel), (by decide +kernel),
  (by decide +kernel), (by decide +kernel)⟩⟩

set_option maxRecDepth 100000 in
theorem witness_HighwayAndTributaryEventsTakeEffect_1 : (∃ (h : _) (pos : _) (x : _) (u : _) (s : State), (Instr.highwayFrameRx h pos
  x).wf = true ∧ hwyDeaf s h = false ∧ u = (if hwyLoopMode s h = 3 then emit (.hwyReturned h x) s else s) ∧ hwyGood u h pos x = true ∧
  (hwyOf u h).lof = false ∧ h < u.hwys.length) :=
  ⟨7, 1023, hwySyms, _, circuits 1 255, (by decide +kernel), (by decide +kernel), rfl, (by decide +kernel), (by decide +kernel),
    (by decide +kernel)⟩

theorem witness_HighwayAndTributaryEventsTakeEffect_2 : (∃ (h : _) (pos : _) (x : _) (u : _) (s : State), (Instr.highwayFrameRx h pos
  x).wf = true ∧ hwyDeaf s h = false ∧ u = (if hwyLoopMode s h = 3 then emit (.hwyReturned h x) s else s) ∧ hwyGood u h pos x = false
  ∧ (hwyOf u h).bad = 0 ∧ h < u.hwys.length) :=
  ⟨7, 0, [], _, circuits 1 255, (by decide +kernel), (by decide +kernel), rfl, (by decide +kernel), (by decide +kernel),
    (by decide +kernel)⟩

theorem witness_HighwayAndTributaryEventsTakeEffect_3 : (∃ (h : _) (s : State), h < 8 ∧ hwyDeaf s h = false) :=
  ⟨7, circuits 1 255, (by decide +kernel), (by decide +kernel)⟩

theorem witness_HighwayAndTributaryEventsTakeEffect_4 : (∃ (h : _) (s : State), h < 8 ∧ hwyDeaf s h = false) :=
  ⟨0, circuits 0, (by decide +kernel), (by decide +kernel)⟩

theorem witness_HighwayAndTributaryEventsTakeEffect_5 : (∃ (h : _) (pos : _) (x : _) (s : State), (Instr.highwayFrameRx h pos x).wf =
  true ∧ hwyDeaf s h = true) :=
  ⟨7, 1023, [], State.reset, (by decide +kernel), (by decide +kernel)⟩

theorem witness_HighwayAndTributaryEventsTakeEffect_6 : (∃ (t : _) (x : _) (s : State), t < 256 ∧ x = tribOf s t ∧ trbOn s t = true ∧
  x.aligned = true ∧ frameBits s t ≤ x.buf.length ∧ trbType s t = 2 ∧ x.slip.length < 2) :=
  ⟨255, { Trib.init with aligned := true, buf := List.replicate 193 false }, withTrib 2
    { Trib.init with aligned := true, buf := List.replicate 193 false }, (by decide +kernel), (by decide +kernel),
    (by decide +kernel), (by decide +kernel), (by decide +kernel), (by decide +kernel), (by decide +kernel)⟩

theorem witness_HighwayAndTributaryEventsTakeEffect_7 : (∃ (t : _) (x : _) (s : State), t < 256 ∧ x = tribOf s t ∧ trbOn s t = true ∧
  x.aligned = true ∧ frameBits s t ≤ x.buf.length ∧ trbType s t ≠ 2 ∧ x.slip.length < 2) :=
  ⟨255, { Trib.init with aligned := true, buf := List.replicate 256 false }, withTrib 1
    { Trib.init with aligned := true, buf := List.replicate 256 false }, (by decide +kernel), (by decide +kernel),
    (by decide +kernel), (by decide +kernel), (by decide +kernel), (by decide +kernel), (by decide +kernel)⟩

theorem witness_HighwayAndTributaryEventsTakeEffect_8 : (∃ (t : _) (q : List (Nat × Nat)) (s : State), t < 256 ∧ trbOn s t = true ∧
  (tribOf s t).aligned = false ∧ hwyMask (hwyOf s (t / 32)) = 0 ∧ trbType s t = 2 ∧ (List.range 772).filterMap (fun p => (candT1
  (tribOf s t).abs (tribOf s t).buf p).map (fun o => (p, o))) = q) :=
  ⟨255, [], withTrib 2 Trib.init, (by decide +kernel), (by decide +kernel), (by decide +kernel), (by decide +kernel),
    (by decide +kernel), (by decide +kernel)⟩

theorem witness_HighwayAndTributaryEventsTakeEffect_9 : (∃ (t : _) (q : List Nat) (c : Nat → Cand) (d : Nat → Nat) (s : State), t <
  256 ∧ trbOn s t = true ∧ (tribOf s t).aligned = false ∧ hwyMask (hwyOf s (t / 32)) = 0 ∧ trbType s t ≠ 2 ∧ c = candE1 (trbType s t
  == 0) (tribOf s t).abs (tribOf s t).buf ∧ (List.range 512).filter (fun p => candOk (trbType s t == 0) (c p)) = q ∧ d = (fun p => (p
  + 512 - (tribOf s t).abs % 512) % 512)) :=
  ⟨255, [], _, _, withTrib 1 Trib.init, (by decide +kernel), (by decide +kernel), (by decide +kernel), (by decide +kernel),
    (by decide +kernel), rfl, (by decide +kernel), rfl⟩

theorem witness_HighwayAndTributaryEventsTakeEffect_10 : (∃ (t : _) (d : _) (on : _) (s : State), t < 256 ∧ d < 5 ∧ trbOn s t = true ∧
  hwyMask (hwyOf s (t / 32)) = 0 ∧ defectDue s t d on = true) :=
  ⟨255, 4, true, withTrib 1 { Trib.init with hist := { TribHist.init with losEver := true } }, (by decide +kernel),
    (by decide +kernel), (by decide +kernel), (by decide +kernel), (by decide +kernel)⟩

theorem witness_HighwayAndTributaryEventsTakeEffect_11 : (∃ (lanes : _) (skew : _) (errs : _) (s : State), lanes < 256 ∧ skew ≤ 16 ∧
  errs < 2 ^ 21 ∧ oldRuns s = true) :=
  ⟨255, 16, 3, linked .configure, (by decide +kernel), (by decide +kernel), (by decide +kernel), (by decide +kernel)⟩

theorem witness_BundlesAndPerformanceBinsTakeEffect : (∃ (b : _) (x : _) (s : State), b < 1024 ∧ x = bunOf s b ∧ traffic s = true ∧
  x.active = true ∧ bcDir x.cfg = 0 ∧ x.takes.length = bcPeriod x.cfg ∧ (now s).toNat % bcPeriod x.cfg = (bcPhase x.cfg + bcPeriod
  x.cfg - 1) % bcPeriod x.cfg) ∧ (∃ (b : _) (x : _) (t0 : _) (s : State), b < 1024 ∧ x = bunOf s b ∧ t0 = now s + 1 - wd (bcK x.cfg) ∧
  x.active = true ∧ bcDir x.cfg = 1 ∧ x.synced = true ∧ s.dev.mode ≠ .drain ∧ t0.toNat % bcPeriod x.cfg = bcPhase x.cfg ∧ x.held.any
  (fun h => h.tick == t0) = false ∧ x.lost.contains t0 = false) ∧ (∃ (bs : _) (p : _) (b : _) (t0 : _) (x : _) (u : _) (s : State),
  oldReceive 3 bs s = (some p, u) ∧ b = beAt p 0 2 ∧ t0 = wd (beAt p 2 4) ∧ x = bunOf u b ∧ s.dev.mode = .twinEmit ∧ x.active = true ∧
  bcDir x.cfg = 1 ∧ bunTimely u x t0 false = none) ∧ (∃ (bs : _) (p : _) (b : _) (t0 : _) (x : _) (u : _) (r : _) (o : _) (s : State),
  oldReceive 3 bs s = (some p, u) ∧ b = beAt p 0 2 ∧ t0 = wd (beAt p 2 4) ∧ x = bunOf u b ∧ s.dev.mode = .twinEmit ∧ x.active = true ∧
  bcDir x.cfg = 1 ∧ bunTimely u x t0 false = some (r, o)) ∧ (∃ (e : _) (x : _) (r : _) (s : State), e < 1280 ∧ (tribOf s e).secs = x
  :: r ∧ trbOn s e = true ∧ x.sec + 11 ≤ utcSec s s.time.mer ∧ bit (getReg s (ra (pg .pmb) 0x100)) 31 = false) ∧ (∃ (e : _) (x : _) (r
  : _) (t : _) (u : _) (q : _) (s : State), e < 1280 ∧ tribOf s e = t ∧ t.secs = x :: r ∧ trbOn s e = true ∧ x.sec + 11 ≤ utcSec s
  s.time.mer ∧ bit (getReg s (ra (pg .pmb) 0x100)) 31 = true ∧ q = x.sec / 900 ∧ ((q = s.pmb.qh ∨ ∃ c ∈ s.pmb.closing, c.q = q)) ∧ u =
  (if t.unavail then !(decide (((x :: r).take 10).length = 10) && ((x :: r).take 10).all (fun y => !isSes (trbType s e) y)) else
  decide (((x :: r).take 10).length = 10) && ((x :: r).take 10).all (isSes (trbType s e)))) ∧ (∃ (c : _) (r : _) (s : State),
  s.pmb.closing = c :: r ∧ isDue (now s) c.at_ = true) :=
  ⟨⟨1023, { Bun.init with active := true, cfg := (List.replicate 8 0).set 0 0, takes := [{ bytes := [], status := [] }] },
  { inMode .solo with buns := [(1023, { Bun.init with active := true, cfg := (List.replicate 8 0).set 0 0, takes := [{ bytes := [], status := [] }] })] },
  (by decide +kernel), (by decide +kernel), (by decide +kernel), (by decide +kernel), (by decide +kernel), (by decide +kernel),
  (by decide +kernel)⟩,
   ⟨1023, { Bun.init with active := true, cfg := (List.replicate 8 0).set 0 0x40000000, synced := true }, 1,
  { inMode .solo with buns := [(1023, { Bun.init with active := true, cfg := (List.replicate 8 0).set 0 0x40000000, synced := true })] },
  (by decide +kernel), (by decide +kernel), (by decide +kernel), (by decide +kernel), (by decide +kernel), (by decide +kernel),
  (by decide +kernel), (by decide +kernel), (by decide +kernel), (by decide +kernel)⟩,
   ⟨msg 3 [3, 255, 0, 0, 0, 0, 0], (rcv 3 [3, 255, 0, 0, 0, 0, 0]
  { linked .twinEmit with buns := [(1023, { Bun.init with active := true, cfg := (List.replicate 8 0).set 0 0x40000000, synced := true })] }).1.getD
  [], 1023, 0, { Bun.init with active := true, cfg := (List.replicate 8 0).set 0 0x40000000, synced := true }, (rcv 3 [3, 255, 0, 0,
  0, 0, 0]
  { linked .twinEmit with buns := [(1023, { Bun.init with active := true, cfg := (List.replicate 8 0).set 0 0x40000000, synced := true })] }).2,
  { linked .twinEmit with buns := [(1023, { Bun.init with active := true, cfg := (List.replicate 8 0).set 0 0x40000000, synced := true })] },
  (by decide +kernel), (by decide +kernel), (by decide +kernel), (by decide +kernel), (by decide +kernel), (by decide +kernel),
  (by decide +kernel), (by decide +kernel)⟩,
   ⟨msg 3 [3, 255, 0, 0, 0, 0, 0], (rcv 3 [3, 255, 0, 0, 0, 0, 0]
  { linked .twinEmit with buns := [(1023, { Bun.init with active := true, cfg := (List.replicate 8 0).set 0 0x40000000, synced := true, done := [0] })] }).1.getD
  [], 1023, 0, { Bun.init with active := true, cfg := (List.replicate 8 0).set 0 0x40000000, synced := true, done := [0] }, (rcv 3 [3,
  255, 0, 0, 0, 0, 0]
  { linked .twinEmit with buns := [(1023, { Bun.init with active := true, cfg := (List.replicate 8 0).set 0 0x40000000, synced := true, done := [0] })] }).2,
  0x63, 0x230,
  { linked .twinEmit with buns := [(1023, { Bun.init with active := true, cfg := (List.replicate 8 0).set 0 0x40000000, synced := true, done := [0] })] },
  (by decide +kernel), (by decide +kernel), (by decide +kernel), (by decide +kernel), (by decide +kernel), (by decide +kernel),
  (by decide +kernel), (by decide +kernel)⟩,
   ⟨255, { sec := 0, blocks := 0, sf := false }, [],
  { withTrib 1 { Trib.init with secs := [{ sec := 0, blocks := 0, sf := false }] } with time := (inMode .solo 88000).time },
  (by decide +kernel), (by decide +kernel), (by decide +kernel), (by decide +kernel), (by decide +kernel)⟩,
   ⟨255, { sec := 0, blocks := 0, sf := false }, [], { Trib.init with secs := [{ sec := 0, blocks := 0, sf := false }] }, _, 0, put
  { withTrib 1 { Trib.init with secs := [{ sec := 0, blocks := 0, sf := false }] } with time := (inMode .solo 88000).time } (ra (pg
  .pmb) 0x100) 0x80000000, (by decide +kernel), (by decide +kernel), (by decide +kernel), (by decide +kernel), (by decide +kernel),
  (by decide +kernel), (by decide +kernel), (by decide +kernel), rfl⟩,
   ⟨{ q := 0, start := 0, at_ := 8, suspect := false, bins := [] }, [],
  { inMode .solo 8 with pmb := { State.reset.pmb with closing := [{ q := 0, start := 0, at_ := 8, suspect := false, bins := [] }] } },
  (by decide +kernel), (by decide +kernel)⟩⟩

theorem witness_HeartbeatsAndDigestsCrossTheLink : (∃ (bs : _) (clk : _) (p : _) (t : _) (s : State), (Instr.heartbeatRx bs clk).wf =
  true ∧ oldReceive 1 bs (advanceTo clk s) = (some p, t) ∧ p.length = 27 ∧ heartbeatTimely t (wd (beAt p 2 4)) = true) ∧ (∃ (p : Nat)
  (t : State) (c : Cut) (s : State), p < 16 ∧ s.dev.mode = .twinEmit ∧ twinId s = 0 ∧ s.time.clk ≤ 180000 ∧ t = advanceTo 180000 s ∧
  t.twin.items.filter (fun x => x.port == p) = [] ∧ c = { tick := now t, port := p, last := none, rxAt := 0 }) ∧ (∃ (p : Nat) (x : _)
  (t : State) (c : Cut) (s : State), p < 16 ∧ s.dev.mode = .twinEmit ∧ twinId s = 0 ∧ s.time.clk ≤ 180000 ∧ t = advanceTo 180000 s ∧
  (t.twin.items.filter (fun x => x.port == p)).getLast? = some x ∧ c =
  { tick := now t, port := p, last := some (x.sa, x.field), rxAt := x.rxAt }) ∧ (∃ (bs : _) (p : _) (t : State) (c : Cut) (s : State),
  s.dev.mode = .twinEmit ∧ oldReceive 2 bs s = (some p, t) ∧ byteAt p 5 = 1 ∧ c =
  { tick := wd (beAt p 0 4), port := (byteAt p 4).toNat, last := some (beAt p 6 3, beAt p 9 8), rxAt := beAt p 17 16 } ∧ (cutTake c
  (skewTake c t)).1 = true) ∧ (∃ (bs : _) (p : _) (a : _) (t : _) (s : State), s.dev.mode = .twinEmit ∧ oldReceive 4 bs s = (some p,
  t) ∧ t.twin.own.find? (fun d => d.tick == (digestOf p).tick) = some a ∧ t.twin.peer.any (fun d => d.tick == (digestOf p).tick) =
  false) :=
  ⟨⟨msg 1 (zeros 27), 0, (rcv 1 (zeros 27) (advanceTo 0 (linked .twinEmit))).1.getD [], (rcv 1 (zeros 27) (advanceTo 0 (linked
  .twinEmit))).2, (linked .twinEmit), (by decide +kernel), (by decide +kernel), (by decide +kernel), (by decide +kernel)⟩,
   ⟨15, advanceTo 180000 (linked .twinEmit), _, (linked .twinEmit), (by decide +kernel), (by decide +kernel), (by decide +kernel),
  (by decide +kernel), rfl, (by decide +kernel), rfl⟩,
   ⟨15, { port := 15, sa := 0, field := 0, entry := 0, h := 0, rxAt := 0 }, _, _, cutState, (by decide +kernel), (by decide +kernel),
  (by decide +kernel), (by decide +kernel), rfl, (by decide +kernel), rfl⟩,
   ⟨msg 2 (zeros 4 ++ [15, 1] ++ zeros 27), (rcv 2 (zeros 4 ++ [15, 1] ++ zeros 27) cutState).1.getD [], (rcv 2 (zeros 4 ++ [15, 1] ++
  zeros 27) cutState).2, _, cutState, (by decide +kernel), (by decide +kernel), (by decide +kernel), rfl, (by decide +kernel)⟩,
   ⟨msg 4 (zeros 408), (rcv 4 (zeros 408) digestState).1.getD [], digestOf (zeros 408), (rcv 4 (zeros 408) digestState).2, digestState,
  (by decide +kernel), (by decide +kernel), (by decide +kernel), (by decide +kernel)⟩⟩

theorem witness_TickListsAndCheckpointsCrossTheLink : (∃ (bs : _) (p : _) (t : _) (s : State), s.dev.mode = .twinEmit ∧ oldReceive 5
  bs s = (some p, t) ∧ byteAt p 0 = 0 ∧ listOf t (wd (beAt p 1 4)) = none) ∧ (∃ (bs : _) (p : _) (l : _) (t : _) (s : State),
  s.dev.mode = .twinEmit ∧ oldReceive 5 bs s = (some p, t) ∧ byteAt p 0 = 1 ∧ listOf t (wd (beAt p 1 4)) = some l ∧ l.exclOwn = false)
  ∧ (∃ (bs : _) (p : _) (l : _) (t : _) (s : State), s.dev.mode = .twinEmit ∧ oldReceive 5 bs s = (some p, t) ∧ byteAt p 0 = 2 ∧
  listOf t (wd (beAt p 1 4)) = some l ∧ l.peer.isSome = true ∧ l.exclPeer = false) ∧ (∃ (l : _) (t : _) (s : State), s.dev.mode =
  .twinEmit ∧ s.time.clk ≤ 180000 ∧ t = advanceTo 180000 s ∧ listOf t (now t - 1) = some l ∧ l.acked = false ∧ l.exclOwn = false ∧
  ((l.exclPeer = true ∨ l.peer.isSome = true))) ∧ (∃ (l : _) (t : _) (s : State), s.dev.mode = .twinEmit ∧ s.time.clk ≤ 180000 ∧ t =
  advanceTo 180000 s ∧ listOf t (now t - 1) = some l ∧ l.acked = true ∧ l.exclPeer = false ∧ l.peer = none) ∧ (∃ (bs : _) (p : _) (t :
  _) (s : State), s.dev.mode = .twinEmit ∧ oldReceive 6 bs s = (some p, t) ∧ (byteAt p 0).toNat = 0) ∧ (∃ (bs : _) (p : _) (t : _) (s
  : State), s.dev.mode = .twinEmit ∧ oldReceive 6 bs s = (some p, t) ∧ (byteAt p 0).toNat = 1) ∧ (∃ (i : _) (s : State), i < 2 ^ 21 ∧
  s.dev.mode = .twinEmit ∧ (saOf s i).st = 1 ∧ (saOf s i).dir = 1 ∧ s.twin.checks.find? (fun c => c.1 == i) = none ∧ (saOf s i).ledger
  ≠ 0) ∧ (∃ (i : _) (v : _) (t : _) (s : State), i < 2 ^ 21 ∧ s.dev.mode = .twinEmit ∧ (saOf s i).st = 1 ∧ (saOf s i).dir = 1 ∧
  s.twin.checks.find? (fun c => c.1 == i) = some (i, v, t) ∧ v ≠ (saOf s i).ledger ∧ 256 ≤ tdiff (now s) t) :=
  ⟨⟨msg 5 (zeros 5), (rcv 5 (zeros 5) (linked .twinEmit)).1.getD [], (rcv 5 (zeros 5) (linked .twinEmit)).2, (linked .twinEmit),
  (by decide +kernel), (by decide +kernel), (by decide +kernel), (by decide +kernel)⟩,
   ⟨msg 5 (1 :: beBytes 4 3), (rcv 5 (1 :: beBytes 4 3)
  { linked .twinEmit with twin := { State.reset.twin with lists := [lst 3 []] } }).1.getD [], lst 3 [], (rcv 5 (1 :: beBytes 4 3)
  { linked .twinEmit with twin := { State.reset.twin with lists := [lst 3 []] } }).2,
  { linked .twinEmit with twin := { State.reset.twin with lists := [lst 3 []] } }, (by decide +kernel), (by decide +kernel),
  (by decide +kernel), (by decide +kernel), (by decide +kernel)⟩,
   ⟨msg 5 (2 :: beBytes 4 3), (rcv 5 (2 :: beBytes 4 3)
  { linked .twinEmit with twin := { State.reset.twin with lists := [{ lst 3 [] with exclPeer := false, peer := some [] }] } }).1.getD
  [], { lst 3 [] with exclPeer := false, peer := some [] }, (rcv 5 (2 :: beBytes 4 3)
  { linked .twinEmit with twin := { State.reset.twin with lists := [{ lst 3 [] with exclPeer := false, peer := some [] }] } }).2,
  { linked .twinEmit with twin := { State.reset.twin with lists := [{ lst 3 [] with exclPeer := false, peer := some [] }] } },
  (by decide +kernel), (by decide +kernel), (by decide +kernel), (by decide +kernel), (by decide +kernel), (by decide +kernel)⟩,
   ⟨lst 0xFFFFFFFF [.renew none 1], _,
  { linked .twinEmit with twin := { State.reset.twin with lists := [lst 0xFFFFFFFF [.renew none 1]] } }, (by decide +kernel),
  (by decide +kernel), rfl, (by decide +kernel), (by decide +kernel), (by decide +kernel), (by decide +kernel)⟩,
   ⟨{ lst 0xFFFFFFFF [] with exclPeer := false, acked := true }, _,
  { linked .twinEmit with twin := { State.reset.twin with lists := [{ lst 0xFFFFFFFF [] with exclPeer := false, acked := true }] } },
  (by decide +kernel), (by decide +kernel), rfl, (by decide +kernel), (by decide +kernel), (by decide +kernel), (by decide +kernel)⟩,
   ⟨msg 6 (zeros 10), (rcv 6 (zeros 10) (linked .twinEmit)).1.getD [], (rcv 6 (zeros 10) (linked .twinEmit)).2, (linked .twinEmit),
  (by decide +kernel), (by decide +kernel), (by decide +kernel)⟩,
   ⟨msg 6 (1 :: zeros 12), (rcv 6 (1 :: zeros 12) (linked .twinEmit)).1.getD [], (rcv 6 (1 :: zeros 12) (linked .twinEmit)).2, (linked
  .twinEmit), (by decide +kernel), (by decide +kernel), (by decide +kernel)⟩,
   ⟨5,
  { withSas (linked .twinEmit) with orb := { (withSas (inMode .solo)).orb with sas := [(5, { SaEntry.free with st := 1, dir := 1, ledger := 9, record := List.replicate 64 0 })] } },
  (by decide +kernel), (by decide +kernel), (by decide +kernel), (by decide +kernel), (by decide +kernel), (by decide +kernel)⟩,
   ⟨5, 8, 0,
  { withSas (linked .twinEmit 256) with orb := { (withSas (inMode .solo)).orb with sas := [(5, { SaEntry.free with st := 1, dir := 1, ledger := 9, record := List.replicate 64 0 })] }, twin := { State.reset.twin with checks := [(5, 8, 0)] } },
  (by decide +kernel), (by decide +kernel), (by decide +kernel), (by decide +kernel), (by decide +kernel), (by decide +kernel),
  (by decide +kernel)⟩⟩

theorem witness_TwinChecksAndDeadlinesTakeEffect : (∃ (bs : _) (p : _) (t : _) (s : State), oldReceive 7 bs s = (some p, t) ∧
  t.dev.mode = .twinEmit ∧ byteAt p 0 = 0) ∧ (∃ (bs : _) (p : _) (t : _) (s : State), oldReceive 7 bs s = (some p, t) ∧ t.dev.mode =
  .twinEmit ∧ byteAt p 0 = 1) ∧ (∃ (k : _) (s : State), k < 16 ∧ s.dev.mode = .twinEmit ∧ (now s).toNat % 8 = 0 ∧ s.rng.st ≠ 2 ∧
  s.twin.cross = none ∧ (occulting s 0).isSome = true) ∧ (∃ (bs : _) (p : _) (c : _) (t : _) (s : State), s.dev.mode = .twinEmit ∧
  oldReceive 8 bs s = (some p, t) ∧ byteAt p 0 = 1 ∧ t.twin.cross = some c ∧ c.tick.toNat = beAt p 1 4 ∧ slice p 5 80 = c.want) ∧ (∃
  (t : _) (s : State), s.twin.selfStart = some t ∧ s.twin.disState = 1 ∧ s.twin.selfDone = false ∧ 15 ≤ tdiff (now s) t) ∧ (∃ (t : _)
  (s : State), s.twin.waitFrom = some t ∧ s.dev.mode = .twinEmit ∧ s.twin.disState = 2 ∧ regFld s (ra (pg .twn) 0x100) 15 0 ≠ 0 ∧
  regFld s (ra (pg .twn) 0x100) 15 0 ≤ tdiff (now s) t) ∧ (∃ (s : State), s.twin.alignFixed = true ∧ isDue (now s) (s.twin.alignTick -
  130) = true) ∧ (∃ (s : State), s.twin.alignFixed = true ∧ now s = s.twin.alignTick ∧ s.dev.mode = .twinHold ∧ peerReady s = false) ∧
  (∃ (s : State), s.twin.alignFixed = true ∧ now s = s.twin.alignTick ∧ ((s.dev.mode = .twinJoin ∨ (s.dev.mode = .twinHold ∧ peerReady
  s = true)))) ∧ (∃ (s : State), s.dev.mode = .twinEmit ∧ 8 ≤ s.twin.fpDiff) :=
  ⟨⟨msg 7 ([0]), (rcv 7 ([0]) (linked .twinEmit)).1.getD [], (rcv 7 ([0]) (linked .twinEmit)).2, (linked .twinEmit), (by decide +kernel),
  (by decide +kernel), (by decide +kernel)⟩,
   ⟨msg 7 ([1, 1]), (rcv 7 ([1, 1]) (linked .twinEmit)).1.getD [], (rcv 7 ([1, 1]) (linked .twinEmit)).2, (linked .twinEmit),
  (by decide +kernel), (by decide +kernel), (by decide +kernel)⟩,
   ⟨15, { linked .twinEmit with pipes := List.replicate 42 { Pipe.init with role := 1 } }, (by decide +kernel), (by decide +kernel),
  (by decide +kernel), (by decide +kernel), (by decide +kernel), (by decide +kernel)⟩,
   ⟨msg 8 (1 :: zeros 84), (rcv 8 (1 :: zeros 84)
  { linked .twinEmit with twin := { State.reset.twin with cross := some { tick := 0, want := zeros 80 } } }).1.getD [],
  { tick := 0, want := zeros 80 }, (rcv 8 (1 :: zeros 84)
  { linked .twinEmit with twin := { State.reset.twin with cross := some { tick := 0, want := zeros 80 } } }).2,
  { linked .twinEmit with twin := { State.reset.twin with cross := some { tick := 0, want := zeros 80 } } }, (by decide +kernel),
  (by decide +kernel), (by decide +kernel), (by decide +kernel), (by decide +kernel), (by decide +kernel)⟩,
   ⟨0, { inMode .twinEmit 15 with twin := { State.reset.twin with selfStart := some 0, disState := 1 } }, (by decide +kernel),
  (by decide +kernel), (by decide +kernel), (by decide +kernel)⟩,
   ⟨0, (put { inMode .twinEmit 100 with twin := { State.reset.twin with waitFrom := some 0, disState := 2 } } (ra (pg .twn) 0x100) 100),
  (by decide +kernel), (by decide +kernel), (by decide +kernel), (by decide +kernel), (by decide +kernel)⟩,
   ⟨{ inMode .twinEmit 100 with twin := { State.reset.twin with alignFixed := true, alignTick := 230 } }, (by decide +kernel),
  (by decide +kernel)⟩,
   ⟨{ inMode .twinHold 100 with twin := { State.reset.twin with alignFixed := true, alignTick := 100 } }, (by decide +kernel),
  (by decide +kernel), (by decide +kernel), (by decide +kernel)⟩,
   ⟨{ inMode .twinJoin 100 with twin := { State.reset.twin with alignFixed := true, alignTick := 100 } }, (by decide +kernel),
  (by decide +kernel), (by decide +kernel)⟩,
   ⟨{ inMode .twinEmit with twin := { State.reset.twin with fpDiff := 8 } }, (by decide +kernel), (by decide +kernel)⟩⟩

theorem witness_JoiningTwinTakesItsCopy : (∃ (bs : _) (p : _) (it : _) (n : _) (t : _) (s : State), twinMode s = true ∧ oldReceive 9
  bs s = (some p, t) ∧ (byteAt p 0).toNat = 2 ∧ t.dev.mode = .twinJoin ∧ 2 ≤ t.twin.joinPhase ∧ itemOf t (p.drop 1) = some (it, n)) ∧
  (∃ (v : _) (qx : _) (qy : _) (id : _) (nonce : _) (s : State), (Instr.joinTrust v qx qy id nonce).wf = true ∧ s.dev.mode = .twinJoin
  ∧ s.twin.joinPhase = 1 ∧ ((v = false ∨ onCurve p384 qx qy = false))) ∧ (∃ (qx : _) (qy : _) (id : _) (nonce : _) (s : State),
  (Instr.joinTrust true qx qy id nonce).wf = true ∧ s.dev.mode = .twinEmit ∧ s.twin.peerPhase = 1 ∧ twinId s = 0 ∧ onCurve p384 qx qy
  = true ∧ s.rng.st ≠ 2) ∧ (∃ (qx : _) (qy : _) (id : _) (nonce : _) (s : State), (Instr.joinTrust true qx qy id nonce).wf = true ∧
  s.dev.mode = .twinJoin ∧ s.twin.joinPhase = 1 ∧ twinId s ≠ 0 ∧ onCurve p384 qx qy = true ∧ s.rng.st ≠ 2) ∧ (∃ (s : State),
  s.dev.mode = .twinJoin ∧ s.twin.joinPhase = 2 ∧ s.twin.bulkDone = true ∧ s.twin.peerFp = some s.twin.ownFp) ∧ (∃ (s : State),
  s.dev.mode = .twinJoin ∧ 3 ≤ s.twin.notEmit) ∧ (∃ (n : _) (c : _) (s : State), (Instr.mkaNewSak (.fail n)).wf = true ∧ mkaActs s =
  true ∧ mkaOf s n = some c) ∧ (∃ (n : _) (c : _) (p : _) (s : State), (Instr.mkaNewSak (.reported n)).wf = true ∧ mkaActs s = true ∧
  mkaOf s n = some c ∧ c.announced = true ∧ c.switchAt = none ∧ c.peers.any (fun p => !p.floorDone) = false ∧ p = now s + wd (regFld s
  (ra (pg .ecl) 0x108) 15 0)) :=
  ⟨⟨msg 9 ([2, 6, 1]), (rcv 9 [2, 6, 1] { linked .twinJoin with twin := { State.reset.twin with joinPhase := 2 } }).1.getD [], .renew
  none 1, 2, (rcv 9 [2, 6, 1] { linked .twinJoin with twin := { State.reset.twin with joinPhase := 2 } }).2,
  { linked .twinJoin with twin := { State.reset.twin with joinPhase := 2 } }, (by decide +kernel), (by decide +kernel),
  (by decide +kernel), (by decide +kernel), (by decide +kernel), (by decide +kernel)⟩,
   ⟨false, 0, 0, 0, zeros 32, { inMode .twinJoin with twin := { State.reset.twin with joinPhase := 1 } }, (by decide +kernel),
  (by decide +kernel), (by decide +kernel), (by decide +kernel)⟩,
   ⟨p384.gx, p384.gy, 0, zeros 32, { inMode .twinEmit with twin := { State.reset.twin with peerPhase := 1 } }, (by decide +kernel),
  (by decide +kernel), (by decide +kernel), (by decide +kernel), (by decide +kernel), (by decide +kernel)⟩,
   ⟨p384.gx, p384.gy, 0, zeros 32,
  { inMode .twinJoin with dev := { (inMode .twinJoin).dev with strap := 2 }, twin := { State.reset.twin with joinPhase := 1 } },
  (by decide +kernel), (by decide +kernel), (by decide +kernel), (by decide +kernel), (by decide +kernel), (by decide +kernel)⟩,
   ⟨{ inMode .twinJoin with twin := { State.reset.twin with joinPhase := 2, bulkDone := true, peerFp := some 0 } }, (by decide +kernel),
  (by decide +kernel), (by decide +kernel), (by decide +kernel)⟩,
   ⟨{ inMode .twinJoin with twin := { State.reset.twin with notEmit := 3 } }, (by decide +kernel), (by decide +kernel)⟩,
   ⟨4, mka, { inMode .configure with ecl := { State.reset.ecl with mka := [mka] } }, (by decide +kernel), (by decide +kernel),
  (by decide +kernel)⟩,
   ⟨4, mka, _, { inMode .configure with ecl := { State.reset.ecl with mka := [mka] } }, (by decide +kernel), (by decide +kernel),
  (by decide +kernel), (by decide +kernel), (by decide +kernel), (by decide +kernel), rfl⟩⟩

theorem witness_ChoresCommitInOrder : (∃ (clk : _) (c : _) (r : _) (s : State) (t : _), clk < 2 ^ 18 ∧ t = advanceTo clk s ∧
  s.grt.queue = c :: r ∧ t.grt.queue = c :: r ∧ t.time.run = true ∧ t.grt.stop = false ∧ clk ≤ 179999 ∧ t.time.clk ≤ 179999 ∧
  budgetLeft t (choreKind c.body) = false) ∧ (∃ (clk : _) (c : _) (r : _) (s : State) (t : _) (u : _) (st : _), clk < 2 ^ 18 ∧ t =
  advanceTo clk s ∧ s.grt.queue = c :: r ∧ t.grt.queue = c :: r ∧ t.time.run = true ∧ t.grt.stop = false ∧ clk ≤ 179999 ∧ t.time.clk ≤
  179999 ∧ budgetLeft t (choreKind c.body) = true ∧ choreBody c.body t = .take st u) ∧ (∃ (k : _) (a : _) (s : State),
  (Instr.agentChoreItem k a).wf = true ∧ (agentOf s k).isSome = true ∧ modeIn [.configure, .solo, .twinEmit, .twinHold] s = true) :=
  ⟨⟨179999, chore (.erase 3), [], { inMode .solo with grt := { State.reset.grt with queue := [chore (.erase 3)], sa := 1024 } }, _,
  (by decide +kernel), rfl, (by decide +kernel), (by decide +kernel), (by decide +kernel), (by decide +kernel), (by decide +kernel),
  (by decide +kernel), (by decide +kernel)⟩,
   ⟨179999, chore (.erase 3), [], choreState, _, erased 3 (advanceTo 179999 choreState), .ok, (by decide +kernel), rfl,
  (by decide +kernel), (by decide +kernel), (by decide +kernel), (by decide +kernel), (by decide +kernel), (by decide +kernel),
  (by decide +kernel), (erase_live _ _ (by decide +kernel))⟩,
   ⟨4, { op := 0, kind := 0, port := 3, age := false, action := 0, cls := 0, sa := 0, key := 5 }, (inMode .configure),
  (by decide +kernel), (by decide +kernel), (by decide +kernel)⟩⟩

theorem witness_TickBoundaryRunsItsActionsInOrder : (∃ (s : State), s.time.run = true) ∧ (∃ (s : State), s.time.run = false) :=
  ⟨⟨(inMode .solo), (by decide +kernel)⟩,
   ⟨State.reset, (by decide +kernel)⟩⟩

theorem witness_DrainLimitEndsWhatIsInFlight : (∃ (s : State) (f : _) (k : _) (c : _) (t : _), s.dev.mode = .drain ∧ 64 ≤
  s.dev.drainTicks ∧ f = ((reap s).frames.list.filter (fun f => f.kind != .control)).foldl (fun s f => endBad f 0x2A 0 s) (reap s) ∧ k
  = (f.pke.jobs.map (·.area)).foldl (fun s a => zeroArea a s) (f.pke.jobs.foldl (pkeKill 0x2A) f) ∧ c = commitEnds
  { k with pke := { k.pke with jobs := [] }, grt := { k.grt with queue := [] }, maps := [], alm := { k.alm with ords := [] }, swp := { k.swp with survey := k.swp.survey.filter (fun v => v.ord.isNone) }, mer := { k.mer with step := [] }, twin := { k.twin with lists := [], alignReq := false, alignFixed := false, alignOrd := none } }
  ∧ t = c.ords.outs.foldl (fun s o => if o.op = 0x48 then endOrder o.id .aborted 0x12 s else abortOrder o.id 0x2A s) c) ∧ (∃ (s :
  State), ((s.dev.mode ≠ .drain ∨ s.dev.drainTicks < 64))) :=
  ⟨⟨{ inMode .drain with dev := { (inMode .drain).dev with drainTicks := 64 } }, _, _, _, _, (by decide +kernel), (by decide +kernel),
  rfl, rfl, rfl, rfl⟩,
   ⟨{ inMode .drain with dev := { (inMode .drain).dev with drainTicks := 63 } }, (by decide +kernel)⟩⟩

theorem witness_SweepsAndSurveysRun : (∃ (fs : _) (t : _) (u : _) (s : State), s.time.run = true ∧ s.time.clk ≤ 180000 ∧ t = advanceTo
  180000 s ∧ t.time.clk = 180000 ∧ t.twin.alignFixed = false ∧ u = ((List.range 16).filter (fun c => (almOf t c).wrote.isNone)).foldl
  (almWriteOne fs) t) ∧ (∃ (t : _) (s : State), s.time.run = true ∧ s.time.clk ≤ 180000 ∧ t = advanceTo 180000 s ∧ t.time.clk = 180000
  ∧ t.twin.alignFixed = true ∧ now t + 1 = t.twin.alignTick) ∧ (∃ (n : _) (s : State), n < 2 ^ 21 ∧ (now s).toNat % 128 * 16384 ≤ n ∧
  n < (now s).toNat % 128 * 16384 + 16384 ∧ s.swp.visited ≤ n) ∧ (∃ (n : _) (s : State), n < 2 ^ 21 ∧ (now s).toNat % 128 * 16384 ≤ n
  ∧ n < (now s).toNat % 128 * 16384 + 16384 ∧ s.swp.visited ≤ n) ∧ (∃ (v : _) (s : State), s.swp.survey = some v ∧ v.active = true ∧
  v.next < v.count ∧ v.doneTick ≠ some (now s)) ∧ (∃ (n : _) (x : _) (b : _) (t : _) (y : _) (s : State), n < 2 ^ 21 ∧
  s.swp.recheck.find? (fun x => x.1 == n && isDue (now s) x.2.2) = some x ∧ readBar2 .record (x.2.1 + 32 * n) 32
  { s with swp := { s.swp with recheck := s.swp.recheck.erase x } } = (some b, t) ∧ shadowValid b = true ∧ shadowCompare t b = some y)
  ∧ (∃ (n : _) (x : _) (b : _) (t : _) (s : State), n < 2 ^ 21 ∧ s.swp.recheck.find? (fun x => x.1 == n && isDue (now s) x.2.2) = some
  x ∧ readBar2 .record (x.2.1 + 32 * n) 32 { s with swp := { s.swp with recheck := s.swp.recheck.erase x } } = (some b, t) ∧
  shadowValid b = true ∧ shadowCompare t b = none) ∧ (∃ (v : _) (s : State), s.swp.survey = some v ∧ v.active = true ∧ v.count ≤
  v.next ∧ v.rep = false) :=
  ⟨⟨[], _, _, (inMode .solo), (by decide +kernel), (by decide +kernel), rfl, (by decide +kernel), (by decide +kernel), rfl⟩,
   ⟨_, { inMode .solo with twin := { State.reset.twin with alignFixed := true, alignTick := 1 } }, (by decide +kernel),
  (by decide +kernel), rfl, (by decide +kernel), (by decide +kernel), rfl⟩,
   ⟨0, (inMode .solo), (by decide +kernel), (by decide +kernel), (by decide +kernel), (by decide +kernel)⟩,
   ⟨0, (inMode .solo), (by decide +kernel), (by decide +kernel), (by decide +kernel), (by decide +kernel)⟩,
   ⟨survey, { inMode .solo with swp := { State.reset.swp with survey := some survey } }, (by decide +kernel), (by decide +kernel),
  (by decide +kernel), (by decide +kernel)⟩,
   ⟨1, (1, 0, 0), (again missing (inMode .solo)).1.getD [], (again missing (inMode .solo)).2, 1, recheckState missing (inMode .solo),
  (by decide +kernel), (by decide +kernel), (by decide +kernel), (by decide +kernel), (by decide +kernel)⟩,
   ⟨1, (1, 0, 0), (again matching gazState).1.getD [], (again matching gazState).2, recheckState matching gazState, (by decide +kernel),
  (by decide +kernel), (by decide +kernel), (by decide +kernel), (by decide +kernel)⟩,
   ⟨{ survey with next := 3 }, { inMode .solo with swp := { State.reset.swp with survey := some { survey with next := 3 } } },
  (by decide +kernel), (by decide +kernel), (by decide +kernel), (by decide +kernel)⟩⟩

theorem witness_FirmwareSweepsAndRetrainingMoveOn : (∃ (o : _) (n : _) (x : _) (s : State), s.fwu.stage = some (o, n, x)) ∧ (∃ (c : _)
  (o : _) (n : _) (s : State), c < 64 ∧ s.fwu.act = some (o, n) ∧ s.fwu.phase = 2 ∧ agentOf s c = some 0 ∧ s.fwu.agent = 0) ∧ (∃ (c :
  _) (o : _) (n : _) (k : _) (s : State), c < 64 ∧ s.fwu.act = some (o, n) ∧ s.fwu.phase ≠ 4 ∧ agentOf s c = some k ∧ s.fwu.agent = k)
  ∧ (∃ (c : _) (o : _) (n : _) (s : State), c < 4 ∧ s.fwu.act = some (o, n) ∧ s.fwu.phase = 4) ∧ (∃ (fs : _) (o : _) (kek : _) (t : _)
  (s : State), s.sealPath.commitOrd = some o ∧ s.lun.kek = some kek ∧ t = (List.range 16).foldl (swept fs) s ∧
  (Instr.provisionSweepDone fs).wf = true) ∧ (∃ (k : _) (fs : _) (id : _) (s : State), (Instr.rekeyDone k fs).wf = true ∧
  s.sealPath.rekey = some (k, id)) ∧ (∃ (n : _), (Instr.segmentRewriteDone n).wf = true) ∧ (∃ (fs : _) (t : _) (s : State),
  (Instr.zeroizeSweepDone fs).wf = true ∧ s.dev.mode = .zeroized ∧ s.sealPath.changing = true ∧ t = [0, 3].foldl (sweptLines fs) s) ∧
  (∃ (c : _) (s : State), c < 8 ∧ (chanState s c).st = 2) ∧ (∃ (c : _) (s : State), c < 8 ∧ (chanState s c).st = 3) ∧ (∃ (c : _) (f :
  _) (s : State), c < 8 ∧ f < 6 ∧ (chanState s c).st = 3) ∧ (∃ (c : _) (s : State), c < 8 ∧ (chanState s c).st = 4) :=
  ⟨⟨0, 1, ⟨true, 0, 0, []⟩, { inMode .solo with fwu := { State.reset.fwu with stage := some (0, 1, ⟨true, 0, 0, []⟩) } },
  (by decide +kernel)⟩,
   ⟨4, 0, 1, { inMode .solo with fwu := { State.reset.fwu with act := some (0, 1), phase := 2 } }, (by decide +kernel),
  (by decide +kernel), (by decide +kernel), (by decide +kernel), (by decide +kernel)⟩,
   ⟨4, 0, 1, 0, { inMode .solo with fwu := { State.reset.fwu with act := some (0, 1), phase := 2 } }, (by decide +kernel),
  (by decide +kernel), (by decide +kernel), (by decide +kernel), (by decide +kernel)⟩,
   ⟨3, 0, 1, { inMode .solo with fwu := { State.reset.fwu with act := some (0, 1), phase := 4 } }, (by decide +kernel),
  (by decide +kernel), (by decide +kernel)⟩,
   ⟨[], 0, zeros 32, _, { provisioned with sealPath := { provisioned.sealPath with commitOrd := some 0 } }, (by decide +kernel),
  (by decide +kernel), rfl, (by decide +kernel)⟩,
   ⟨15, [], some 0, { inMode .solo with sealPath := { (inMode .solo).sealPath with rekey := some (15, some 0) } }, (by decide +kernel),
  (by decide +kernel)⟩,
   ⟨0, (by decide +kernel)⟩,
   ⟨[], _, { inMode .zeroized with sealPath := { (inMode .zeroized).sealPath with changing := true } }, (by decide +kernel),
  (by decide +kernel), (by decide +kernel), rfl⟩,
   ⟨7, { inMode .solo with chans := List.replicate 8 { Chan.init with st := 2 } }, (by decide +kernel), (by decide +kernel)⟩,
   ⟨7, { inMode .solo with chans := List.replicate 8 { Chan.init with st := 3 } }, (by decide +kernel), (by decide +kernel)⟩,
   ⟨0, 5, { inMode .solo with chans := List.replicate 8 { Chan.init with st := 3 } }, (by decide +kernel), (by decide +kernel),
  (by decide +kernel)⟩,
   ⟨7, { inMode .solo with chans := List.replicate 8 { Chan.init with st := 4 } }, (by decide +kernel), (by decide +kernel)⟩⟩

theorem witness_SealedAccessesGoThroughTheBoundary : (∃ (m : _) (a : _) (s : State) (l : _), (Instr.sealedRead m a 0 false).wf = true
  ∧ memUp m s = true ∧ sealTarget a = true ∧ segmentBusy s m a = false ∧ permitted s m .read a = true ∧ addrBad s a = false ∧ l = a %
  2 ^ 36 / 64 * 64 ∧ poisoned s l = false) ∧ (∃ (m : _) (a : _) (n : _) (b : _) (s : State), (Instr.sealedRead m a n b).wf = true ∧
  memUp m s = true ∧ sealTarget a = true ∧ segmentBusy s m a = false ∧ permitted s m .read a = false) ∧ (∃ (m : _) (a : _) (n : _) (b
  : _) (s : State), (Instr.sealedRead m a n b).wf = true ∧ memUp m s = true ∧ sealTarget a = true ∧ segmentBusy s m a = true) ∧ (∃ (m
  : _) (a : _) (bs : _) (s : State), (Instr.sealedWrite m a 0 bs false).wf = true ∧ memUp m s = true ∧ sealTarget a = true ∧
  segmentBusy s m a = false ∧ permitted s m .write a = true ∧ addrBad s a = false ∧ bs.length = 64 ∧ a % 64 = 0) ∧ (∃ (m : _) (a : _)
  (n : _) (bs : _) (b : _) (s : State), (Instr.sealedWrite m a n bs b).wf = true ∧ memUp m s = true ∧ sealTarget a = true ∧
  segmentBusy s m a = false ∧ permitted s m .write a = false) ∧ (∃ (m : _) (a : _) (n : _) (bs : _) (b : _) (s : State),
  (Instr.sealedWrite m a n bs b).wf = true ∧ memUp m s = true ∧ sealTarget a = true ∧ segmentBusy s m a = true) ∧ (∃ (m : _) (k : _)
  (a : _) (be : _) (n : _) (s : State), (Instr.boundaryCheck m k a ⟨0, be, n⟩).wf = true ∧ reachable m s = true ∧ permitted s m k a = true
  ∧ a / 2 ^ 36 % 256 = 0) ∧ (∃ (m : _) (k : _) (a : _) (be : _) (s : State), (Instr.boundaryCheck m k a ⟨0, be, 1⟩).wf = true ∧ k ≠ .write
  ∧ reachable m s = true ∧ permitted s m k a = true ∧ a / 2 ^ 36 % 256 = 0xF0 ∧ (pageAt (a % 2 ^ 24 / 4 * 4 / 0x1000)).isSome = true)
  ∧ (∃ (m : _) (k : _) (a : _) (x : _) (s : State), (Instr.boundaryCheck m k a x).wf = true ∧ reachable m s =
  true ∧ permitted s m k a = false) :=
  ⟨⟨.host, 4 * 2 ^ 44 + 0x38000000, (inMode .solo), 0x38000000, (by decide +kernel), (by decide +kernel), (by decide +kernel),
  (by decide +kernel), (by decide +kernel), (by decide +kernel), (by decide +kernel), (by decide +kernel)⟩,
   ⟨.debug, 4 * 2 ^ 44 + 0x38000000, 0, false, (inMode .solo), (by decide +kernel), (by decide +kernel), (by decide +kernel),
  (by decide +kernel), (by decide +kernel)⟩,
   ⟨.host, 4 * 2 ^ 44 + 0x38000000, 0, false, { inMode .solo with sealPath := { (inMode .solo).sealPath with rewriting := [0] } },
  (by decide +kernel), (by decide +kernel), (by decide +kernel), (by decide +kernel)⟩,
   ⟨.host, 4 * 2 ^ 44 + 0x38000000, zeros 64, (inMode .solo), (by decide +kernel), (by decide +kernel), (by decide +kernel),
  (by decide +kernel), (by decide +kernel), (by decide +kernel), (by decide +kernel), (by decide +kernel)⟩,
   ⟨.ucu, 4 * 2 ^ 44 + 0x38000000, 0, [], true, (inMode .solo), (by decide +kernel), (by decide +kernel), (by decide +kernel),
  (by decide +kernel), (by decide +kernel)⟩,
   ⟨.host, 4 * 2 ^ 44 + 0x38000000, 0, zeros 64, false,
  { inMode .solo with sealPath := { (inMode .solo).sealPath with rewriting := [0] } }, (by decide +kernel), (by decide +kernel),
  (by decide +kernel), (by decide +kernel)⟩,
   ⟨.host, .read, 4 * 2 ^ 44 + 0x38000000, 15, 1, (inMode .solo), (by decide +kernel), (by decide +kernel), (by decide +kernel),
  (by decide +kernel)⟩,
   ⟨.host, .read, 0xF0 * 2 ^ 36 + 0x1120, 15, (inMode .solo), (by decide +kernel), (by decide +kernel), (by decide +kernel),
  (by decide +kernel), (by decide +kernel), (by decide +kernel)⟩,
   ⟨.debug, .write, 4 * 2 ^ 44 + 0x38000000, ⟨0, 0, 1⟩, (inMode .solo), (by decide +kernel), (by decide +kernel), (by decide +kernel)⟩⟩

theorem witness_ScrubberAndEnginesFinishTheirWork : (∃ (p : _) (i : _) (s : State), p ≠ 4 ∧ (Instr.scrub p i true).wf = true ∧
  s.dev.mode ≠ .lunar ∧ s.dev.mode ≠ .reset) ∧ (∃ (i : _) (s : State), (Instr.scrub 4 i true).wf = true ∧ s.dev.mode ≠ .lunar ∧
  s.dev.mode ≠ .reset) ∧ (∃ (i : _) (s : State), (Instr.scrub 1 i false).wf = true ∧ s.dev.mode ≠ .lunar ∧ s.dev.mode ≠ .reset) ∧ (∃
  (i : _) (s : State), (Instr.scrub 2 i false).wf = true ∧ s.dev.mode ≠ .lunar ∧ s.dev.mode ≠ .reset) ∧ (∃ (i : _) (s : State),
  (Instr.scrub 4 i false).wf = true ∧ s.dev.mode ≠ .lunar ∧ s.dev.mode ≠ .reset) ∧ (∃ (i : _) (s : State), (Instr.scrub 5 i false).wf
  = true ∧ s.dev.mode ≠ .lunar ∧ s.dev.mode ≠ .reset) ∧ (∃ (t : _) (s : State), s.ucu.busy = true ∧ dmaRead .ucu (ucuAddr s 0x10C)
  (ucuLen s) s = (none, t)) ∧ (∃ (src : _) (r : _) (t : _) (s : State), s.ucu.busy = true ∧ dmaRead .ucu (ucuAddr s 0x10C) (ucuLen s)
  s = (some src, t) ∧ ucuCompute t src = .result r) ∧ (∃ (src : _) (d : _) (r : _) (t : _) (s : State), s.ucu.busy = true ∧ dmaRead
  .ucu (ucuAddr s 0x10C) (ucuLen s) s = (some src, t) ∧ ucuCompute t src = .dest d r ∧ (dmaWrite .ucu (ucuAddr t 0x114) d t).1 = true)
  ∧ (∃ (j : _) (r : _) (a : _) (s : State), s.pke.jobs = j :: r ∧ j.attest = some a) ∧ (∃ (j : _) (r : _) (b : _) (s : State) (t : _)
  (u : _), s.pke.jobs = j :: r ∧ j.attest = none ∧ sealWrite (.tircy 0) (areaAddr j.area) j.ops (event (pg .pke) 0 (bump (pg .pke)
  0x200 1 { s with pke := { s.pke with jobs := r, lastClk := pkeClocks s j } })) = (true, t) ∧ dmaRead .pke (areaAddr j.area)
  j.ops.length t = (some b, u)) ∧ (∃ (j : _) (r : _) (s : State) (t : _), s.pke.jobs = j :: r ∧ j.attest = none ∧ sealWrite (.tircy 0)
  (areaAddr j.area) j.ops (event (pg .pke) 0 (bump (pg .pke) 0x200 1
  { s with pke := { s.pke with jobs := r, lastClk := pkeClocks s j } })) = (false, t)) :=
  ⟨⟨5, 0, (inMode .solo), (by decide +kernel), (by decide +kernel), (by decide +kernel), (by decide +kernel)⟩,
   ⟨2097151, (inMode .solo), (by decide +kernel), (by decide +kernel), (by decide +kernel)⟩,
   ⟨0, (inMode .solo), (by decide +kernel), (by decide +kernel), (by decide +kernel)⟩,
   ⟨0, (inMode .solo), (by decide +kernel), (by decide +kernel), (by decide +kernel)⟩,
   ⟨2097151, (inMode .solo), (by decide +kernel), (by decide +kernel), (by decide +kernel)⟩,
   ⟨0, (inMode .solo), (by decide +kernel), (by decide +kernel), (by decide +kernel)⟩,
   ⟨(dmaRead .ucu (ucuAddr (ucuAt 8 64) 0x10C) 64 (ucuAt 8 64)).2, ucuAt 8 64, (by decide +kernel), (by decide +kernel)⟩,
   ⟨[], sha256 [], ucuAt 8 0, ucuAt 8 0, (by decide +kernel), (by decide +kernel), (by decide +kernel)⟩,
   ⟨[], [], [], ucuAt 3 0, ucuAt 3 0, (by decide +kernel), (by decide +kernel), (by decide +kernel), (by decide +kernel)⟩,
   ⟨{ ord := none, area := 15, op := 1, curve := 2, len := 384, out := 0, mlen := 0, ops := [], attest := some (0, []) }, [], (0, []),
  { inMode .solo with pke := { State.reset.pke with jobs := [{ ord := none, area := 15, op := 1, curve := 2, len := 384, out := 0, mlen := 0, ops := [], attest := some (0, []) }] } },
  (by decide +kernel), (by decide +kernel)⟩,
   ⟨job 64, [], (dmaRead .pke (areaAddr 15) 64 (jobIn (job 64) (withJob (job 64) (inMode .solo))).2).1.getD [], (withJob (job 64) (inMode
  .solo)), (jobIn (job 64) (withJob (job 64) (inMode .solo))).2, (dmaRead .pke (areaAddr 15) 64 (jobIn (job 64) (withJob (job 64)
  (inMode .solo))).2).2, (by decide +kernel), (by decide +kernel),
  (pair_true (x := jobIn (job 64) (withJob (job 64) (inMode .solo))) (by decide +kernel)), (by decide +kernel)⟩,
   ⟨job 32, [], (withJob (job 32) poisonedArea), (jobIn (job 32) (withJob (job 32) poisonedArea)).2, (by decide +kernel),
  (by decide +kernel), (pair_false (x := jobIn (job 32) (withJob (job 32) poisonedArea)) (by decide +kernel))⟩⟩

theorem witness_KeyAgreementTakesItsSteps : (∃ (old : _) (new : _) (sak : _) (e : _) (t : _) (s : State), (Instr.mkaNewSak (.install
  old new sak)).wf = true ∧ mkaActs s = true ∧ e = workSa s old ∧ e.st = 1 ∧ e.dir = 0 ∧ isMacsec (recSuite e.record) = true ∧ cakFor
  s (recLine e.record) = true ∧ sak.length = keyLen (recSuite e.record) ∧ mkaOf s new = none ∧ mkaWaits s old = false ∧ agentItem
  (.installImg new (nextImage e.record (some (regFld s (ra (pg .ecl) 0x10C) 3 0))) (some sak) false) s = (true, t)) ∧ (∃ (n : _) (c :
  _) (s : State), (Instr.mkaNewSak (.announce n)).wf = true ∧ mkaActs s = true ∧ mkaOf s n = some c ∧ c.announced = false ∧ (saOf s
  n).st = 1) ∧ (∃ (n : _) (old : _) (rx : _) (c : _) (e : _) (an : _) (t : _) (s : State), (Instr.mkaNewSak (.peer n old rx)).wf =
  true ∧ mkaActs s = true ∧ mkaOf s n = some c ∧ e = workSa s old ∧ e.st = 1 ∧ e.dir = 1 ∧ c.peers.any (fun p => p.new == rx) = false
  ∧ an = (recAn e.record + 1) % 4 ∧ agentItems (.installImg rx (nextImage e.record none) (some c.sak) false :: (entriesOf s old).map
  (fun g => .gaz (copyEdit an rx g))) s = (true, t)) ∧ (∃ (rx : _) (f : _) (c : _) (p : _) (s : State), (Instr.mkaNewSak (.floor rx
  f)).wf = true ∧ mkaActs s = true ∧ mkaPeerOf s rx = some (c, p) ∧ p.floorDone = false ∧ (workSa s rx).st = 1) ∧ (∃ (n : _) (c : _)
  (s : State), (Instr.mkaNewSak (.reported n)).wf = true ∧ mkaActs s = true ∧ mkaOf s n = some c ∧ c.announced = true ∧ c.switchAt =
  none ∧ (∀ p ∈ c.peers, p.floorDone = true)) ∧ (∃ (rx : _) (c : _) (p : _) (t : _) (s : State), (Instr.mkaNewSak (.close rx)).wf =
  true ∧ mkaActs s = true ∧ mkaPeerOf s rx = some (c, p) ∧ p.firstAt = some t ∧ p.closing = false ∧ overlapPast s t = true) ∧ (∃ (rx :
  _) (c : _) (p : _) (t : _) (s : State), (Instr.mkaNewSak (.cleanup rx)).wf = true ∧ mkaActs s = true ∧ mkaPeerOf s rx = some (c, p)
  ∧ p.cleaned = false ∧ p.closing = true ∧ (saOf s p.old).closed = true ∧ (workSa s p.old).st ≠ 0 ∧ agentItems ((entriesOf s
  p.old).map (fun g => .gaz (dropEdit g)) ++ [.erase p.old]) s = (true, t)) ∧ (∃ (n : _) (c : _) (t : _) (s : State), (Instr.mkaNewSak
  (.retire n)).wf = true ∧ mkaActs s = true ∧ mkaOf s n = some c ∧ c.switchAt = some t ∧ c.retired = false ∧ overlapPast s t = true ∧
  eclSuccessor s c.old = some n) :=
  ⟨⟨3, 7, zeros 16, workSa (mkaState []) 3, mkaQueue.2, mkaState [], (by decide +kernel), (by decide +kernel), rfl, (by decide +kernel),
  (by decide +kernel), (by decide +kernel), (by decide +kernel), (by decide +kernel), (by decide +kernel), (by decide +kernel),
  (pair_true (x := mkaQueue) (by decide +kernel))⟩,
   ⟨4, { mka with announced := false }, (mkaState [{ mka with announced := false }]), (by decide +kernel), (by decide +kernel),
  (by decide +kernel), (by decide +kernel), (by decide +kernel)⟩,
   ⟨4, 5, 7, { mka with announced := false }, workSa (mkaState [{ mka with announced := false }]) 5, 1, (mkaPeerItems (mkaState
  [{ mka with announced := false }])).2, (mkaState [{ mka with announced := false }]), (by decide +kernel), (by decide +kernel),
  (by decide +kernel), rfl, (by decide +kernel), (by decide +kernel), (by decide +kernel), rfl,
  (pair_true (x := mkaPeerItems (mkaState [{ mka with announced := false }])) (by decide +kernel))⟩,
   ⟨6, 1, { mka with peers := [{ old := 5, new := 6, floorDone := false, firstAt := none, closing := false, cleaned := false }] },
  { old := 5, new := 6, floorDone := false, firstAt := none, closing := false, cleaned := false }, (mkaState
  [{ mka with peers := [{ old := 5, new := 6, floorDone := false, firstAt := none, closing := false, cleaned := false }] }]),
  (by decide +kernel), (by decide +kernel), (by decide +kernel), (by decide +kernel), (by decide +kernel)⟩,
   ⟨4, mka, (mkaState [mka]), (by decide +kernel), (by decide +kernel), (by decide +kernel), (by decide +kernel), (by decide +kernel),
  (by decide +kernel)⟩,
   ⟨6, { mka with peers := [{ old := 5, new := 6, floorDone := true, firstAt := some 0, closing := false, cleaned := false }] },
  { old := 5, new := 6, floorDone := true, firstAt := some 0, closing := false, cleaned := false }, 0, (mkaState
  [{ mka with peers := [{ old := 5, new := 6, floorDone := true, firstAt := some 0, closing := false, cleaned := false }] }]),
  (by decide +kernel), (by decide +kernel), (by decide +kernel), (by decide +kernel), (by decide +kernel), (by decide +kernel)⟩,
   ⟨6, { mka with peers := [{ old := 5, new := 6, floorDone := true, firstAt := some 0, closing := true, cleaned := false }] },
  { old := 5, new := 6, floorDone := true, firstAt := some 0, closing := true, cleaned := false }, (agentItem (.erase 5) (mkaClosed
  [{ mka with peers := [{ old := 5, new := 6, floorDone := true, firstAt := some 0, closing := true, cleaned := false }] }])).2,
  (mkaClosed
  [{ mka with peers := [{ old := 5, new := 6, floorDone := true, firstAt := some 0, closing := true, cleaned := false }] }]),
  (by decide +kernel), (by decide +kernel), (by decide +kernel), (by decide +kernel), (by decide +kernel), (by decide +kernel),
  (by decide +kernel), (pair_true (by decide +kernel))⟩,
   ⟨4, { mka with switchAt := some 0 }, 0,
  { mkaState [{ mka with switchAt := some 0 }] with ecl := { (mkaState [{ mka with switchAt := some 0 }]).ecl with entries := [{ kind := 0, sa := 3, new := 4, target := 0, floor := 0, ord := none, active := true, agent := true, doomed := false, gone := false }] } },
  (by decide +kernel), (by decide +kernel), (by decide +kernel), (by decide +kernel), (by decide +kernel), (by decide +kernel),
  (by decide +kernel)⟩⟩

end Sys2Proof.Tests
end

section
/-! SUPPORT. Proofs about the architecture's rows: how a command answers, the judgement of scheduled requests (R27), the chore queue
(R21, R22), the tick boundary (R17), reception at the MAC (R34-R36, R114) and timed launches (R253, R254). -/

namespace Sys2Proof.Machine

/-! ### Commands -/

/-- A command whose operands stand in their ranges carries out its effect, and `settle` follows. -/
theorem meaning_of_wf {i : Instr} (f : State → State) {s : State} (h : i.wf = true) : meaning i f s = .next (settle (f s)) := by
  simp [meaning, done, h]

/-! ### Scheduled requests (R27) -/

/-- A target from 2 to 2^31 - 1 ticks ahead is what `targetOk` accepts. -/
theorem targetOk_iff (s : State) (t : Tick) : targetOk s t = true ↔ 2 ≤ tdiff t (now s) ∧ tdiff t (now s) ≤ 2 ^ 31 - 1 := by
  simp [targetOk]

/-- An Eclipse request is judged ARG when its target is out of range, whatever else holds of it. -/
theorem eclJudge_of_not_targetOk {s : State} (k i n : Nat) {t : Tick} (f : Nat) (h : targetOk s t = false) :
    eclJudge s k i n t f = .arg := by
  simp [eclJudge, h]

/-- A host's Eclipse request whose target is out of range ends with ARG. -/
theorem eclRequest_of_not_targetOk (o : Option Nat) (k i n : Nat) {t : Tick} (f : Nat) {s : State} (h : targetOk s t = false) :
    eclRequest o false k i n t f s = endOpt o .arg 0 s := by
  simp [eclRequest, eclJudge_of_not_targetOk k i n f h]

/-- A swap request whose target is out of range ends with ARG. -/
theorem tsiSwapReq_of_not_targetOk (o : Option Nat) (d : Nat) {t : Tick} {s : State} (h : targetOk s t = false) :
    tsiSwapReq o d t s = endOpt o .arg 0 s := by
  unfold targetOk at h
  simp only [tsiSwapReq, h, Bool.not_false, if_true]

/-- Taking an order leaves the present tick and the mode as they are. -/
@[simp] theorem targetOk_taken (h : OrdHdr) (o : Order) (s : State) (t : Tick) : targetOk (taken h o s) t = targetOk s t := rfl
@[simp] theorem twinMode_taken (h : OrdHdr) (o : Order) (s : State) : twinMode (taken h o s) = twinMode s := rfl

/-- Outside the twin modes a tick-scheduled order acts as it is taken (R311). -/
theorem pairItem_of_not_twinMode (it : ListItem) (f : State → State) {s : State} (h : twinMode s = false) :
    pairItem it f s = f s := by
  simp [pairItem, h]

/-- A TSI_SWAP out of range ends with ARG whether or not the standby page is one that a swap takes. -/
theorem carryOrder_tsiSwap_of_not_targetOk (ord : Nat) (d : Dir) {t : Tick} {s : State} (hm : twinMode s = false)
    (h : targetOk s t = false) : carryOrder ord (.tsiSwap d t) s = endOrder ord .arg 0 s := by
  simp only [carryOrder]
  split
  · rfl
  · rw [pairItem_of_not_twinMode _ _ hm, tsiSwapReq_of_not_targetOk _ _ h]
    rfl

theorem carryOrder_eclSchedule_of_not_targetOk (ord k i n : Nat) {t : Tick} (f : Nat) {s : State} (hm : twinMode s = false)
    (h : targetOk s t = false) : carryOrder ord (.eclSchedule k i n t f) s = endOrder ord .arg 0 s := by
  simp only [carryOrder, pairItem_of_not_twinMode _ _ hm, eclRequest_of_not_targetOk _ k i n f h]
  rfl

/-! ### The chore queue (R21, R22, R311) -/

/-- The item that a chore order outside the twin modes puts in the queue. -/
def choreOf : Order → Option ChoreBody
  | .saInstall i off n => some (.install i off n false)
  | .saRewrite i off n => some (.rewrite i off n)
  | .saImport i off n => some (.install i off n true)
  | .saErase i => some (.erase i)
  | .saPin i => some (.pin i)
  | .saUnpin i => some (.unpin i)
  | .gazEdit a => some (.gaz a)
  | .conEdit a => some (.con a)
  | _ => none

/-- The item that a chore order without an image puts in the tick list as it stands, in the twin modes. -/
def listedChoreOf : Order → Option ChoreBody
  | .saErase i => some (.erase i)
  | .saPin i => some (.pin i)
  | .saUnpin i => some (.unpin i)
  | .gazEdit a => some (.gaz a)
  | .conEdit a => some (.con a)
  | _ => none

/-- Outside the twin modes a host's item joins the host's part of the queue. -/
theorem queueItem_of_not_twinMode (ord : Nat) (c : ChoreBody) {s : State} (h : twinMode s = false) :
    queueItem ord c s = enqueue (twinId s) (some ord) c s := by
  simp [queueItem, h, chorePart]

/-- In the twin modes it joins the tick list. -/
theorem queueItem_of_twinMode (ord : Nat) (c : ChoreBody) {s : State} (h : twinMode s = true) :
    queueItem ord c s = listAdd (.chore false (some ord) c) s := by
  simp [queueItem, h]

/-- Outside the twin modes an item with an image is queued with the image unread. -/
theorem queueImage_of_not_twinMode (ord off slot : Nat) (c : ChoreBody) (mk : List Word → Option Bytes → ChoreBody) {s : State}
    (h : twinMode s = false) : queueImage ord off slot c mk s = queueItem ord c s := by
  simp [queueImage, h]

/-- Outside the twin modes every chore order queues its item. -/
theorem carryOrder_of_choreOf {o : Order} {c : ChoreBody} (ord : Nat) {s : State} (hc : choreOf o = some c)
    (hm : twinMode s = false) : carryOrder ord o s = enqueue (twinId s) (some ord) c s := by
  rw [← queueItem_of_not_twinMode ord c hm]
  cases o <;> simp only [choreOf, Option.some.injEq, reduceCtorEq] at hc <;> subst hc
  case saInstall | saRewrite => rw [carryOrder, queueImage_of_not_twinMode _ _ _ _ _ hm]
  all_goals rfl

/-- In the twin modes a chore order without an image enters this tick's list. -/
theorem carryOrder_of_listedChoreOf {o : Order} {c : ChoreBody} (ord : Nat) {s : State} (hc : listedChoreOf o = some c)
    (hm : twinMode s = true) : carryOrder ord o s = listAdd (.chore false (some ord) c) s := by
  rw [← queueItem_of_twinMode ord c hm]
  cases o <;> simp only [listedChoreOf, Option.some.injEq, reduceCtorEq] at hc <;> subst hc
  all_goals rfl

/-- CHORE_ITEM_COMMIT on a queue with a head: when the head has left, the item goes to a joiner that has its snapshot (R324). -/
theorem choreCommitCmd_of_head (clk : Nat) {c : Chore} {r : List Chore} {s : State} (hq : s.grt.queue = c :: r) :
    choreCommitCmd clk s =
      if (choreCommit clk s).grt.queue.length = r.length then
        copyItem (.chore (decide (2 ≤ c.part)) none c.body) (choreCommit clk s)
      else choreCommit clk s := by
  simp only [choreCommitCmd, hq]

section
variable {clk : Nat} {c : Chore} {r : List Chore} {s t : State}

/-- The head of the queue meets a tick that still takes items: before clock 180,000, with its chores not stopped (R20, R21). -/
def TakesItems (clk : Nat) (s : State) : Prop :=
  s.time.run = true ∧ s.grt.stop = false ∧ clk ≤ 179999 ∧ s.time.clk ≤ 179999

/-- A head whose budget is used up stops the chores of the tick. -/
theorem choreCommit_of_spent (ht : t = advanceTo clk s) (hq : t.grt.queue = c :: r) (ho : TakesItems clk t)
    (hb : budgetLeft t (choreKind c.body) = false) : choreCommit clk s = choreStop t := by
  obtain ⟨hrun, hstop, hclk, hnow⟩ := ho
  have late : ¬ 179999 < clk := by omega
  have past : ¬ 179999 < t.time.clk := by omega
  simp [choreCommit, ← ht, hq, hrun, hstop, late, past, hb]

/-- A head within its budget that can be carried out leaves the queue. -/
theorem choreCommit_of_take {u : State} {st : Status} (ht : t = advanceTo clk s) (hq : t.grt.queue = c :: r) (ho : TakesItems clk t)
    (hb : budgetLeft t (choreKind c.body) = true) (hc : choreBody c.body t = .take st u) :
    choreCommit clk s = choreTaken c st u := by
  obtain ⟨hrun, hstop, hclk, hnow⟩ := ho
  have late : ¬ 179999 < clk := by omega
  have past : ¬ 179999 < t.time.clk := by omega
  simp [choreCommit, ← ht, hq, hrun, hstop, late, past, hb, hc]

end

theorem exec_choreItemCommit {clk : Nat} (s : State) (h : clk < 2 ^ 18) :
    exec (.choreItemCommit clk) s = .next (settle (choreCommitCmd clk s)) :=
  meaning_of_wf (i := .choreItemCommit clk) _ (decide_eq_true h)

theorem exec_agentChoreItem {k : Nat} {a : GazEditArgs} (s : State) (h : (Instr.agentChoreItem k a).wf = true) :
    exec (.agentChoreItem k a) s = .next (settle (agentGaz k a s)) :=
  meaning_of_wf _ h

/-! ### The tick boundary (R17) -/

theorem exec_tickBoundary (s : State) : exec .tickBoundary s = .next (settle (tickBoundary s)) :=
  meaning_of_wf (i := .tickBoundary) _ rfl

/-- Without its clock the device does nothing at a boundary. -/
theorem tickBoundary_of_not_run {s : State} (h : s.time.run = false) : tickBoundary s = s := by
  simp [tickBoundary, h]

/-- A log entry leaves the time as it is. -/
@[simp] theorem logEvent_time (ty : Nat) (d : List Word) (s : State) : (logEvent ty d s).time = s.time := by
  obtain ⟨l, c, h⟩ := logEvent_frame ty d s
  rw [h]

/-- So does counting an event of every page. -/
@[simp] theorem pmcAll_time (ev n : Nat) (s : State) : (pmcAll ev n s).time = s.time := rfl

/-- Action 1: clock 0 of a tick whose number is Meridian's count of 125 us, the clocks to the boundary having passed. -/
theorem tickTurn_time (s : State) :
    (tickTurn s).time =
      { (reap (passClocks (clocksToBoundary s) s)).time with
        tick := wd ((reap (passClocks (clocksToBoundary s) s)).time.mer / tickUnit)
        lastLen := (reap (passClocks (clocksToBoundary s) s)).time.clk, clk := 0 } := by
  simp only [tickTurn]
  split
  · rw [pmcAll_time]
  · rw [logEvent_time, pmcAll_time]

/-! ### Reception at the MAC (R34-R36, R106, R114) -/

/-- An enabled port counts. -/
theorem portBump_of_on {side : Side} {p : Nat} (off n : Nat) {s : State} (h : portOn s side p = true) :
    portBump side p off n s = bump (portPage side p) off n s := by
  simp [portBump, h]

/-- A MAC control frame at an enabled port. -/
theorem macControl_of_on {side : Side} {p : Nat} {s : State} (h : portOn s side p = true) :
    macControl side p s =
      if controlOnly s then portBump side p 0x228 1 (bump (portPage side p) 0x240 1 s) else bump (portPage side p) 0x240 1 s := by
  simp only [macControl, notAdmitted, portBump_of_on 0x240 1 h]

/-- Without a loopback a frame from the wire comes to its MAC. -/
theorem wireRx_of_noLoop {side : Side} {p : Nat} (b : Bytes) (e : RxEnd) (x : Bool) {s : State} (h : loopMode s side p = 0) :
    wireRx side p b e x s = received side p b e x s := by
  simp [wireRx, h]

/-- An enabled port in a near-end loopback ignores its wire. -/
theorem wireRx_of_nearLoop {side : Side} {p : Nat} (b : Bytes) (e : RxEnd) (x : Bool) {s : State} (hon : portOn s side p = true)
    (h : loopMode s side p = 1 ∨ loopMode s side p = 2) : wireRx side p b e x s = s := by
  rcases h with h | h <;> simp [wireRx, h, hon]

/-- What the MAC takes for a cut frame is a cut frame. -/
theorem atMac_beq_cut (e : RxEnd) : (e.atMac == .cut) = decide (e = .cut) := by
  cases e <;> rfl

section
variable {p : Nat} {b : Bytes} {e : RxEnd} {x : Bool} {s u : State}

/-- A closed MAC lets nothing in, on either side. -/
theorem received_of_closed {side : Side} (hon : portOn s side p = true) (hm : macOpen s side p = false) :
    received side p b e x s = bump (portPage side p) 0x228 1 s := by
  rw [← portBump_of_on 0x228 1 hon]
  cases side <;> simp [received, plainMac, lineMac, hon, hm, notAdmitted]

/-- A frame of EtherType 0x8808 goes no further than an open MAC, on either side. -/
theorem received_of_macControl {side : Side} (hon : portOn s side p = true) (hm : macOpen s side p = true)
    (het : etherType b = 0x8808) (hty : hasType b = true) : received side p b e x s = macControl side p s := by
  cases side <;> simp [received, plainMac, lineMac, hon, hm, het, hty]

section
variable (hon : portOn s .plain p = true) (hm : macOpen s .plain p = true) (het : etherType b ≠ 0x8808)
include hon hm het

/-- A repeated frame of a stream is not admitted (R310). -/
theorem plainMac_of_repeated (hr : rtagElim p b s = (none, u)) : plainMac p b e x s = portBump .plain p 0x228 1 u := by
  simp [plainMac, hon, hm, het, hr, notAdmitted]

/-- Where only control frames are delivered, another one is not admitted (R34, R36). -/
theorem plainMac_of_notControl {c : Bytes} (hr : rtagElim p b s = (some c, u)) (ho : controlOnly u = true)
    (hc : (hasType c && isControl u .plain p c) = false) : plainMac p b e x s = portBump .plain p 0x228 1 u := by
  simp [plainMac, hon, hm, het, hr, ho, hc, notAdmitted]

/-- Every other frame passes the stages of the plain side, without its R-TAG. -/
theorem plainMac_of_admitted {c : Bytes} (hr : rtagElim p b s = (some c, u)) (ho : controlOnly u = false) :
    plainMac p b e x s =
      plainStages p c e x (grant (rxStart .plain p c.length x u) .plain p x) (rxStart .plain p c.length x u) := by
  simp [plainMac, hon, hm, het, hr, ho]

end

section
variable (hon : portOn s .line p = true) (hm : macOpen s .line p = true) (het : etherType b ≠ 0x8808)
include hon hm het

/-- Where only control frames are delivered, another one is not admitted (R34, R36). -/
theorem lineMac_of_notControl (ho : controlOnly s = true) (hc : (hasType b && isControl s .line p b) = false) :
    lineMac p b e x s = portBump .line p 0x228 1 s := by
  simp [lineMac, hon, hm, het, ho, hc, notAdmitted]

/-- Every other frame is held while it arrives, or passes the stages of the line side (R12). -/
theorem lineMac_of_admitted (ho : controlOnly s = false) (hu : u = rxStart .line p b.length x s) :
    lineMac p b e.atMac x s =
      if e = .cut then holdRx .line (grant u .line p x) (arriving u .dec p b none true x) u
      else lineStages p b e.atMac x (grant u .line p x) u := by
  subst hu
  simp [lineMac, hon, hm, het, ho, atMac_beq_cut]

end

end

section
variable {p clk : Nat} {b : Bytes} {e : RxEnd} {x : Bool} {s t : State}

theorem exec_plainFrameRx (hw : (Instr.plainFrameRx p clk b e x).wf = true) (ht : t = atPort .plain p clk e s) :
    exec (.plainFrameRx p clk b e x) s = .next (settle (wireRx .plain p b e.atMac x t)) := by
  subst ht
  exact meaning_of_wf _ hw

theorem exec_lineFrameRx (hw : (Instr.lineFrameRx p clk b e x).wf = true) (ht : t = atPort .line p clk e s) :
    exec (.lineFrameRx p clk b e x) s = .next (settle (wireRx .line p b e.atMac x t)) := by
  subst ht
  exact meaning_of_wf _ hw

/-- A plain frame whose port is in no loopback meets the plain MAC. -/
theorem exec_plainFrameRx_of_noLoop (hw : (Instr.plainFrameRx p clk b e x).wf = true) (ht : t = atPort .plain p clk e s)
    (hl : loopMode t .plain p = 0) :
    exec (.plainFrameRx p clk b e x) s = .next (settle (received .plain p b e.atMac x t)) := by
  rw [exec_plainFrameRx hw ht, wireRx_of_noLoop _ _ _ hl]

/-- A line frame whose port is in no loopback meets the line MAC. -/
theorem exec_lineFrameRx_of_noLoop (hw : (Instr.lineFrameRx p clk b e x).wf = true) (ht : t = atPort .line p clk e s)
    (hl : loopMode t .line p = 0) :
    exec (.lineFrameRx p clk b e x) s = .next (settle (received .line p b e.atMac x t)) := by
  rw [exec_lineFrameRx hw ht, wireRx_of_noLoop _ _ _ hl]

end

/-! ### Frames that turn out bad (R15) -/

theorem exec_frameStomp (id r : Nat) (s : State) : exec (.frameStomp id r) s = .next (settle (frameBad id r s)) :=
  meaning_of_wf (i := .frameStomp id r) _ rfl

/-- A frame still arriving that turns out bad with reason 0x03 or 0x04 is counted by its port and ends as a bad one. -/
theorem frameBad_of_receiving {id r : Nat} {f : Frame} {s : State} (hf : frameOf s id = some f) (ha : f.receiving = true)
    (hb : f.bad = none) (hr : r = 0x03 ∨ r = 0x04) :
    frameBad id r s = endBad f r 0 (portBump (inSide f.dir) f.port (if r = 0x04 then 0x220 else 0x210) 1 s) := by
  rcases hr with rfl | rfl <;> simp [frameBad, hf, ha, hb]

/-! ### Timed launches (R253, R254) -/

/-- A frame with a launch instant is judged at its clock. -/
theorem exec_transitLaunch {id clk n at_ : Nat} {f : Frame} {s t : State} (hw : (Instr.transitLaunch id clk).wf = true)
    (ht : t = frameTime clk s) (hf : frameOf t id = some f) (hl : f.launch = some (n, at_)) :
    exec (.transitLaunch id clk) s = .next (settle (launchAt f n at_ t)) := by
  have run : launchFrame id clk s = launchAt f n at_ t := by simp only [launchFrame, ← ht, hf, hl]
  rw [← run]
  exact meaning_of_wf _ hw

/-- A timed frame may go: its instant is less than 2 ns away, it is the first of its entry, not yet on its way, and a port of its
is up. -/
def MayLaunch (f : Frame) (n at_ : Nat) (s : State) : Prop :=
  at_ ≤ s.time.mer + 2 * nsUnit ∧ launchBehind s f n = false ∧ f.stage ≠ .emitting ∧ egressUp s f = true

section
variable {f : Frame} {n at_ w : Nat} {s u : State}

/-- A ready frame whose wires are clear at its instant is launched on time. -/
theorem launchAt_onTime (hm : MayLaunch f n at_ s) (hr : frameReady s f = true)
    (hc : clearWire s f.dir (emitPorts s f) (some at_) = some (w, u)) (hw : w ≤ at_ + 2 * nsUnit) :
    launchAt f n at_ s = countLaunch f n false (beginTx f w u) := by
  obtain ⟨hat, hbehind, hstage, hup⟩ := hm
  simp [launchAt, Nat.not_lt.mpr hat, hbehind, hstage, hup, hr, hc, hw]

/-- A ready frame whose wires clear later, within its tolerance, is launched late. -/
theorem launchAt_late (hm : MayLaunch f n at_ s) (hr : frameReady s f = true)
    (hc : clearWire s f.dir (emitPorts s f) (some at_) = some (w, u)) (hw : at_ + 2 * nsUnit < w)
    (hrule : (lateRule s n).2 = false) (htol : w ≤ at_ + (lateRule s n).1 * nsUnit) :
    launchAt f n at_ s = countLaunch f n true (beginTx f w u) := by
  obtain ⟨hat, hbehind, hstage, hup⟩ := hm
  simp [launchAt, Nat.not_lt.mpr hat, hbehind, hstage, hup, hr, hc, Nat.not_le.mpr hw, hrule, Nat.not_lt.mpr htol]

/-- A frame that is not ready when its tolerance has passed is discarded. -/
theorem launchAt_expired (hm : MayLaunch f n at_ s) (hr : frameReady s f = false) (hat : at_ ≤ s.time.mer)
    (htol : at_ + (lateRule s n).1 * nsUnit < s.time.mer) : launchAt f n at_ s = lateDiscard f n s := by
  obtain ⟨hnear, hbehind, hstage, hup⟩ := hm
  simp [launchAt, Nat.not_lt.mpr hnear, hbehind, hstage, hup, hr, Nat.not_lt.mpr hat, htol]

end

end Sys2Proof.Machine

namespace Sys2Proof.Proofs
open Sys2Proof.Machine

/-- Settles O15: a target out of range is judged ARG before anything else that could be held or listed. -/
theorem scheduledRequestsOutsideTheirRangeEndWithArg : Obligations.ScheduledRequestsOutsideTheirRangeEndWithArg := by
  have out : ∀ {t : Tick} {s : State}, ¬ (2 ≤ tdiff t (now s) ∧ tdiff t (now s) ≤ 2 ^ 31 - 1) → targetOk s t = false :=
    fun {t s} h => Bool.eq_false_iff.mpr fun k => h ((targetOk_iff s t).mp k)
  refine ⟨fun o d t s h => ?_, fun o k i n t f s h => ?_, fun h d t s ha hm ht => ?_, fun h k i n t f s ha hm ht => ?_⟩
  · exact tsiSwapReq_of_not_targetOk o d (out h)
  · exact eclRequest_of_not_targetOk o k i n f (out h)
  · rw [exec_accepted rfl ha,
      carryOrder_tsiSwap_of_not_targetOk _ d ((twinMode_taken ..).trans hm) ((targetOk_taken ..).trans (out ht))]
  · rw [exec_accepted rfl ha,
      carryOrder_eclSchedule_of_not_targetOk _ k i n f ((twinMode_taken ..).trans hm) ((targetOk_taken ..).trans (out ht))]

/-- Settles O32: an accepted chore order's item joins the queue outside the twin modes, and the tick list inside. -/
theorem choreOrdersQueueTheirItem : Obligations.ChoreOrdersQueueTheirItem := by
  refine ⟨fun i h o b s ha ho hm hb c hc => ?_, fun i h o b s ha ho hm hb c hc => ?_⟩
  · have item : choreOf o = some c := by rw [← hc, hb]; cases o <;> rfl
    rw [exec_accepted ho ha, carryOrder_of_choreOf _ item ((twinMode_taken h o s).trans hm)]
    rfl
  · have item : listedChoreOf o = some c := by rw [← hc, hb]; cases o <;> rfl
    rw [exec_accepted ho ha, carryOrder_of_listedChoreOf _ item ((twinMode_taken h o s).trans hm)]

/-- Settles O42, clause by clause from what the MAC, a bad frame and a launch instant do. -/
theorem receivedAndTimedFramesPassTheirStages : Obligations.ReceivedAndTimedFramesPassTheirStages := by
  refine ⟨?_, ?_, ?_, ?_, ?_, ?_, ?_, ?_, ?_, ?_, ?_, ?_, ?_, ?_, ?_, ?_⟩
  · intro p clk b e x s t hw ht hon hl hm
    rw [exec_plainFrameRx_of_noLoop hw ht hl, received_of_closed hon hm]
    rfl
  · intro p clk b e x s t hw ht hon hl hm het hty
    rw [exec_plainFrameRx_of_noLoop hw ht hl, received_of_macControl hon hm het hty, macControl_of_on hon]
    rfl
  · intro p clk b c e x s t u hw ht hon hl hm het hr ho
    rw [exec_plainFrameRx_of_noLoop hw ht hl, received, plainMac_of_admitted hon hm het hr ho]
  · intro p clk b c e x s t u hw ht hon hl hm het hr ho hc
    rw [exec_plainFrameRx_of_noLoop hw ht hl, received, plainMac_of_notControl hon hm het hr ho hc]
  · intro p clk b e x s t u hw ht hon hl hm het hr
    rw [exec_plainFrameRx_of_noLoop hw ht hl, received, plainMac_of_repeated hon hm het hr]
  · intro p clk b e x s t hw ht hon hl
    rw [exec_plainFrameRx hw ht, wireRx_of_nearLoop _ _ _ hon hl]
  · intro p clk b e x s t hw ht hon hl hm
    rw [exec_lineFrameRx_of_noLoop hw ht hl, received_of_closed hon hm]
    rfl
  · intro p clk b e x s t hw ht hon hl hm het hty
    rw [exec_lineFrameRx_of_noLoop hw ht hl, received_of_macControl hon hm het hty, macControl_of_on hon]
    rfl
  · intro p clk b e x s t u hw ht hon hl hm het ho hu
    rw [exec_lineFrameRx_of_noLoop hw ht hl, received, lineMac_of_admitted hon hm het ho hu]
  · intro p clk b e x s t hw ht hon hl hm het ho hc
    rw [exec_lineFrameRx_of_noLoop hw ht hl, received, lineMac_of_notControl hon hm het ho hc, portBump_of_on _ _ hon]
    rfl
  · intro p clk b e x s t hw ht hon hl
    rw [exec_lineFrameRx hw ht, wireRx_of_nearLoop _ _ _ hon hl]
  · intro id f s hf ha hb
    rw [exec_frameStomp, frameBad_of_receiving hf ha hb (.inl rfl)]
    rfl
  · intro id f s hf ha hb
    rw [exec_frameStomp, frameBad_of_receiving hf ha hb (.inr rfl)]
    rfl
  · intro id clk f n at_ s t w u hw ht hf hl hat hbehind hstage hup hr hc hin
    rw [exec_transitLaunch hw ht hf hl, launchAt_onTime ⟨hat, hbehind, hstage, hup⟩ hr hc hin]
  · intro id clk f n at_ s t w u hw ht hf hl hat hbehind hstage hup hr hc hafter hrule htol
    rw [exec_transitLaunch hw ht hf hl, launchAt_late ⟨hat, hbehind, hstage, hup⟩ hr hc hafter hrule htol]
  · intro id clk f n at_ s t hw ht hf hl hat htol hr hbehind hstage hup
    rw [exec_transitLaunch hw ht hf hl,
      launchAt_expired ⟨Nat.le_add_right_of_le hat, hbehind, hstage, hup⟩ hr hat htol]

/-- Settles O52: the head of the queue stops the tick's chores, or is carried out and mirrored; an agent's edit is placed. -/
theorem choresCommitInOrder : Obligations.ChoresCommitInOrder := by
  refine ⟨?_, ?_, ?_⟩
  · intro clk c r s t hclk ht hq hqt hrun hstop hc hnow hb
    have stays : (choreStop t).grt.queue.length ≠ r.length := by simp [choreStop, hqt]
    rw [exec_choreItemCommit s hclk, choreCommitCmd_of_head clk hq, choreCommit_of_spent ht hqt ⟨hrun, hstop, hc, hnow⟩ hb,
      if_neg stays]
  · intro clk c r s t u st hclk ht hq hqt hrun hstop hc hnow hb hbody
    rw [exec_choreItemCommit s hclk, choreCommitCmd_of_head clk hq, choreCommit_of_take ht hqt ⟨hrun, hstop, hc, hnow⟩ hb hbody]
  · intro k a s hw hk hm
    have runs : agentGaz k a s = (agentItem (.gaz a) s).2 := by simp [agentGaz, hk, orderModes, hm]
    rw [exec_agentChoreItem s hw, runs]

/-- Settles O53: the boundary's actions in the order of `tickBoundary`, and the time that action 1 leaves. -/
theorem tickBoundaryRunsItsActionsInOrder : Obligations.TickBoundaryRunsItsActionsInOrder := by
  refine ⟨fun s h => ?_, fun s h => ?_, fun s => ?_, fun b s => rfl⟩
  · rw [exec_tickBoundary, tickBoundary, if_neg (by simp [h])]
  · rw [exec_tickBoundary, tickBoundary_of_not_run h]
  · rw [tickTurn_time]
    exact ⟨rfl, rfl⟩

end Sys2Proof.Proofs
end

section
/-! SUPPORT. Proofs about modes and bring-up: what a fold and `settle` keep, reset and the entry into BOOT (R37, R52), WARM_RESET and
ZEROIZE (R61, R419), the drain limit (R55), register commands that are granted (R67), the orders of this family, the boot sequence (R50)
and the twin's checks and deadlines (R226, R329-R334). -/

namespace Sys2Proof.Machine

/-! ### Commands, folds, `settle` and the frames of the shared operations -/

/-- A well-formed command whose effect is known carries it out, and `settle` follows. -/
theorem exec_eq {i : Instr} {f : State → State} {s t : State} (he : exec i s = meaning i f s) (hw : i.wf = true) (hf : f s = t) :
    exec i s = .next (settle t) := by
  rw [he, meaning_of_wf f hw, hf]

/-- A fold whose steps keep a view of the state keeps it. -/
theorem foldl_keeps {α β : Type} (v : State → β) {f : State → α → State} (h : ∀ s x, v (f s x) = v s) :
    ∀ (l : List α) (s : State), v (l.foldl f s) = v s
  | [], _ => rfl
  | x :: r, s => (foldl_keeps v h r (f s x)).trans (h s x)

@[simp] theorem sendVec_ucu (s : State) (n : Nat) : (sendVec s n).ucu = s.ucu := by
  unfold sendVec
  split <;> rfl

@[simp] theorem releaseVec_ucu (s : State) (n : Nat) : (releaseVec s n).ucu = s.ucu := by
  unfold releaseVec
  split
  · exact sendVec_ucu _ n
  · rfl

@[simp] theorem deliver_ucu (s : State) : (deliver s).ucu = s.ucu := by
  simp only [deliver]
  split
  · exact foldl_keeps State.ucu sendVec_ucu _ _
  · exact (foldl_keeps State.ucu releaseVec_ucu _ _).trans (foldl_keeps State.ucu sendVec_ucu _ _)

@[simp] theorem setConds_ucu (s : State) : (setConds s).ucu = s.ucu := by
  simp only [setConds]
  exact foldl_keeps State.ucu (fun t _ => modLegend_ucu _ _ t) _ s

@[simp] theorem faultPin_ucu (s : State) : (faultPin s).ucu = s.ucu := by
  simp only [faultPin]
  split <;> rfl

/-- What follows every command leaves the utility cipher unit alone. -/
@[simp] theorem settle_ucu (s : State) : (settle s).ucu = s.ucu := by
  unfold settle
  rw [faultPin_ucu]
  split
  · rfl
  · rw [deliver_ucu, setConds_ucu]

/-- The state with its Legend headers left out of account. -/
def sansLegends (s : State) : State := { s with legends := [] }

/-- A state that differs in Legend headers alone is the other with those headers. -/
theorem eq_of_sansLegends {s t : State} (h : sansLegends t = sansLegends s) : t = { s with legends := t.legends } :=
  congrArg (fun u : State => { u with legends := t.legends }) h

@[simp] theorem setReady_sansLegends (p : Nat) (s : State) : sansLegends (setReady p s) = sansLegends s := rfl

/-- Making pages READY changes Legend headers and nothing else. -/
theorem readyPages_frame (p : PageKind → Bool) (s : State) : ∃ l, readyPages p s = { s with legends := l } := by
  have row : ∀ (t : State) (r : PageRow),
      sansLegends ((List.range r.count).foldl (fun s i => setReady (r.first + i) s) t) = sansLegends t := fun t r =>
    foldl_keeps sansLegends (fun s i => setReady_sansLegends (r.first + i) s) _ t
  refine ⟨_, eq_of_sansLegends ?_⟩
  unfold readyPages
  exact foldl_keeps sansLegends row _ s

theorem summarise_ended_dev (r : ErrRec) (s : State) : (summarise r (ended r s)).dev = s.dev := by
  have counted : (ended r s).dev = s.dev := by
    unfold ended
    split <;> rfl
  exact counted

@[simp] theorem logForce_dev (ty : Nat) (d : List Word) (s : State) : (logForce ty d s).dev = s.dev := by
  obtain ⟨l, c, h⟩ := logForce_frame ty d s
  rw [h]

/-- The reset entry leaves the device's mode, pins and holds as they are. -/
@[simp] theorem resetEntry_dev (c : Nat) (s : State) : (resetEntry c s).dev = s.dev := by
  simp only [resetEntry]
  rw [foldl_keeps State.dev (fun _ _ => logForce_dev _ _ _), logForce_dev, foldl_keeps State.dev (fun t r => summarise_ended_dev r t)]

/-! ### Reset and the entry into BOOT (R37, R52, R486, R491) -/

section
variable (w : Bool) (m : Mode) (c : Nat) (s : State)

@[simp] theorem resetState_dev : (resetState w m c s).dev =
    { State.reset.dev with
      mode := m, prev := s.dev.mode, cause := c, strap := s.dev.strap, supply := s.dev.supply, vbat := s.dev.vbat, vbatOk := s.dev.vbatOk,
      porst := s.dev.porst, sysrst := s.dev.sysrst, perst := s.dev.perst, holdThermal := s.dev.holdThermal,
      holdSupply := s.dev.holdSupply } := rfl
@[simp] theorem resetState_outs : (resetState w m c s).ords.outs = [] := rfl
@[simp] theorem resetState_ended : (resetState w m c s).ords.ended = [] := rfl
@[simp] theorem resetState_frames : (resetState w m c s).frames = State.reset.frames := rfl
@[simp] theorem resetState_mem : (resetState w m c s).mem = [] := rfl

/-- A device that is awake takes a reset: the reset entry, then RESET. -/
theorem takeReset_of_awake {s : State} (h : Awake s) : takeReset w c s = resetState w .reset c (resetEntry c s) := by
  rw [takeReset, if_neg h.1, if_neg h.2]

/-- One that is in RESET already logs the reset entry alone. -/
theorem takeReset_of_reset {s : State} (h : s.dev.mode = .reset) : takeReset w c s = resetEntry c s := by
  rw [takeReset, if_neg (by simp [h]), if_pos h]

end

/-- Nothing holds the device in RESET: supplies valid, both reset pins high, no thermal and no supply hold (R37). -/
def Unheld (s : State) : Prop :=
  s.dev.supply = true ∧ s.dev.porst = true ∧ s.dev.sysrst = true ∧ s.dev.holdThermal = false ∧ s.dev.holdSupply = false

/-- RESET ends in BOOT when nothing holds it. -/
theorem release_of_unheld {s : State} (hm : s.dev.mode = .reset) (h : Unheld s) : release s = enterBoot s := by
  obtain ⟨hsup, hpor, hsys, hthe, hhold⟩ := h
  simp [release, hm, hsup, hpor, hsys, hthe, hhold]

/-- The entry into BOOT changes the mode, the time and Legend headers. -/
theorem enterBoot_frame (s : State) : ∃ l, enterBoot s =
    { s with dev := { s.dev with mode := .boot }, time := { State.reset.time with run := true, cyc := s.time.cyc }, legends := l } :=
  readyPages_frame _ _

section
variable (s : State)

@[simp] theorem enterBoot_dev : (enterBoot s).dev = { s.dev with mode := .boot } := by
  obtain ⟨l, h⟩ := enterBoot_frame s
  rw [h]

@[simp] theorem enterBoot_time : (enterBoot s).time = { State.reset.time with run := true, cyc := s.time.cyc } := by
  obtain ⟨l, h⟩ := enterBoot_frame s
  rw [h]

@[simp] theorem enterBoot_ords : (enterBoot s).ords = s.ords := by
  obtain ⟨l, h⟩ := enterBoot_frame s
  rw [h]

@[simp] theorem enterBoot_frames : (enterBoot s).frames = s.frames := by
  obtain ⟨l, h⟩ := enterBoot_frame s
  rw [h]

@[simp] theorem enterBoot_mem : (enterBoot s).mem = s.mem := by
  obtain ⟨l, h⟩ := enterBoot_frame s
  rw [h]

end

/-- A reset of a device whose pins and holds are good passes through RESET into BOOT. -/
theorem warmReset_of_unheld (c : Nat) {s : State} (ha : Awake s) (h : Unheld s) :
    warmReset c s = enterBoot (resetState true .reset c (resetEntry c s)) := by
  rw [warmReset, takeReset_of_awake _ _ ha]
  refine release_of_unheld rfl ?_
  simpa [Unheld] using h

@[simp] theorem latchStraps_dev (st : Nat) (s : State) : (latchStraps st s).dev = { s.dev with strap := st % 16 } := rfl
@[simp] theorem latchStraps_cyc (st : Nat) (s : State) : (latchStraps st s).time.cyc = 0 := rfl

theorem modeIn_of_awake {s : State} (h : Awake s) : modeIn [.lunar, .reset] s = false := by
  simp [modeIn, h.1, h.2]

/-! ### Pins and holds (R473, R486, R491) -/

/-- PORST_N low takes a cold reset, which clears the channels' training and any supply hold. -/
theorem porstPin_low (st : Nat) {s : State} (ha : Awake s) (hp : s.dev.porst = true) :
    porstPin false st s =
      (let u := resetState false .reset 0x01 (resetEntry 0x01 s)
       { u with chans := State.reset.chans, dev := { u.dev with porst := false, holdSupply := false } }) := by
  simp [porstPin, hp, takeReset_of_awake _ _ ha]

/-- Its rise latches the straps, and where it held the device alone the device enters BOOT. -/
theorem porstPin_high (st : Nat) {s : State} (hm : s.dev.mode = .reset) (hsup : s.dev.supply = true) (hpor : s.dev.porst = false)
    (hsys : s.dev.sysrst = true) (hthe : s.dev.holdThermal = false) (hhold : s.dev.holdSupply = false) :
    porstPin true st s = enterBoot (latchStraps st { s with dev := { s.dev with porst := true } }) := by
  have up : porstPin true st s = release (latchStraps st { s with dev := { s.dev with porst := true } }) := by
    simp [porstPin, hpor, hsup]
  exact up.trans (release_of_unheld hm ⟨hsup, rfl, hsys, hthe, hhold⟩)

/-- SYSRST_N low takes a warm reset; in RESET it is logged alone. -/
theorem sysrstPin_low_of_awake {s : State} (ha : Awake s) (hp : s.dev.sysrst = true) :
    sysrstPin false s =
      (let u := resetState true .reset 0x02 (resetEntry 0x02 s); { u with dev := { u.dev with sysrst := false } }) := by
  simp [sysrstPin, hp, takeReset_of_awake _ _ ha]

theorem sysrstPin_low_of_reset {s : State} (hm : s.dev.mode = .reset) (hp : s.dev.sysrst = true) :
    sysrstPin false s = (let u := resetEntry 0x02 s; { u with dev := { u.dev with sysrst := false } }) := by
  simp [sysrstPin, hp, takeReset_of_reset _ _ hm]

theorem sysrstPin_high {s : State} (hm : s.dev.mode = .reset) (hsup : s.dev.supply = true) (hpor : s.dev.porst = true)
    (hsys : s.dev.sysrst = false) (hthe : s.dev.holdThermal = false) (hhold : s.dev.holdSupply = false) :
    sysrstPin true s = enterBoot { s with dev := { s.dev with sysrst := true } } := by
  have up : sysrstPin true s = release { s with dev := { s.dev with sysrst := true } } := by simp [sysrstPin, hsys]
  exact up.trans (release_of_unheld hm ⟨hsup, hpor, rfl, hthe, hhold⟩)

theorem thermalOff_of_held {s : State} (hm : s.dev.mode = .reset) (hsup : s.dev.supply = true) (hpor : s.dev.porst = true)
    (hsys : s.dev.sysrst = true) (hhold : s.dev.holdSupply = false) :
    thermalOff s = enterBoot { s with dev := { s.dev with holdThermal := false } } :=
  release_of_unheld hm ⟨hsup, hpor, hsys, rfl, hhold⟩

theorem thermalTripAt_of_awake {s : State} (ha : Awake s) :
    thermalTripAt s =
      (let u := resetState true .reset 0x15 (resetEntry 0x15 s); { u with dev := { u.dev with holdThermal := true } }) := by
  simp [thermalTripAt, modeIn_of_awake ha, takeReset_of_awake _ _ ha]

theorem watchdogExpiry_of_unheld {s : State} (ha : Awake s) (h : Unheld s) :
    watchdogExpiry s = enterBoot (resetState true .reset 0x04 (resetEntry 0x04 s)) := by
  simp [watchdogExpiry, modeIn_of_awake ha, warmReset_of_unheld 0x04 ha h]

theorem supplyReleaseAt_of_held (st : Nat) {s : State} (hm : s.dev.mode = .reset) (hsup : s.dev.supply = true)
    (hpor : s.dev.porst = true) (hsys : s.dev.sysrst = true) (hthe : s.dev.holdThermal = false) (hhold : s.dev.holdSupply = true) :
    supplyReleaseAt st s = enterBoot (latchStraps st { s with dev := { s.dev with holdSupply := false } }) := by
  have off : supplyReleaseAt st s = release (latchStraps st { s with dev := { s.dev with holdSupply := false } }) := by
    simp [supplyReleaseAt, hm, hsup, hhold, hpor]
  exact off.trans (release_of_unheld hm ⟨hsup, hpor, hsys, hthe, rfl⟩)

/-! ### WARM_RESET and ZEROIZE (R52, R61, R419) -/

/-- A master that reaches the device finds it awake. -/
theorem awake_of_reachable {m : Master} {s : State} (h : reachable m s = true) : Awake s := by
  simp only [reachable, Bool.and_eq_true, Bool.not_eq_true', beq_eq_false_iff_ne] at h
  exact h.1

/-- An order is taken only while the device is awake. -/
theorem awake_of_accepted {i : Instr} {h : OrdHdr} {o : Order} {s : State} (ha : Accepted i h o s) : Awake (taken h o s) := by
  obtain ⟨-, ⟨reaches, -⟩, -⟩ := ha
  exact awake_of_reachable reaches

/-- An accepted order is well-formed in the state in which it has just been taken. -/
theorem formed_of_accepted {i : Instr} {h : OrdHdr} {o : Order} {s : State} (ha : Accepted i h o s) :
    orderFormed (taken h o s) o = true := by
  obtain ⟨-, -, formed, -⟩ := ha
  rwa [orderFormed_taken]

@[simp] theorem draw_keys (n : Nat) (s : State) : (draw n s).2.keys = s.keys := rfl
@[simp] theorem reseed_keys (s : State) : (reseed s).keys = s.keys := rfl

section
variable {ord : Option Nat} {s t : State} (ht : t = zeroize ord s)
include ht

/-- After a ZEROIZE no key slot, association key, twin wrapping key or pair key is held. -/
theorem zeroize_keys : t.keys.slots = List.replicate 16 none ∧ t.keys.caks = [] ∧ t.keys.tkw = none ∧ t.keys.pairKey = none := by
  simp only [ht, zeroize, draw_keys, reseed_keys, and_self]

/-- The sealed path then runs under a provisional root, onto which it is swept before the order ends. -/
theorem zeroize_sealPath : t.sealPath.provisional = true ∧ t.sealPath.changing = true ∧ t.sealPath.zeroOrd = ord := by
  simp only [ht, zeroize, and_self]

end

/-- ZEROIZE enters ZEROIZED, or runs its effects again there. -/
theorem zeroizeOrder_eq (ord : Nat) (s : State) :
    zeroizeOrder ord s = zeroize (some ord) (if s.dev.mode = .zeroized then s else modeTo .zeroized 0x13 s) := by
  unfold zeroizeOrder enterZeroized
  split <;> rfl

/-! ### The drain limit (R55) -/

/-- The outstanding orders without the order `id`. -/
def sansOrder (id : Nat) (l : List OrdRec) : List OrdRec := l.filter (fun o => o.id != id)

theorem sansOrder_of_absent {id : Nat} {l : List OrdRec} (h : l.find? (fun o => o.id == id) = none) : sansOrder id l = l := by
  simpa [sansOrder, List.filter_eq_self] using h

/-- An order that ends is outstanding no longer, and no other leaves. -/
theorem endOrder_outs (id : Nat) (st : Status) (d : Word) (s : State) : (endOrder id st d s).ords.outs = sansOrder id s.ords.outs := by
  unfold endOrder
  split
  · rfl
  · exact (sansOrder_of_absent ‹_›).symm

theorem abortOrder_outs (id r : Nat) (s : State) : (abortOrder id r s).ords.outs = sansOrder id s.ords.outs := by
  unfold abortOrder
  split
  · exact endOrder_outs ..
  · exact (sansOrder_of_absent ‹_›).symm

theorem limitOrder_outs (s : State) (o : OrdRec) : (limitOrder s o).ords.outs = sansOrder o.id s.ords.outs := by
  unfold limitOrder
  split
  · exact endOrder_outs ..
  · exact abortOrder_outs ..

/-- Aborting every order of a list that holds all outstanding ones leaves none outstanding. -/
theorem limitOrders_outs : ∀ (l : List OrdRec) (s : State), (∀ o ∈ s.ords.outs, o ∈ l) → (l.foldl limitOrder s).ords.outs = []
  | [], s, h => List.eq_nil_iff_forall_not_mem.mpr fun o ho => List.not_mem_nil (h o ho)
  | x :: r, s, h => by
    refine limitOrders_outs r _ fun o ho => ?_
    rw [limitOrder_outs, sansOrder, List.mem_filter] at ho
    obtain ⟨ho, hne⟩ := ho
    rcases List.mem_cons.mp (h o ho) with rfl | hr
    · simp at hne
    · exact hr

/-- The state without the orders and the failures that wait for a record. -/
def sansOrders (s : State) : State := { s with ords := State.reset.ords, era := State.reset.era }

theorem endOrder_sansOrders (id : Nat) (st : Status) (d : Word) (s : State) : sansOrders (endOrder id st d s) = sansOrders s := by
  obtain ⟨o, h⟩ := endOrder_frame id st d s
  rw [h]
  rfl

theorem limitOrder_sansOrders (s : State) (o : OrdRec) : sansOrders (limitOrder s o) = sansOrders s := by
  unfold limitOrder
  split
  · exact endOrder_sansOrders ..
  · obtain ⟨a, e, h⟩ := abortOrder_frame o.id 0x2A s
    rw [h]
    rfl

/-- The orders whose chore items have committed end, and nothing else changes. -/
theorem commitEnds_sansOrders (s : State) : sansOrders (commitEnds s) = sansOrders s := by
  unfold commitEnds
  exact foldl_keeps sansOrders (fun t _ => endOrder_sansOrders _ _ _ t) _ _

/-! ### The register gate (R67, R383, R441) -/

/-- A register command whose master reaches a register that its unit permits carries out the register's effect. -/
theorem exec_granted {i : Instr} {m : Master} {a : Nat} {f : State → State} {s : State} (he : exec i s = meaning i (regCmd m a f) s)
    (hg : Granted i m a s) : exec i s = .next (settle (f (checkedBy m s))) := by
  obtain ⟨hw, hr, hp⟩ := hg
  rw [he, meaning_of_wf _ hw, regCmd_granted f hr hp]

theorem eoiWrite_of_asserted {v : Word} {s : State} (hb : behaviour s 4 = false) (h : s.intr.asserted.testBit (fld v 5 0) = true) :
    eoiWrite v s = sendVec s (fld v 5 0) := by
  simp [eoiWrite, hb, h]

theorem eoiWrite_of_not_asserted {v : Word} {s : State} (hb : behaviour s 4 = false)
    (h : s.intr.asserted.testBit (fld v 5 0) = false) : eoiWrite v s = s := by
  simp [eoiWrite, hb, h]

/-- SYS_COMPAT takes its value in CONFIGURE when nothing that it would change is in use (R49). -/
theorem compatWrite_of_free {m : Master} {v : Word} {s : State} (hm : s.dev.mode = .configure)
    (h1 : behaviour s 1 = false ∨ legacyHeld s = false) (h3 : outstanding s = 0)
    (h4 : behaviour s 4 = behaviour (setReg s (ra (pg .sys) 0x104) (v &&& 0x1F)) 4) :
    compatWrite m v s = setReg s (ra (pg .sys) 0x104) (v &&& 0x1F) := by
  have legacy : ¬ (behaviour s 1 && !behaviour (setReg s (ra (pg .sys) 0x104) (v &&& 0x1F)) 1 && legacyHeld s) = true := by
    rcases h1 with h | h <;> simp [h]
  rw [compatWrite, inModes, if_pos (by simp [modeIn, hm]), if_neg legacy, if_neg (by simp [h3]), if_pos h4]

theorem portLoopReg_of_new {m : Master} {side : Side} {p : Nat} {v : Word} {s : State} (hm : s.dev.mode = .diagnostic)
    (hn : regFld s (ra (portPage side p) 0x120) 1 0 ≠ fld v 1 0) :
    portLoopReg m side p v s =
      linkFall side p true true (some 2) (setReg s (ra (portPage side p) 0x120) (wd (fld v 1 0))) := by
  simp [portLoopReg, portLoop, inModes, modeIn, hm, hn]

theorem pfcThr_of_lt {m : Master} {p : Nat} {v : Word} {s : State} (h : fld v 28 16 < fld v 12 0) :
    pfcThr m p v s = pfcCheck p (setReg s (ra (pg .plain p) 0x114) (v &&& 0x1FFF1FFF)) := by
  simp [pfcThr, Nat.not_le.mpr h]

theorem pfcThr_of_le {m : Master} {p : Nat} {v : Word} {s : State} (h : fld v 12 0 ≤ fld v 28 16) :
    pfcThr m p v s = regErr m (ra (pg .plain p) 0x114) 0x40 s := by
  simp [pfcThr, h]

/-- BOOT as it is entered, with the host's link not yet up. -/
def linklessBoot : State := { State.reset with dev := { State.reset.dev with mode := .boot, porst := true } }

/-- The host and Tircy write UCU_ACQ in one clock: the host's write does not arrive, and Tircy's takes the lock. -/
theorem exec_ucuAcq_linklessBoot :
    ∃ t, exec (.ucuAcq ⟨.host, some (.tircy 0)⟩) linklessBoot = .next (settle t) ∧ t.ucu.held = true := by
  have noHost : reachable .host linklessBoot = false := rfl
  have granted : permitted linklessBoot (.tircy 0) .write (regAddr (ra (pg .ucu) 0x100)) = true := by decide +kernel
  have run : exec (.ucuAcq ⟨.host, some (.tircy 0)⟩) linklessBoot =
      .next (settle (regCmd (.tircy 0) (ra (pg .ucu) 0x100) (ucuAcquire (.tircy 0))
        (regCmd .host (ra (pg .ucu) 0x100) (ucuAcquire .host) linklessBoot))) :=
    meaning_of_wf (i := .ucuAcq ⟨.host, some (.tircy 0)⟩) _ rfl
  rw [regCmd_unreachable _ noHost, regCmd_granted _ rfl granted] at run
  exact ⟨_, run, rfl⟩

/-! ### Orders that take effect as they are carried out (R43, R60, R433, R443, R462) -/

theorem logRead_of_written {ord f c off : Nat} {s t : State} (hf : orderFormed s (.logRead f c off) = true)
    (hw : writeBar2 (.tircy 0) off ((logSelect s f c).2.flatMap logBytes) s = (true, t)) :
    logRead ord f c off s = endOrder ord .ok (wd (logSelect s f c).1)
      { t with log := { t.log with copied := (logSelect s f c).2.length } } := by
  simp only [orderFormed, Bool.and_eq_true, decide_eq_true_eq] at hf
  obtain ⟨⟨hlo, hhi⟩, hin⟩ := hf
  have fits : ¬ (decide (c = 0) || decide (16384 < c) || !inBar2 off (96 * c)) = true := by
    simp [hin]
    omega
  simp only [logRead]
  rw [if_neg fits, hw]

/-- A trigger that does not wait yet joins those that wait. -/
theorem trigger_of_new {m : Mode} {c r : Nat} {o : Option Nat} {s : State}
    (h : { target := m, cause := c, rank := r, ord := o } ∉ s.dev.trig) :
    trigger m c r o s =
      { s with dev := { s.dev with trig := s.dev.trig ++ [{ target := m, cause := c, rank := r, ord := o }] } } := by
  simp [trigger, h]

/-- An order with a block in BAR2 acts on the bytes that Tircy reads there. -/
theorem withBlock_of_read {ord off n : Nat} {b : Bytes} (f : Bytes → State → State) {s t : State}
    (h : readBar2 (.tircy 0) off n s = (some b, t)) : withBlock ord off n f s = f b t := by
  simp only [withBlock, h]

/-- KEY_IMPORT of a key under the twin wrapping key. -/
theorem keyImport_of_twinKey {ord n off : Nat} {b : Bytes} {s t : State} (hr : readBar2 (.tircy 0) off 256 s = (some b, t))
    (hb : (byteAt b 0).toNat = 2) :
    keyImport ord n off s =
      (unwrapUnder t.keys.tkw (slice b 0x90 48)).elim (endOrder ord .auth 0 t) (fun x =>
        if x.drop 32 == devIdBytes then
          endOrder ord .ok 0 { t with keys := { t.keys with slots := t.keys.slots.set n (some (x.take 32)) } }
        else endOrder ord .auth 0 t) := by
  rw [keyImport, withBlock_of_read _ hr]
  simp only [hb]
  rw [if_neg (by decide), if_pos trivial]
  cases unwrapUnder t.keys.tkw (slice b 0x90 48) <;> rfl

/-- CAK_LOAD of a new 256-bit association key with a name of 16 bytes. -/
theorem cakLoad_of_new {ord n off : Nat} {b : Bytes} {s t : State} (hr : readBar2 (.tircy 0) off 0x4C s = (some b, t))
    (hc : (byteAt b 0).toNat = 32) (hn : (byteAt b 1).toNat = 16) (hnew : t.keys.caks.all (fun c => c.1 != slice b 4 16) = true)
    (hroom : t.keys.caks.length < 256) :
    cakLoad ord n off s =
      (unwrapUnder (t.keys.slots.getD n none) (slice b 0x24 40)).elim (endOrder ord .auth 0 t) (fun k =>
        endOrder ord .ok 0 { t with keys := { t.keys with caks := t.keys.caks ++ [(slice b 4 16, k, (byteAt b 2).toNat)] } }) := by
  have others : t.keys.caks.filter (fun c => c.1 != slice b 4 16) = t.keys.caks :=
    List.filter_eq_self.mpr (List.all_eq_true.mp hnew)
  rw [cakLoad, withBlock_of_read _ hr]
  simp only [hc, hn, others]
  rw [if_neg (by decide), if_neg (by omega)]
  cases unwrapUnder (t.keys.slots.getD n none) (slice b 0x24 40) <;> simp

/-- SA_EXPORT of an installed SA as an image of 256 bytes. -/
theorem saExport_of_written {ord i off n : Nat} {k : Bytes} {s t : State} (hst : (workSa s i).st = 1) (hb : behaviour s 2 = false)
    (hk : s.keys.slots.getD n none = some k)
    (hw : writeBar2 (.tircy 0) off (wordsToBytes (exportImage s i (kwWrap k (recKey (workSa s i).record)))) s = (true, t)) :
    saExport ord i off n s = endOrder ord .ok 0 t := by
  simp only [saExport, hst, hb, hk]
  simp [hw]

/-- DIAG_SA_LOAD into a free SA. -/
theorem diagSaLoad_of_free {ord i k off : Nat} {b : Bytes} {s t : State} (hr : readBar2 (.tircy 0) off 256 s = (some b, t))
    (hst : (workSa t i).st = 0) (hi : imageBad t (bytesToWords 64 b) = false) (hb : installBusy t (bytesToWords 64 b) = false) :
    diagSaLoad ord i k off s = endOrder ord .ok 0
      { t with orb := { t.orb with pend := t.orb.pend ++ [(i, .install
        { newEntry t (workSa t i) (bytesToWords 64 b) (romKeyBytes k (keyLen (recSuite (bytesToWords 64 b)))) false 0 0 with
          diag := true })] } } := by
  rw [diagSaLoad, withBlock_of_read _ hr]
  simp only [hst, hi, hb]
  rfl

/-- PKE_JOB with a sound header and operands, and room in the queue. -/
theorem pkeSubmit_of_read {ord off : Nat} {b b2 : Bytes} {s t u : State} (hf : orderFormed s (.pkeJob off) = true)
    (hr : readBar2 (.tircy 0) off 0x40 s = (some b, t)) (hj : jobOk off (jobOf (some ord) b) = true)
    (ho : readBar2 (.tircy 0) off (jobBytes (jobOf (some ord) b)) t = (some b2, u)) (hroom : u.pke.jobs.length < 65) :
    pkeSubmit ord off s =
      { u with pke := { u.pke with jobs := u.pke.jobs ++ [{ jobOf (some ord) b with ops := b2 }] } } := by
  simp only [orderFormed, Bool.and_eq_true, beq_iff_eq] at hf
  obtain ⟨hal, hin⟩ := hf
  have room : ¬ 65 ≤ u.pke.jobs.length := Nat.not_le.mpr hroom
  simp [pkeSubmit, hal, hin, hr, hj, ho, pkeEnqueue, room]

/-- TWIN_SWITCHBACK with a READY peer and no alignment in hand. -/
theorem switchback_of_ready {ord : Nat} {s : State} (hp : peerReady s = true) (hr : s.twin.alignReq = false)
    (hf : s.twin.alignFixed = false) :
    switchback ord s = { s with twin := { s.twin with alignReq := true, alignOrd := some ord } } := by
  simp [switchback, hp, hr, hf]

theorem peerReady_iff (s : State) : peerReady s = true ↔ s.twin.present = true ∧ s.twin.peerPhase = 3 := by
  simp [peerReady]

section
variable {ord m n : Nat} {side : Side} {s : State} (hm : m < 4)
include hm

/-- DIAG_LOOPBACK by block: 0 the ports, 1 the highways, 2 the twin link, and no other. -/
theorem diagLoopback_port (hn : n < 16) : diagLoopback ord m n 0 side s = endOrder ord .ok 0 (portLoop side n m s) := by
  rw [diagLoopback, if_neg (by omega), if_pos (by simp [hn])]

theorem diagLoopback_highway (hn : n < 8) : diagLoopback ord m n 1 side s = endOrder ord .ok 0 (hwyLoop n m s) := by
  rw [diagLoopback, if_neg (by omega), if_neg (by simp), if_pos (by simp [hn])]

theorem diagLoopback_twinLink : diagLoopback ord m n 2 side s = endOrder ord .ok 0 (oldLoop m s) := by
  rw [diagLoopback, if_neg (by omega), if_neg (by simp), if_neg (by simp), if_pos rfl]

theorem diagLoopback_none : diagLoopback ord m n 3 side s = endOrder ord .arg 0 s := by
  rw [diagLoopback, if_neg (by omega), if_neg (by simp), if_neg (by simp), if_neg (by simp)]

end

/-- A well-formed DIAG_LOOPBACK has a mode of two bits. -/
theorem diagLoopback_mode_lt {h : OrdHdr} {m n b : Nat} {side : Side} (hw : (Instr.diagLoopback h m n b side).wf = true) :
    m < 4 := by
  simp only [Instr.wf, Bool.and_eq_true, decide_eq_true_eq] at hw
  obtain ⟨⟨hm, -⟩, -⟩ := hw
  exact hm

/-! ### Supplies, the host's link and BOOT (R50, R408, R474, R478, R491) -/

@[simp] theorem resetState_declared (w : Bool) (m : Mode) (c : Nat) (s : State) :
    (resetState w m c s).lun.declared = s.lun.declared := rfl

/-- A loss of the supplies with VBAT present and no alarm waiting takes LUNAR. -/
theorem supplyGone_of_vbat {s : State} (hs : s.dev.supply = true) (hd : s.lun.declared = []) (hv : s.dev.vbat = true) :
    supplyGone s = resetState false .lunar 0x05
      { s with dev := { s.dev with supply := false, holdThermal := false, holdSupply := false } } := by
  simp [supplyGone, alarmsOnCell, hs, hd, hv]

theorem supplyBack_of_lost {s : State} (hs : s.dev.supply = false) :
    supplyBack s =
      (let c := if s.lun.vbatLost then 0x00 else 0x05
       let u := resetUnknown c { s with dev := { s.dev with supply := true } }
       event (pg .sys) 0
        { u with dev := { s.dev with supply := true, mode := .reset, prev := .lunar, cause := c, holdSupply := s.dev.porst } }) := by
  rw [supplyBack, if_neg (by simp [hs])]
  rfl

/-- The loss of VBAT is noted; without the supplies the Lunar domain loses its state too. -/
theorem vbatGone_of_supply {s : State} (hs : s.dev.supply = true) :
    vbatGone s = { s with dev := { s.dev with vbat := false, vbatOk := false } } := by
  simp [vbatGone, hs]

theorem vbatGone_of_noSupply {s : State} (hs : s.dev.supply = false) :
    vbatGone s = lunLost { s with dev := { s.dev with vbat := false, vbatOk := false } } := by
  simp [vbatGone, hs]

theorem pcieLink_up {s : State} (ha : Awake s) (hp : s.dev.perst = true) :
    pcieLink true s = { s with dev := { s.dev with pcieUp := true } } := by
  simp [pcieLink, hp, modeIn_of_awake ha]

/-- BOOT before its sequence has run (R50). -/
def BootDue (s : State) : Prop := s.dev.mode = .boot ∧ s.dev.bootWait = false ∧ s.sealPath.initDone = false

section
variable {inp : BootInput} {s : State} (hd : BootDue s)
include hd

theorem bootRun_guard : ¬ (s.dev.mode != .boot || s.dev.bootWait || s.sealPath.initDone) = true := by
  obtain ⟨hm, hw, hi⟩ := hd
  simp [hm, hw, hi]

/-- Without an image that verifies Tircy waits in BOOT for one. -/
theorem bootRun_of_noImage
    (hc : bootChoice (bootSlot (bootRng inp.rngFails s) inp.imgA) (bootSlot (bootRng inp.rngFails s) inp.imgB) = none) :
    bootRun inp s =
      (let u := bootRng inp.rngFails s
       { u with
         fwu := { u.fwu with slots := [bootSlot u inp.imgA, bootSlot u inp.imgB] }
         dev := { u.dev with noImage := true, bootWait := true, cause := 0x07 } }) := by
  simp only [bootRun]
  rw [if_neg (bootRun_guard hd), hc]

/-- With one that it chooses, the steps of R50 follow. -/
theorem bootRun_of_image {n : Nat}
    (hc : bootChoice (bootSlot (bootRng inp.rngFails s) inp.imgA) (bootSlot (bootRng inp.rngFails s) inp.imgB) = some n) :
    bootRun inp s =
      (let u := bootRng inp.rngFails s
       let v := { u with
         fwu := { u.fwu with slots := [bootSlot u inp.imgA, bootSlot u inp.imgB], running := n }
         dev := { u.dev with noImage := false, chartRead := true }
         hlt := { u.hlt with agents := u.hlt.agents.map (fun x => { x with running := true }) } }
       let w := (List.range 16).foldl (almBootOne inp.almFails) (readyPages (fun k => k == .plain || k == .line || k == .hwy || k == .old) v)
       bootLeave (bootStore (bootSeal inp (setReady (pg .alm) w)))) := by
  simp only [bootRun]
  rw [if_neg (bootRun_guard hd), hc]

end

/-! ### The twin's checks and deadlines (R226, R314, R329, R331, R334) -/

theorem controlRx_of_received {bs p : Bytes} {s t : State} (hr : oldReceive 7 bs s = (some p, t)) (hm : t.dev.mode = .twinEmit) :
    controlRx bs s =
      if byteAt p 0 = 0 then trigger .twinHold 0x0E 4 none t
      else if byteAt p 0 = 1 then { t with twin := { t.twin with peerSelf := some (byteAt p 1 != 0) } }
      else t := by
  simp only [controlRx, hr]
  rw [if_neg (by simp [hm])]

/-- Which pipeline is occulted is no matter of the twin's state. -/
theorem occulting_withTwin (s : State) (t : Twin) (d : Nat) : occulting { s with twin := t } d = occulting s d := rfl

/-- CROSS_CHECK_SEND with no cross-check open and an occulted pipeline at hand. -/
theorem crossSend_of_idle {k : Nat} {s : State} (hk : k < 16) (hm : s.dev.mode = .twinEmit) (ht : (now s).toNat % 8 = 0)
    (hr : s.rng.st ≠ 2) (hc : s.twin.cross = none) (ho : (occulting s 0).isSome = true) :
    crossSend k s =
      (let iv := draw 12 { s with twin := { s.twin with cross := none } }
       let d := draw 64 iv.2
       oldSend 8 (0 :: beBytes 4 (now s).toNat ++ [by8 k] ++ iv.1 ++ d.1)
        { d.2 with twin := { d.2.twin with cross := some { tick := now s, want := crossAnswer k iv.1 d.1 } } }) := by
  have due : ¬ (s.dev.mode != .twinEmit || (now s).toNat % 8 != 0) = true := by simp [hm, ht]
  have able : ¬ ((occulting s 0).isNone || s.rng.st == 2) = true := by simp [← Option.not_isSome, ho, hr]
  simp only [crossSend]
  rw [if_neg due, hc]
  simp only [Bool.false_eq_true, if_false, Option.isSome_none, Bool.false_and]
  rw [occulting_withTwin, if_neg able, Nat.mod_eq_of_lt hk]

/-- CROSS_CHECK_RX with the right answer to the cross-check that is open. -/
theorem crossRx_of_answer {bs p : Bytes} {s t : State} {c} (hm : s.dev.mode = .twinEmit) (hr : oldReceive 8 bs s = (some p, t))
    (hb : byteAt p 0 = 1) (hc : t.twin.cross = some c) (ht : c.tick.toNat = beAt p 1 4) (hw : slice p 5 80 = c.want) :
    crossRx bs s = { t with twin := { t.twin with cross := none, crossFails := 0 } } := by
  simp only [crossRx, hr, hc]
  simp [hm, hb, ht, hw]

theorem selfCheckEnd_of_due {t : Tick} {s : State} (hs : s.twin.selfStart = some t) (hd : s.twin.disState = 1)
    (hn : s.twin.selfDone = false) (ht : 15 ≤ tdiff (now s) t) :
    selfCheckEnd s = oldSend 7 [1, by8 (b2n (selfOk s))] { s with twin := { s.twin with selfPass := selfOk s, selfDone := true } } := by
  simp [selfCheckEnd, hs, hd, hn, ht]

theorem arbTimeout_of_due {t : Tick} {s : State} (hw : s.twin.waitFrom = some t) (hm : s.dev.mode = .twinEmit) (hd : s.twin.disState = 2)
    (hn : regFld s (ra (pg .twn) 0x100) 15 0 ≠ 0) (ht : regFld s (ra (pg .twn) 0x100) 15 0 ≤ tdiff (now s) t) :
    arbTimeout s =
      (let u := { s with twin := { s.twin with waitFrom := none, disState := 0 } }
       if twinId s = 1 then trigger .drain 0x10 3 none u else u) := by
  simp only [arbTimeout, hw]
  rw [if_pos (by simp [hm, hd, hn, ht])]

theorem pairedHold_of_due {s : State} (hf : s.twin.alignFixed = true) (hd : isDue (now s) (s.twin.alignTick - 130) = true) :
    pairedHold s = { s with twin := { s.twin with held := true } } := by
  rw [pairedHold, if_pos (by rw [hf, hd, Bool.and_self])]

/-- At the tick of the alignment, a twin that holds for a joiner no longer READY gives it up. -/
theorem realignment_of_lost {s : State} (hf : s.twin.alignFixed = true) (hn : now s = s.twin.alignTick) (hm : s.dev.mode = .twinHold)
    (hp : peerReady s = false) : realignment s = alignCancel .busy s := by
  simp [realignment, hf, hn, modeIn, hm, hp]

/-- A joiner, and a twin that holds for a READY one, aligns every counter. -/
theorem realignment_of_ready {s : State} (hf : s.twin.alignFixed = true) (hn : now s = s.twin.alignTick)
    (hm : s.dev.mode = .twinJoin ∨ (s.dev.mode = .twinHold ∧ peerReady s = true)) :
    realignment s = trigger .twinEmit (if s.dev.mode = .twinJoin then 0x0C else 0x11) 5 none
      { alignAll s with twin := { (alignAll s).twin with
        alignFixed := false, held := false, resetLedgers := true
        availWas := (List.range 16).map (fun c => availEpoch s c)
        alignExh := (List.range 16).map (fun c => max (almOf s c).epoch (almOf s c).peer == almMax ||
          (almOf (alignAll s) c).epoch != s.twin.epochs.getD c 0) } } := by
  have due : ¬ (!s.twin.alignFixed || now s != s.twin.alignTick || !modeIn [.twinJoin, .twinHold] s) = true := by
    rcases hm with h | ⟨h, -⟩ <;> simp [hf, hn, modeIn, h]
  have kept : ¬ (decide (s.dev.mode = .twinHold) && !peerReady s) = true := by
    rcases hm with h | ⟨-, h⟩ <;> simp [h]
  rw [realignment, if_neg due, if_neg kept]

theorem configMismatch_of_eight {s : State} (hm : s.dev.mode = .twinEmit) (hn : 8 ≤ s.twin.fpDiff) :
    configMismatch s =
      { s with twin := { s.twin with fpDiff := 0, found := s.twin.found ++ [(6, wd (2 ^ 31 + 6 * 2 ^ 24), now s)] } } := by
  rw [configMismatch, if_pos (by simp [hm, hn])]
  rfl

end Sys2Proof.Machine

namespace Sys2Proof.Proofs
open Sys2Proof.Machine

/-- Refutes O11: UCU_ACQ is a register command of its writer that carries a rival's write of the same clock (R441). The host's write
does not reach a device without its PCIe link, and Tircy's then takes the lock. -/
theorem not_registerCommandsTouchNothingWhenDenied : ¬ Obligations.RegisterCommandsTouchNothingWhenDenied := by
  intro h
  obtain ⟨h, -⟩ := h
  obtain ⟨untouched, -⟩ := h (.ucuAcq ⟨.host, some (.tircy 0)⟩) .host (ra (pg .ucu) 0x100) linklessBoot rfl rfl
  obtain ⟨t, run, held⟩ := exec_ucuAcq_linklessBoot
  have same : settle t = settle linklessBoot := Host.Outcome.next.inj (run.symm.trans (untouched rfl))
  have free : (settle t).ucu.held = false := by
    rw [same, settle_ucu]
    rfl
  rw [settle_ucu, held] at free
  exact absurd free (by decide)

/-- Settles O12: an order that is taken and refused ends with its status, and nothing follows. -/
theorem refusedOrdersEndWithArgOrState : Obligations.RefusedOrdersEndWithArgOrState := by
  intro i h o s hw ho ht
  have norm := normOrder_of_wf hw ho
  rw [exec_order hw ho]
  exact ⟨fun hf => by rw [submit_unformed norm ht hf], fun hf hl => by rw [submit_illegal norm ht hf hl]⟩

/-- Settles O28: WARM_RESET is a reset of an unheld device, and ZEROIZE the effects of R61 in ZEROIZED. -/
theorem warmResetAndZeroizeTakeEffect : Obligations.WarmResetAndZeroizeTakeEffect := by
  refine ⟨?_, ?_⟩
  · rintro h s t ha hsup hpor hsys hthe hhold rfl
    refine ⟨?_, by simp, by simp [taken], by simp, by simp, by simp, by simp, by simp, by simp [State.reset]⟩
    rw [exec_accepted rfl ha, ← warmReset_of_unheld 0x03 (awake_of_accepted ha) ⟨hsup, hpor, hsys, hthe, hhold⟩]
    rfl
  · intro h s t ha ht
    obtain ⟨slots, caks, tkw, pair⟩ := zeroize_keys ht
    obtain ⟨provisional, changing, waits⟩ := zeroize_sealPath ht
    refine ⟨?_, slots, caks, tkw, pair, provisional, changing, waits⟩
    rw [exec_accepted rfl ha, carryOrder, zeroizeOrder_eq, ht]
    rfl

/-- Settles O36: each source takes RESET through its reset entry, and each release that leaves nothing to hold it enters BOOT. -/
theorem resetIsTakenAndReleased : Obligations.ResetIsTakenAndReleased := by
  refine ⟨?_, ?_, ?_, ?_, ?_, ?_, ?_, ?_, ?_⟩
  · rintro st s t hst ha hp rfl
    exact ⟨exec_eq rfl (decide_eq_true hst) (porstPin_low st ha hp), rfl, rfl, rfl, rfl, rfl, rfl⟩
  · rintro s t ha hp rfl
    exact ⟨exec_eq rfl rfl (sysrstPin_low_of_awake ha hp), rfl, rfl, rfl, rfl, rfl, rfl⟩
  · intro s hm hp
    exact exec_eq rfl rfl (sysrstPin_low_of_reset hm hp)
  · rintro n s t ha hn rfl
    exact ⟨exec_eq rfl (decide_eq_true hn) (thermalTripAt_of_awake ha), rfl, rfl, rfl, rfl, rfl, rfl⟩
  · rintro s t ha hsup hpor hsys hthe hhold rfl
    exact ⟨exec_eq rfl rfl (watchdogExpiry_of_unheld ha ⟨hsup, hpor, hsys, hthe, hhold⟩), by simp, by simp, by simp, by simp, by simp⟩
  · rintro st s t hst hm hsup hsys hthe hhold hpor rfl
    exact ⟨exec_eq rfl (decide_eq_true hst) (porstPin_high st hm hsup hpor hsys hthe hhold), by simp,
      by simp [Nat.mod_eq_of_lt hst], by simp, by simp [State.reset], by simp⟩
  · rintro s t hm hsup hpor hthe hhold hsys rfl
    exact ⟨exec_eq rfl rfl (sysrstPin_high hm hsup hpor hsys hthe hhold), by simp, by simp, by simp [State.reset], by simp⟩
  · rintro s t hm hsup hpor hsys hhold rfl
    exact ⟨exec_eq rfl rfl (thermalOff_of_held hm hsup hpor hsys hhold), by simp, by simp, by simp, by simp [State.reset]⟩
  · rintro st s t hst hm hsup hpor hsys hthe hhold rfl
    exact ⟨exec_eq rfl (decide_eq_true hst) (supplyReleaseAt_of_held st hm hsup hpor hsys hthe hhold), by simp,
      by simp [Nat.mod_eq_of_lt hst], by simp, by simp [State.reset]⟩

/-- Settles O54: what is left once the limit has passed is an abort of every outstanding order, which touches orders and records alone. -/
theorem drainLimitEndsWhatIsInFlight : Obligations.DrainLimitEndsWhatIsInFlight := by
  refine ⟨?_, ?_⟩
  · rintro s f k c t hm hn hf hk hc ht
    have limit : drainLimit s = t := by
      rw [drainLimit, if_neg (by simp [hm, hn])]
      subst hf hk hc ht
      rfl
    have kept : sansOrders t = sansOrders c := by
      rw [ht]
      exact foldl_keeps sansOrders limitOrder_sansOrders _ _
    rw [hc, commitEnds_sansOrders] at kept
    refine ⟨?_, congrArg (fun s : State => s.pke.jobs) kept, congrArg (fun s : State => s.grt.queue) kept,
      congrArg (fun s : State => s.maps) kept, congrArg (fun s : State => s.alm.ords) kept,
      congrArg (fun s : State => s.twin.lists) kept, congrArg (fun s : State => s.mer.step) kept,
      congrArg (fun s : State => s.twin.alignReq) kept, congrArg (fun s : State => s.twin.alignFixed) kept, ?_⟩
    · exact exec_eq rfl rfl limit
    · rw [ht]
      exact limitOrders_outs _ _ fun _ h => h
  · intro s h
    have early : drainLimit s = s := by
      rw [drainLimit, if_pos (by simpa using h)]
    exact exec_eq rfl rfl early

/-- Settles O7: the reset state is in RESET, where FAULT_N is low, with nothing listed. -/
theorem resetStateMeetsTheInvariants : Obligations.ResetStateMeetsTheInvariants :=
  ⟨rfl, fun awake => awake.2 rfl, rfl, rfl, rfl, rfl⟩

/-- Settles O19: each register's effect on the state in which its access has been counted. -/
theorem interruptSystemAndPortCommandsTakeEffect : Obligations.InterruptSystemAndPortCommandsTakeEffect := by
  refine ⟨?_, ?_, ?_, ?_, ?_, ?_, ?_, ?_⟩
  · intro m v s hg hb ha
    rw [exec_granted rfl hg, eoiWrite_of_asserted (s := checkedBy m s) hb ha]
  · intro m v s hg hb ha
    rw [exec_granted rfl hg, eoiWrite_of_not_asserted (s := checkedBy m s) hb ha]
  · intro m vec s hg
    rw [exec_granted rfl hg]
    rfl
  · intro m v s hg hm h1 h3 h4
    rw [exec_granted rfl hg, compatWrite_of_free (s := checkedBy m s) hm h1 h3 h4]
  · intro m v s hg
    rw [exec_granted rfl hg]
  · intro m side p v s hg hm hn
    rw [exec_granted rfl hg, portLoopReg_of_new (s := checkedBy m s) hm hn]
  · intro m p v s hg ht
    rw [exec_granted rfl hg, if_pos rfl, pfcThr_of_lt ht]
  · intro m p v s hg ht
    rw [exec_granted rfl hg, if_pos rfl, pfcThr_of_le ht]

/-- Settles O27: each order carried out on the state in which it has been taken. -/
theorem nopLogReadAndModeSetTakeEffect : Obligations.NopLogReadAndModeSetTakeEffect := by
  refine ⟨?_, ?_, ?_⟩
  · intro h s ha
    rw [exec_accepted rfl ha, carryOrder]
  · intro h f c off s t ha hw
    rw [exec_accepted rfl ha, carryOrder, logRead_of_written (formed_of_accepted ha) hw]
  · intro h n m s ha hm hnew
    rw [exec_accepted rfl ha, carryOrder]
    simp only [modeSetOrder, hm]
    rw [trigger_of_new (s := taken h (.modeSet n) s) hnew]
    rfl

/-- Settles O31: each order acts on the block that it reads in BAR2, or writes its image there. -/
theorem keyAndJobOrdersTakeEffect : Obligations.KeyAndJobOrdersTakeEffect := by
  refine ⟨?_, ?_, ?_, ?_, ?_⟩
  · intro h n off s b t ha hr hb
    rw [exec_accepted rfl ha, carryOrder, keyImport_of_twinKey hr hb]
  · intro h n off s b t ha hr hc hn hnew hroom
    rw [exec_accepted rfl ha, carryOrder, cakLoad_of_new hr hc hn hnew hroom]
  · intro h i off n s k t ha hst hb hk hw
    rw [exec_accepted rfl ha, carryOrder, saExport_of_written (s := taken h (.saExport i off n) s) hst hb hk hw]
  · intro h i k off s b t ha hr hst hi hb
    rw [exec_accepted rfl ha, carryOrder, diagSaLoad_of_free hr hst hi hb]
  · intro h off s b b2 t t2 ha hr hj ho hroom
    rw [exec_accepted rfl ha, carryOrder, pkeSubmit_of_read (formed_of_accepted ha) hr hj ho hroom]

/-- Settles O34: the arbitration enters the tick list, the switchback asks for the alignment, the loopback goes by its block. -/
theorem twinAndDiagnosticOrdersTakeEffect : Obligations.TwinAndDiagnosticOrdersTakeEffect := by
  refine ⟨?_, ?_, ?_, ?_, ?_, ?_⟩
  · intro h r s ha
    rw [exec_accepted rfl ha, carryOrder]
  · intro h s ha hpres hphase hreq hfix
    have ready : peerReady s = true := (peerReady_iff s).mpr ⟨hpres, hphase⟩
    rw [exec_accepted rfl ha, carryOrder, switchback_of_ready (s := taken h .twinSwitchback s) ready hreq hfix]
    rfl
  · intro h m n side s ha hn
    rw [exec_accepted rfl ha, carryOrder, diagLoopback_port (diagLoopback_mode_lt ha.1) hn]
  · intro h m n side s ha hn
    rw [exec_accepted rfl ha, carryOrder, diagLoopback_highway (diagLoopback_mode_lt ha.1) hn]
  · intro h m n side s ha
    rw [exec_accepted rfl ha, carryOrder, diagLoopback_twinLink (diagLoopback_mode_lt ha.1)]
  · intro h m n side s ha
    rw [exec_accepted rfl ha, carryOrder, diagLoopback_none (diagLoopback_mode_lt ha.1)]

/-- Settles O37: the supplies and the link by their pins, and the boot sequence by the image that it chooses. -/
theorem suppliesLinkAndBootFollowTheirEvents : Obligations.SuppliesLinkAndBootFollowTheirEvents := by
  refine ⟨?_, ?_, ?_, ?_, ?_, ?_, ?_, ?_, ?_⟩
  · intro s hs hd hv
    exact exec_eq rfl rfl (supplyGone_of_vbat hs hd hv)
  · rintro s c u hs rfl rfl
    exact exec_eq rfl rfl (supplyBack_of_lost hs)
  · intro s hs
    exact exec_eq rfl rfl (vbatGone_of_supply hs)
  · intro s hs
    exact exec_eq rfl rfl (vbatGone_of_noSupply hs)
  · intro l s
    exact exec_eq (f := perstPin l) rfl rfl rfl
  · intro s ha hp
    exact exec_eq rfl rfl (pcieLink_up ha hp)
  · intro s
    exact exec_eq (f := pcieLink false) rfl rfl rfl
  · intro inp s hw hm hwait hinit hc
    exact exec_eq rfl hw (bootRun_of_noImage ⟨hm, hwait, hinit⟩ hc)
  · intro inp s n hw hm hwait hinit hc
    exact exec_eq rfl hw (bootRun_of_image ⟨hm, hwait, hinit⟩ hc)

/-- Settles O50: each check and deadline in the state in which it is due. -/
theorem twinChecksAndDeadlinesTakeEffect : Obligations.TwinChecksAndDeadlinesTakeEffect := by
  refine ⟨?_, ?_, ?_, ?_, ?_, ?_, ?_, ?_, ?_, ?_⟩
  · intro bs p t s hr hm hb
    have hold := controlRx_of_received hr hm
    rw [if_pos hb] at hold
    exact exec_eq rfl rfl hold
  · intro bs p t s hr hm hb
    have self := controlRx_of_received hr hm
    rw [if_neg (by simp [hb]), if_pos hb] at self
    exact exec_eq rfl rfl self
  · intro k s hk hm ht hr hc ho
    exact exec_eq rfl (decide_eq_true hk) (crossSend_of_idle hk hm ht hr hc ho)
  · intro bs p c t s hm hr hb hc ht hw
    exact exec_eq rfl rfl (crossRx_of_answer hm hr hb hc ht hw)
  · intro t s hs hd hn ht
    exact exec_eq rfl rfl (selfCheckEnd_of_due hs hd hn ht)
  · intro t s hw hm hd hn ht
    exact exec_eq rfl rfl (arbTimeout_of_due hw hm hd hn ht)
  · intro s hf hd
    exact exec_eq rfl rfl (pairedHold_of_due hf hd)
  · intro s hf hn hm hp
    exact exec_eq rfl rfl (realignment_of_lost hf hn hm hp)
  · intro s hf hn hm
    exact exec_eq rfl rfl (realignment_of_ready hf hn hm)
  · intro s hm hn
    exact exec_eq rfl rfl (configMismatch_of_eight hm hn)

end Sys2Proof.Proofs
end

section
/-! SUPPORT. Proofs about the register pages: what follows every command and the invariants it restores (R73, R85, R86, R88), the Legend
header and its snapshots (R68-R84), plain register writes (R63-R67), and the pipelines' events (R71, R200-R205). -/

namespace Sys2Proof.Machine

/-! ### Every command ends in `settle` -/

/-- Every command answers a settled state. -/
theorem exec_settled (i : Instr) (s : State) : ∃ u, exec i s = .next (settle u) := by
  cases i <;> exact ⟨_, rfl⟩

/-- A step idles on an empty queue, or ends in a settled state. -/
theorem step_settled {s t : State} (h : step s = .next t) : s.pending = [] ∧ t = s ∨ s.pending ≠ [] ∧ ∃ u, t = settle u := by
  unfold step at h
  split at h
  next hp => exact .inl ⟨hp, (Host.Outcome.next.inj h).symm⟩
  next c r hp =>
    obtain ⟨u, hu⟩ := exec_settled c { s with pending := r }
    exact .inr ⟨by simp [hp], u, Host.Outcome.next.inj (h.symm.trans hu)⟩

/-- What `settle` brings about in every state that it leaves awake is an invariant of the steps out of LUNAR and RESET. -/
theorem step_keeps_of_settle {P : State → Prop} (hP : ∀ u, Awake (settle u) → P (settle u)) {s t : State} (hs : Awake s → P s)
    (h : step s = .next t) (ht : Awake t) : P t := by
  rcases step_settled h with ⟨-, rfl⟩ | ⟨-, u, rfl⟩
  · exact hs ht
  · exact hP u ht

/-! ### The frame of `settle` (R73, R85, R86, R88) -/

/-- `t` is `s` but for Legend headers, the interrupt state, and outputs appended to what has left the device. -/
def DiffersInDelivery (s t : State) : Prop := ∃ l i o, t = { s with legends := l, intr := i, out := s.out ++ o }

theorem DiffersInDelivery.of_legends_intr (s : State) (l : Sparse Legend) (i : Intr) :
    DiffersInDelivery s { s with legends := l, intr := i } :=
  ⟨l, i, [], by simp⟩

theorem DiffersInDelivery.refl (s : State) : DiffersInDelivery s s := .of_legends_intr s s.legends s.intr

theorem DiffersInDelivery.trans {s t u : State} (h : DiffersInDelivery s t) (k : DiffersInDelivery t u) : DiffersInDelivery s u := by
  obtain ⟨_, _, o, rfl⟩ := h
  obtain ⟨l, i, p, rfl⟩ := k
  exact ⟨l, i, o ++ p, by simp⟩

theorem DiffersInDelivery.dev {s t : State} (h : DiffersInDelivery s t) : t.dev = s.dev := by
  obtain ⟨_, _, _, rfl⟩ := h
  rfl

theorem DiffersInDelivery.regs {s t : State} (h : DiffersInDelivery s t) : t.regs = s.regs := by
  obtain ⟨_, _, _, rfl⟩ := h
  rfl

theorem DiffersInDelivery.foldl {α : Type} {f : State → α → State} (hf : ∀ s x, DiffersInDelivery s (f s x)) (l : List α)
    (s : State) : DiffersInDelivery s (l.foldl f s) :=
  List.foldlRecOn l f (DiffersInDelivery.refl s) fun t ht x _ => ht.trans (hf t x)

theorem emit_differs (e : Emit) (s : State) : DiffersInDelivery s (emit e s) := ⟨s.legends, s.intr, [e], rfl⟩

theorem setConds_differs (s : State) : DiffersInDelivery s (setConds s) :=
  (DiffersInDelivery.foldl (fun t _ => .of_legends_intr t _ t.intr) _ s).trans (.of_legends_intr _ _ _)

theorem sendVec_differs (s : State) (v : Nat) : DiffersInDelivery s (sendVec s v) := by
  unfold sendVec
  split
  · exact emit_differs _ s
  · exact .of_legends_intr s s.legends _

theorem releaseVec_differs (s : State) (v : Nat) : DiffersInDelivery s (releaseVec s v) := by
  unfold releaseVec
  split
  · exact (DiffersInDelivery.of_legends_intr s s.legends _).trans (sendVec_differs _ v)
  · exact .refl s

theorem deliver_differs (s : State) : DiffersInDelivery s (deliver s) := by
  have sent := fun i l => (DiffersInDelivery.of_legends_intr s s.legends i).trans (.foldl sendVec_differs l _)
  simp only [deliver]
  split
  · exact sent _ _
  · exact (sent _ _).trans (.foldl releaseVec_differs _ _)

theorem faultPin_differs (s : State) : DiffersInDelivery s (faultPin s) := by
  simp only [faultPin]
  split
  · exact .refl s
  · exact (DiffersInDelivery.of_legends_intr s s.legends _).trans (emit_differs _ _)

theorem settle_differs (s : State) : DiffersInDelivery s (settle s) := by
  unfold settle
  split
  · exact faultPin_differs s
  · exact ((setConds_differs s).trans (deliver_differs _)).trans (faultPin_differs _)

/-- A device that is awake after `settle` was awake before it, and received its conditions and deliveries. -/
theorem settle_of_awake {s : State} (h : Awake (settle s)) : settle s = faultPin (deliver (setConds s)) := by
  have before : Awake s := by
    unfold Awake at h
    rwa [(settle_differs s).dev] at h
  rw [settle, modeIn_of_awake before]
  rfl

/-! ### FAULT_N (R88) -/

theorem faultPin_legends (s : State) : (faultPin s).legends = s.legends := by
  simp only [faultPin]
  split <;> rfl

/-- SYS_FAULT depends on the device's mode and faults and on the Legend headers. -/
theorem sysFault_congr {s t : State} (hd : t.dev = s.dev) (hl : t.legends = s.legends) : sysFault t = sysFault s := by
  simp only [sysFault, hd, hl]

/-- The pin's level once it has followed SYS_FAULT. -/
theorem faultPin_faultN (s : State) :
    (faultPin s).intr.faultN = (sysFault (faultPin s) == 0 && !modeIn [.lunar, .reset] (faultPin s)) := by
  have level : (faultPin s).intr.faultN = (sysFault s == 0 && !modeIn [.lunar, .reset] s) := by
    simp only [faultPin]
    split
    next h => exact h.symm
    next => rfl
  have dev := (faultPin_differs s).dev
  rw [level, sysFault_congr dev (faultPin_legends s), modeIn, modeIn, dev]

theorem settle_faultN (s : State) : (settle s).intr.faultN = (sysFault (settle s) == 0 && !modeIn [.lunar, .reset] (settle s)) := by
  unfold settle
  exact faultPin_faultN _

/-! ### The asserted vectors (R85) -/

/-- The asserted vectors depend on the Legend headers and the registers. -/
theorem assertedVecs_congr {s t : State} (hr : t.regs = s.regs) (hl : t.legends = s.legends) : assertedVecs t = assertedVecs s := by
  have map : vecOf t = vecOf s := by
    funext n
    unfold vecOf getReg
    rw [hr]
  unfold assertedVecs behaviour pendingSrcs getReg
  rw [map, hr, hl]

/-- The Legend headers and the vectors held asserted: what sending a vector's message leaves alone. -/
def heldVectors (s : State) : Sparse Legend × Nat := (s.legends, s.intr.asserted)

theorem sendVec_heldVectors (s : State) (v : Nat) : heldVectors (sendVec s v) = heldVectors s := by
  unfold sendVec
  split <;> rfl

theorem releaseVec_heldVectors (s : State) (v : Nat) : heldVectors (releaseVec s v) = heldVectors s := by
  unfold releaseVec
  split
  · exact sendVec_heldVectors _ v
  · rfl

theorem deliver_heldVectors (s : State) : heldVectors (deliver s) = (s.legends, assertedVecs s) := by
  have sent := fun l => foldl_keeps heldVectors sendVec_heldVectors l { s with intr := { s.intr with asserted := assertedVecs s } }
  simp only [deliver]
  split
  · exact sent _
  · exact (foldl_keeps heldVectors releaseVec_heldVectors _ _).trans (sent _)

theorem faultPin_heldVectors (s : State) : heldVectors (faultPin s) = heldVectors s := by
  simp only [faultPin]
  split <;> rfl

/-- Awake, `settle` leaves the headers that the condition sources give, and asserts the vectors of the sources pending in them. -/
theorem settle_heldVectors {s : State} (h : Awake (settle s)) :
    heldVectors (settle s) = ((setConds s).legends, assertedVecs (setConds s)) := by
  rw [settle_of_awake h, faultPin_heldVectors, deliver_heldVectors]

theorem settle_legends {s : State} (h : Awake (settle s)) : (settle s).legends = (setConds s).legends :=
  congrArg Prod.fst (settle_heldVectors h)

theorem settle_asserted {s : State} (h : Awake (settle s)) : (settle s).intr.asserted = assertedVecs (settle s) := by
  have regs : (settle s).regs = (setConds s).regs := (settle_differs s).regs.trans (setConds_differs s).regs.symm
  rw [assertedVecs_congr regs (settle_legends h)]
  exact congrArg Prod.snd (settle_heldVectors h)

/-! ### Captured errors (R73, R75, R82) -/

/-- A Legend header with its programmable counters left out of account. -/
def Legend.sansPmc (l : Legend) : Legend := { l with pmc := [], pmcCtrl := 0, carry := 0 }

theorem pmcOvf_sansPmc (i : Nat) (l : Legend) : (pmcOvf i l).sansPmc = l.sansPmc := rfl

theorem pmcCarryOne_sansPmc (l : Legend) (k : Nat) : (pmcCarryOne l k).sansPmc = l.sansPmc := by
  simp only [pmcCarryOne]
  split
  · split <;> rfl
  · rfl

theorem pmcCountOne_sansPmc (hit : Nat → Bool) (n : Nat) (l : Legend) (i : Nat) : (pmcCountOne hit n l i).sansPmc = l.sansPmc := by
  simp only [pmcCountOne]
  split
  · rfl
  · split
    · rfl
    · split
      · split <;> rfl
      · rfl

theorem pmcCarry_sansPmc (l : Legend) : (pmcCarry l).sansPmc = l.sansPmc :=
  List.foldlRecOn (motive := fun x => x.sansPmc = l.sansPmc) _ _ rfl fun x hx k _ => (pmcCarryOne_sansPmc x k).trans hx

/-- Counting events changes a header's programmable counters alone. -/
theorem pmcCount_sansPmc (fr : Bool) (hit : Nat → Bool) (n : Nat) (l : Legend) : (pmcCount fr hit n l).sansPmc = l.sansPmc := by
  unfold pmcCount
  split
  · exact pmcCarry_sansPmc l
  · exact List.foldlRecOn (motive := fun x => x.sansPmc = l.sansPmc) _ _ (pmcCarry_sansPmc l)
      fun x hx i _ => (pmcCountOne_sansPmc hit n x i).trans hx

theorem statLegend_sansPmc (fr : Bool) (v : Word) (l : Legend) :
    (statLegend fr v l).sansPmc = ({ l with intStat := l.intStat ||| v } : Legend).sansPmc :=
  pmcCount_sansPmc _ _ _ _

theorem statLegend_errInfo (fr : Bool) (v : Word) (l : Legend) : (statLegend fr v l).errInfo = l.errInfo := by
  have h := congrArg Legend.errInfo (statLegend_sansPmc fr v l)
  exact h

theorem statLegend_intStat (fr : Bool) (v : Word) (l : Legend) : (statLegend fr v l).intStat = l.intStat ||| v := by
  have h := congrArg Legend.intStat (statLegend_sansPmc fr v l)
  exact h

theorem stdConds_errInfo (fr : Bool) (l : Legend) : (stdConds fr l).errInfo = l.errInfo := by
  unfold stdConds
  extract_lets v
  split
  · rfl
  · exact statLegend_errInfo fr v l

theorem bit_or (v w : Word) (i : Nat) : bit (v ||| w) i = (bit v i || bit w i) := BitVec.getLsbD_or

/-- The standard condition ERR sets INT_STAT.ERR of a header that holds a captured error. -/
theorem stdConds_err (fr : Bool) {l : Legend} (h : bit l.errInfo 31 = true) : bit (stdConds fr l).intStat 31 = true := by
  unfold stdConds
  extract_lets v
  have err : bit v 31 = true := by
    simp only [v, if_pos h, bit_or, show bit (oneBit 31) 31 = true from rfl, Bool.true_or]
  split
  next hv => rw [hv] at err; exact absurd err (by decide)
  next =>
    rw [statLegend_intStat, bit_or, err, Bool.or_true]

theorem setConds_err (s : State) : ∀ e ∈ (setConds s).legends, bit e.2.errInfo 31 = true → bit e.2.intStat 31 = true := by
  intro e he captured
  obtain ⟨x, -, rfl⟩ := List.mem_map.mp (List.mem_filter.mp he).1
  rw [stdConds_errInfo] at captured
  exact stdConds_err _ captured

/-! ### The messages of a vector (R86) -/

theorem vecOpen_eq_false {s : State} {v : Nat} (hb : behaviour s 4 = false)
    (h : bit (getReg s (ra (pg .int) (0x80C + 16 * v))) 0 = true ∨ s.intr.fmask = true) : vecOpen s v = false := by
  rcases h with h | h <;> simp [vecOpen, hb, h]

theorem vecOpen_eq_true {s : State} {v : Nat} (hb : behaviour s 4 = false) (hp : s.dev.pcieUp = true) (hf : s.intr.fmask = false)
    (hm : bit (getReg s (ra (pg .int) (0x80C + 16 * v))) 0 = false) : vecOpen s v = true := by
  simp [vecOpen, hb, hp, hf, hm]

theorem sendVec_of_closed {s : State} {v : Nat} (h : vecOpen s v = false) :
    sendVec s v = { s with intr := { s.intr with pba := s.intr.pba ||| 2 ^ v } } := by
  simp [sendVec, h]

theorem sendVec_of_open {s : State} {v : Nat} (h : vecOpen s v = true) (hb : behaviour s 4 = false) :
    sendVec s v = emit (.msix v) s := by
  simp [sendVec, h, hb]

theorem releaseVec_of_open {s : State} {v : Nat} (hp : s.intr.pba.testBit v = true) (h : vecOpen s v = true) :
    releaseVec s v = sendVec { s with intr := { s.intr with pba := s.intr.pba ^^^ 2 ^ v } } v := by
  simp [releaseVec, hp, h]

theorem releaseVec_of_clear {s : State} {v : Nat} (hp : s.intr.pba.testBit v = false) : releaseVec s v = s := by
  simp [releaseVec, hp]

/-! ### Writes of the Legend header (R68, R71, R75, R80, R84) -/

/-- A header command that is granted on an assigned page carries out its effect. -/
theorem exec_header {i : Instr} {m : Master} {page off : Nat} {f : State → State} {s t : State}
    (he : exec i s = meaning i (headerCmd m page off f) s) (hg : Granted i m (ra page off) s) (hp : (pageAt page).isSome = true)
    (hf : f (checkedBy m s) = t) : exec i s = .next (settle t) := by
  obtain ⟨hw, hr, hperm⟩ := hg
  rw [he, meaning_of_wf _ hw, headerCmd_granted f hr hperm hp, hf]

theorem clearErr_valid (page : Nat) (s : State) :
    clearErr page (oneBit 31) s = modLegend page (fun l => { l with errInfo := setFld l.errInfo 31 30 0 }) s := rfl

/-- A write of PMC `k` sets it once the pending carries are applied. -/
theorem pmcPut_counter (m : Master) (page : Nat) {k : Nat} (v : Word) (s : State) (hk : k < 8) :
    pmcPut m page (0x088 + 4 * k) v s = modLegend page (fun l => { l with pmc := l.pmc.set k v }) (modLegend page pmcCarry s) := by
  have off : 0x088 + 4 * k < 0x0A8 := by omega
  have index : (0x088 + 4 * k - 0x088) / 4 = k := by omega
  simp only [pmcPut, if_pos off, index]

theorem mem_allPages {p : Nat} (h : (pageAt p).isSome = true) : p ∈ allPages := by
  simp only [pageAt, pageRowAt, Option.isSome_map, List.find?_isSome, Bool.and_eq_true, decide_eq_true_eq] at h
  obtain ⟨r, hr, lo, hi⟩ := h
  exact List.mem_flatMap.mpr ⟨r, hr, List.mem_map.mpr ⟨p - r.first, List.mem_range.mpr (by omega), by omega⟩⟩

/-- SYS_GSNAP.GO as a fold of SNAP.GO over every page. -/
theorem exec_sysGsnapGo {m : Master} {s : State} (hg : Granted (.sysGsnapGo m) m (ra (pg .sys) 0x114) s) :
    exec (.sysGsnapGo m) s = .next (settle (allPages.foldl (fun t p => snapGo m p t) (checkedBy m s))) := by
  have run := exec_granted (f := gsnapGo m) rfl hg
  rwa [gsnapGo] at run

section
variable {m : Master} {p : Nat} {s : State}

theorem pipePage_assigned (hp : p < 42) : (pageAt (pg .pipe p)).isSome = true := by
  rw [pageAt_pipe hp]
  rfl

theorem quiescable_pipe (hp : p < 42) : quiescable (pg .pipe p) = true := by
  rw [quiescable, pageAt_pipe hp]

theorem pageInst_pipe (hp : p < 42) : pageInst (pg .pipe p) = p := by
  rw [pageInst, pageAt_pipe hp]

theorem qreqWrite_set (hp : p < 42) (h : (legend s (pg .pipe p)).qreq = false) :
    qreqWrite (pg .pipe p) true s = pipeQuiesce p (modLegend (pg .pipe p) (fun l => { l with qreq := true }) s) := by
  simp [qreqWrite, quiescable_pipe hp, pageInst_pipe hp, h]

theorem qreqWrite_clear (hp : p < 42) (h : (legend s (pg .pipe p)).qreq = true) :
    qreqWrite (pg .pipe p) false s = pipeLeave p (modLegend (pg .pipe p) (fun l => { l with qreq := false }) s) := by
  simp [qreqWrite, quiescable_pipe hp, pageInst_pipe hp, h]

theorem enWrite_set (hp : p < 42) (h : (legend s (pg .pipe p)).en = false) :
    enWrite m (pg .pipe p) true s = pipeLeave p (modLegend (pg .pipe p) (fun l => { l with en := true }) s) := by
  simp [enWrite, quiescable_pipe hp, pageInst_pipe hp, h]

theorem enWrite_clear_of_quiesced (hp : p < 42) (h : (legend s (pg .pipe p)).en = true) (hq : (legend s (pg .pipe p)).quiesced = true) :
    enWrite m (pg .pipe p) false s = modLegend (pg .pipe p) (fun l => { l with en := false }) s := by
  simp [enWrite, quiescable_pipe hp, h, hq]

theorem enWrite_clear_of_not_quiesced (hp : p < 42) (h : (legend s (pg .pipe p)).en = true)
    (hq : (legend s (pg .pipe p)).quiesced = false) :
    enWrite m (pg .pipe p) false s = regErr m (ra (pg .pipe p) 0x008) 0x07 s := by
  simp [enWrite, quiescable_pipe hp, h, hq]

theorem srstWrite_of_quiesced_or_retired (hp : p < 42) (h : (legend s (pg .pipe p)).quiesced = true ∨ (pipeOf s p).role = 3) :
    srstWrite m (pg .pipe p) s = pipeSrst p s := by
  rcases h with h | h <;> simp [srstWrite, quiescable_pipe hp, pageInst_pipe hp, h]

end

section
variable {page : Nat} (h : quiescable page = false)
include h

/-! The page of a block that is no pipeline holds none of QREQ, EN and SRST. -/

theorem qreqWrite_of_not_quiescable (b : Bool) (s : State) : qreqWrite page b s = s := by
  simp [qreqWrite, h]

theorem enWrite_of_not_quiescable (m : Master) (b : Bool) (s : State) : enWrite m page b s = s := by
  simp [enWrite, h]

theorem srstWrite_of_not_quiescable (m : Master) (s : State) : srstWrite m page s = s := by
  simp [srstWrite, h]

end

/-! ### Pipelines (R200-R205) -/

/-- A change of a pipeline that keeps a view of pipelines keeps it of all. -/
theorem pipeOf_modPipe_keeps {β : Type} (view : Pipe → β) {f : Pipe → Pipe} (hf : ∀ x, view (f x) = view x) (p q : Nat) (s : State) :
    view (pipeOf (modPipe p f s) q) = view (pipeOf s q) := by
  unfold pipeOf modPipe
  by_cases hq : p = q ∧ q < s.pipes.length
  · obtain ⟨rfl, hlt⟩ := hq
    simp [List.getD_eq_getElem?_getD, hlt, hf, pipeOf]
  · rw [List.getD_eq_getElem?_getD, List.getElem?_set, List.getD_eq_getElem?_getD]
    split
    next h =>
      have out : ¬ q < s.pipes.length := fun hlt => hq ⟨h, hlt⟩
      simp [h, out]
    next => rfl

section
variable {p : Nat} {s : State}

theorem occulting_withdrawPending (d : Nat) :
    occulting (modPipe p (fun x => { x with occPend := false }) s) d = occulting s d := by
  have same := fun q => pipeOf_modPipe_keeps (fun x => x.role == 1 && !inShort x) (f := fun x => { x with occPend := false })
    (fun _ => rfl) p q s
  simp only [occulting, same]

theorem failCode_withdrawPending (o : Nat) :
    (pipeOf (modPipe p (fun x => { x with occPend := false }) s) o).failCode = (pipeOf s o).failCode :=
  pipeOf_modPipe_keeps Pipe.failCode (f := fun x => { x with occPend := false }) (fun _ => rfl) p o s

/-- QREQ = 1 on a live pipeline starts the short set of the occulted one, if there is one, while that has passed so far. -/
theorem pipeQuiesce_of_live_passed (hl : (pipeOf s p).role = 0)
    (ho : (occulting s (pipeDir p)).all (fun o => (pipeOf s o).failCode == 0) = true) :
    pipeQuiesce p s = startShort (pipeDir p) (modPipe p (fun x => { x with occPend := false }) s) := by
  simp only [pipeQuiesce, hl, if_true, startShort, occulting_withdrawPending, failCode_withdrawPending]
  cases hocc : occulting s (pipeDir p) with
  | none => rfl
  | some o =>
    rw [hocc, Option.all_some, beq_iff_eq] at ho
    simp only [ho, if_true]

theorem pipeQuiesce_of_live_failed {o : Nat} (hl : (pipeOf s p).role = 0) (ho : occulting s (pipeDir p) = some o)
    (hf : (pipeOf s o).failCode ≠ 0) : pipeQuiesce p s = modPipe p (fun x => { x with occPend := false }) s := by
  simp only [pipeQuiesce, hl, if_true, occulting_withdrawPending, failCode_withdrawPending, ho, hf, if_false]

/-- QREQ = 1 on a live pipeline: the bit is set, and what it does to the occulted one follows. -/
theorem qreqWrite_of_live_passed (hp : p < 42) (hl : (pipeOf s p).role = 0) (hq : (legend s (pg .pipe p)).qreq = false)
    (ho : (occulting s (pipeDir p)).all (fun o => (pipeOf s o).failCode == 0) = true) :
    qreqWrite (pg .pipe p) true s = startShort (pipeDir p) (modPipe p (fun x => { x with occPend := false })
      (modLegend (pg .pipe p) (fun l => { l with qreq := true }) s)) :=
  (qreqWrite_set hp hq).trans (pipeQuiesce_of_live_passed (s := modLegend _ _ s) hl ho)

theorem qreqWrite_of_live_failed {o : Nat} (hp : p < 42) (hl : (pipeOf s p).role = 0) (hq : (legend s (pg .pipe p)).qreq = false)
    (ho : occulting s (pipeDir p) = some o) (hf : (pipeOf s o).failCode ≠ 0) :
    qreqWrite (pg .pipe p) true s = modPipe p (fun x => { x with occPend := false })
      (modLegend (pg .pipe p) (fun l => { l with qreq := true }) s) :=
  (qreqWrite_set hp hq).trans (pipeQuiesce_of_live_failed (s := modLegend _ _ s) hl ho hf)

theorem pipeFaultAt_of_live (unit stage : Nat) (h : (pipeOf s p).role = 0) : pipeFaultAt p unit stage s = liveFault p unit stage s := by
  simp [pipeFaultAt, h]

theorem testCode_passed {x : Pipe} (h : x.bad = false) : testCode x 0 = 0 := by
  simp [testCode, h]

theorem testCode_failed {x : Pipe} {c : Nat} (h : c ≠ 0) : testCode x c = c := by
  simp [testCode, h]

/-- An occulted pipeline's cycle is at its end: it runs, and 320 ticks have passed since its start (R202). -/
def CycleOver (s : State) (p : Nat) : Prop :=
  (pipeOf s p).role = 1 ∧ inShort (pipeOf s p) = false ∧ (pipeOf s p).running = true ∧ cycleTicks ≤ tdiff (now s) (pipeOf s p).cycAt

theorem testCycleEnd_of_over {c : Nat} (h : CycleOver s p) :
    testCycleEnd p c s =
      (let s1 := modPipe p (fun x => { x with bad := false, cycAt := now s }) (bump (pg .pipe p) 0x238 1 s)
       if testCode (pipeOf s p) c = 0 then modPipe p (fun x => { x with cycles := min 65535 (x.cycles + 1) }) s1
       else testFail p (testCode (pipeOf s p) c) s1) := by
  obtain ⟨role, notShort, runs, due⟩ := h
  simp [testCycleEnd, role, notShort, runs, due]

theorem shortKatEnd_of_passed {t : Tick} (hs : (pipeOf s p).short = some t) (hr : (pipeOf s p).running = true)
    (hb : (pipeOf s p).bad = false) :
    shortKatEnd p 0 s = modPipe p (fun x => { x with short := none, liveAt := some (t + 2) }) (testDone p true s) := by
  simp [shortKatEnd, hs, hr, testCode_passed hb]

theorem shortKatEnd_of_failed {t : Tick} {c : Nat} (hs : (pipeOf s p).short = some t) (hr : (pipeOf s p).running = true) (hc : c ≠ 0) :
    shortKatEnd p c s = retire p 0x07 0 0 (testFail p c (testDone p false s)) := by
  simp [shortKatEnd, hs, hr, testCode_failed hc, hc]

section
variable (hr : (pipeOf s p).role = 2) (hd : cycleTicks ≤ tdiff (now s) (pipeOf s p).cycAt) {t : State}
include hr hd

theorem returnCycleEnd_of_failed {c : Nat} (hc : c ≠ 0) (ht : t = testFail p c (bump (pg .pipe p) 0x238 1 (testDone p false s))) :
    returnCycleEnd p c s = retire p (pipeOf t p).failCode 0 0 t := by
  have code : (c == 0) = false := beq_false_of_ne hc
  simp [returnCycleEnd, hr, Nat.not_lt.mpr hd, testCode_failed hc, hc, code, ht]

theorem returnCycleEnd_of_passed (hb : (pipeOf s p).bad = false)
    (ht : t = setReady (pg .pipe p) (bump (pg .pipe p) 0x238 1 (testDone p true s)))
    (ho : (pipesOf (pipeDir p)).any (fun q => (pipeOf t q).role == 1 || (pipeOf t q).occPend) = true) :
    returnCycleEnd p 0 s = setRole p 0 t := by
  subst ht
  have running : ¬ ((pipeOf s p).role != 2 || decide (tdiff (now s) (pipeOf s p).cycAt < cycleTicks)) = true := by
    simp [hr, Nat.not_lt.mpr hd]
  rw [returnCycleEnd, if_neg running, testCode_passed hb]
  exact if_pos ho

end

theorem pageQuiesced_pipe (hp : p < 42) (s : State) : pageQuiesced (pg .pipe p) s = pipeQuiesced p s := by
  rw [pageQuiesced, pageAt_pipe hp]

theorem pipeQuiesced_of_idle (hq : (legend s (pg .pipe p)).qreq = true) (hn : (legend s (pg .pipe p)).quiesced = false)
    (hb : pipeBusy s p = false) :
    pipeQuiesced p s = modLegend (pg .pipe p) (fun l => { l with quiesced := true })
      (setRole p (if (pipeOf s p).role = 3 then 3 else 4)
        (modPipe p (fun x => { x with running := false, short := none, liveAt := none }) s)) := by
  simp [pipeQuiesced, hq, hn, hb]

theorem rotaRun_of_due {d : Nat} (h : (s.rota.getD d ⟨0, 0, false⟩).due = true) :
    rotaRun d s =
      (let t := rotaStep d s
       { t with rota := t.rota.set d { (t.rota.getD d (s.rota.getD d ⟨0, 0, false⟩)) with left := 8000, due := false } }) := by
  unfold rotaRun
  exact if_pos h

end

/-! ### Plain register writes (R63-R67) -/

section
variable {m : Master} {off be : Nat} {v : Word} {s : State}

/-- A granted write of one word, as its page's assignment and its byte enables decide. -/
theorem exec_registerWrite (hg : Granted (.registerWrite m off be ⟨v, []⟩) m (off / 4 * 4) s) :
    exec (.registerWrite m off be ⟨v, []⟩) s = .next (settle (
      if (pageAt (off / 0x1000)).isNone then unmapped m (off / 4 * 4) (checkedBy m s)
      else if be = 15 then writeWord m (off / 4 * 4) v (checkedBy m s) else regErr m (off / 4 * 4) 0x03 (checkedBy m s))) := by
  obtain ⟨hw, hr, hp⟩ := hg
  have ranges := hw
  simp only [Instr.wf, Bool.and_eq_true, decide_eq_true_eq, List.length_nil] at ranges
  obtain ⟨⟨-, hoff⟩, hbe⟩ := ranges
  have addr : off % 2 ^ 24 / 4 * 4 = off / 4 * 4 := by omega
  have page : off / 4 * 4 / 0x1000 = off / 0x1000 := by omega
  refine exec_eq (f := regWrite m off be v) rfl hw ?_
  rw [regWrite, addr, regCmd_granted _ hr hp, page, Nat.mod_eq_of_lt hbe]

/-- A wholly read-only register refuses a write, in the Legend header and in its block's own map. -/
theorem writeWord_readOnly {a : Nat} {r : RegRow} (hp : (pageAt (a / 0x1000)).isSome = true) (hr : regRow a = some r) (ha : r.acc = .ro) :
    writeWord m a v s = regErr m a 0x05 s := by
  obtain ⟨⟨k, i⟩, hk⟩ := Option.isSome_iff_exists.mp hp
  have header : ra (a / 0x1000) (a % 0x1000) = a := Nat.div_add_mod' a 0x1000
  simp only [writeWord, hk, hr, legendWrite, ha, if_true, header, ite_self]

/-- GRT_STALL_THR takes its writable bits. -/
theorem writeWord_grtStallThr :
    writeWord m 0x1120 v s = setReg s 0x1120 ((getReg s 0x1120 &&& ~~~ (wd 0xFFFF)) ||| (v &&& wd 0xFFFF)) := by
  have page : pageAt (0x1120 / 0x1000) = some (.grt, 0) := rfl
  have row : regRow 0x1120 = some (rRW 0x120 1 0xFFFF 8) := rfl
  rw [writeWord, page, row]
  rfl

end

end Sys2Proof.Machine

namespace Sys2Proof.Proofs
open Sys2Proof.Machine

/-- Settles O4: a step that runs a command ends in `settle`, whose last act sets the pin. -/
theorem faultNInvariantIsKept : Obligations.FaultNInvariantIsKept := by
  intro s t hs h
  rcases step_settled h with ⟨idle, rfl⟩ | ⟨-, u, rfl⟩
  · exact hs.resolve_left fun busy => busy idle
  · exact settle_faultN u

/-- Settles O5: `settle` asserts the vectors of the sources that are pending. -/
theorem assertedVectorsInvariantIsKept : Obligations.AssertedVectorsInvariantIsKept :=
  fun _ _ => step_keeps_of_settle (P := fun u => u.intr.asserted = assertedVecs u) fun _ => settle_asserted

/-- Settles O6: `settle` sets INT_STAT.ERR in every header that holds a captured error. -/
theorem capturedErrorsStayPending : Obligations.CapturedErrorsStayPending := by
  intro s t hs h ht
  refine step_keeps_of_settle (P := fun u => ∀ e ∈ u.legends, bit e.2.errInfo 31 = true → bit e.2.intStat 31 = true) ?_ hs h ht
  intro u hu
  rw [settle_legends hu]
  exact setConds_err u

/-- Settles O3, by the frames of the condition sources, the delivery and the pin. -/
theorem settleChangesOnlyTheLegendHeadersTheDeliveryAndTheOutput :
    Obligations.SettleChangesOnlyTheLegendHeadersTheDeliveryAndTheOutput :=
  settle_differs

/-- Settles O9, from whether the vector is open. -/
theorem maskedVectorsWaitInThePendingBits : Obligations.MaskedVectorsWaitInThePendingBits := by
  refine ⟨?_, ?_, ?_⟩
  · intro s v hb hm
    exact sendVec_of_closed (vecOpen_eq_false hb hm)
  · intro s v hb hp hf hm hpba
    have isOpen := vecOpen_eq_true hb hp hf hm
    rw [releaseVec_of_open hpba isOpen]
    exact sendVec_of_open isOpen hb
  · intro s v hpba
    exact releaseVec_of_clear hpba

/-- Settles O16: each command's effect on the state in which its access has been counted. -/
theorem headerCommandsActOnTheirPage : Obligations.HeaderCommandsActOnTheirPage := by
  refine ⟨?_, ?_, ?_, ?_, ?_, ?_, ?_⟩
  · intro m page s hg hp
    exact exec_header rfl hg hp rfl
  · intro m s hg
    exact exec_sysGsnapGo hg
  · intro m page v s hg hp
    exact exec_header rfl hg hp rfl
  · intro m page v s hg hp
    exact exec_header rfl hg hp rfl
  · intro m page s hg hp
    exact exec_header rfl hg hp (clearErr_valid page _)
  · intro m page v s hg hp
    exact exec_header rfl hg hp rfl
  · intro m page k v s hk hg hp
    exact exec_header rfl hg hp (pmcPut_counter m page v _ hk)

/-- Settles O17: SYS_GSNAP.GO folds SNAP.GO over the pages, and every assigned page is among them. -/
theorem theGlobalSnapshotIsASnapshotOfEveryPage : Obligations.TheGlobalSnapshotIsASnapshotOfEveryPage := by
  intro m s hg
  exact ⟨exec_sysGsnapGo hg, fun p => mem_allPages⟩

/-- Settles O18: each bit of LEGEND_CTRL on a pipeline's page in the state it is written in, and on the page of another block. -/
theorem legendControlCommandsActOnTheirPage : Obligations.LegendControlCommandsActOnTheirPage := by
  refine ⟨?_, ?_, ?_, ?_, ?_, ?_, ?_, ?_, ?_⟩
  · intro m page s hg hp
    exact exec_header rfl hg hp rfl
  · intro m p s hg hp hl hq ho
    exact exec_header rfl hg (pipePage_assigned hp) (qreqWrite_of_live_passed (s := checkedBy m s) hp hl hq ho)
  · intro m p o s hg hp hl hq ho hf
    exact exec_header rfl hg (pipePage_assigned hp) (qreqWrite_of_live_failed (s := checkedBy m s) hp hl hq ho hf)
  · intro m p s hg hp hq
    exact exec_header rfl hg (pipePage_assigned hp) (qreqWrite_clear (s := checkedBy m s) hp hq)
  · intro m p s hg hp he
    exact exec_header rfl hg (pipePage_assigned hp) (enWrite_set (s := checkedBy m s) hp he)
  · intro m p s hg hp he hq
    exact exec_header rfl hg (pipePage_assigned hp) (enWrite_clear_of_quiesced (s := checkedBy m s) hp he hq)
  · intro m p s hg hp he hq
    exact exec_header rfl hg (pipePage_assigned hp) (enWrite_clear_of_not_quiesced (s := checkedBy m s) hp he hq)
  · intro m p s hg hp h
    exact exec_header rfl hg (pipePage_assigned hp) (srstWrite_of_quiesced_or_retired (s := checkedBy m s) hp h)
  · intro m page b s i hp hn hi hg
    simp only [List.mem_cons, List.not_mem_nil, or_false] at hi
    rcases hi with rfl | rfl | rfl
    · exact exec_header rfl hg hp (qreqWrite_of_not_quiescable hn b _)
    · exact exec_header rfl hg hp (enWrite_of_not_quiescable hn m b _)
    · exact exec_header rfl hg hp (srstWrite_of_not_quiescable hn m _)

/-- Settles O26: a write of one word by its page, its byte enables and its register; one of two words as two writes. -/
theorem registerWriteReplacesTheWritableBits : Obligations.RegisterWriteReplacesTheWritableBits := by
  refine ⟨?_, ?_, ?_, ?_, ?_⟩
  · intro m v s hg
    rw [exec_registerWrite hg, if_neg (by decide), if_pos rfl, writeWord_grtStallThr]
    rfl
  · intro m off be v s hg hp
    rw [exec_registerWrite hg, hp]
    rfl
  · intro m off be v s hg hp hbe
    rw [exec_registerWrite hg, if_neg (by simp [Option.isSome_iff_ne_none.mp hp]), if_neg (by omega)]
  · intro m off v s r hg hp hr hacc
    have page : off / 4 * 4 / 0x1000 = off / 0x1000 := by omega
    rw [exec_registerWrite hg, if_neg (by simp [Option.isSome_iff_ne_none.mp hp]), if_pos rfl,
      writeWord_readOnly (by rwa [page]) hr hacc]
  · intro m off v w s hw
    exact exec_eq (f := regWriteAll m off 15 v [w]) rfl hw rfl

/-- Settles O45: each event of a pipeline in the state in which it is due. -/
theorem pipelinesAreTestedAndQuiesced : Obligations.PipelinesAreTestedAndQuiesced := by
  refine ⟨?_, ?_, ?_, ?_, ?_, ?_, ?_, ?_, ?_, ?_⟩
  · intro p n s hp hn hl
    exact exec_eq rfl (by simp [Instr.wf, hp, hn]) (pipeFaultAt_of_live 0 n hl)
  · intro p u s hp hu hl
    exact exec_eq rfl (by simp [Instr.wf, hp, hu]) (pipeFaultAt_of_live u 0 hl)
  · rintro d r s rfl hd
    exact exec_eq rfl rfl (rotaRun_of_due hd)
  · intro p s hp hr hs hrun hb hd
    refine exec_eq rfl (by simp [Instr.wf, hp]) ?_
    rw [testCycleEnd_of_over ⟨hr, hs, hrun, hd⟩, testCode_passed hb]
    rfl
  · intro p c s hp hc h0 hr hs hrun hd
    refine exec_eq rfl (by simp [Instr.wf, hp, hc]) ?_
    rw [testCycleEnd_of_over ⟨hr, hs, hrun, hd⟩, testCode_failed h0, if_neg h0]
  · intro p t s hp hs hr hb
    exact exec_eq rfl (by simp [Instr.wf, hp]) (shortKatEnd_of_passed hs hr hb)
  · intro p t c s hp hc h0 hs hr
    exact exec_eq rfl (by simp [Instr.wf, hp, hc]) (shortKatEnd_of_failed hs hr h0)
  · intro p c t s hp hc h0 hr hd ht
    exact exec_eq rfl (by simp [Instr.wf, hp, hc]) (returnCycleEnd_of_failed hr hd h0 ht)
  · intro p t s hp hr hb hd ht ho
    exact exec_eq rfl (by simp [Instr.wf, hp]) (returnCycleEnd_of_passed hr hd hb ht ho)
  · intro p s hp hq hn hb
    exact exec_eq rfl (decide_eq_true (pageAt_lt (pipePage_assigned hp)))
      ((pageQuiesced_pipe hp s).trans (pipeQuiesced_of_idle hq hn hb))

end Sys2Proof.Proofs
end

section
/-! SUPPORT. Proofs about the Ethernet ports and the frames that pass them: the orders PORT_MAP, PORT_EQ, MEM_RETRAIN, SEAL_REKEY and
MER_STEP (R92, R115, R340, R374, R377), the way of a frame from admission to the wire (R104, R152, R193, R194, R243), and the events of
links, control frames, flow control and preemption (R96, R97, R105, R108, R115, R343). -/

namespace Sys2Proof.Machine

/-! ### Orders of ports, channels, keys and Meridian (R92, R115, R340, R374, R377) -/

section
variable {ord : Nat} {s : State}

/-- PORT_MAP with partitions that fit stages them with the group's mode and type. -/
theorem portMapReq_of_fits {side : Side} {g : Nat} {ps : List Nat} (h : partsOk s side g (stagedMode s side g) ps = true) :
    portMapReq ord side g ps s =
      { s with maps := s.maps ++ [{ ord := ord, side := side, group := g, mode := stagedMode s side g,
                                    iftype := stagedType s side g, parts := ps }] } := by
  simp [portMapReq, h]

/-- PORT_EQ on an enabled port that is not being equalised: the port falls, and waits for its lanes from now. -/
theorem portEqReq_of_idle {r : Bool} {side : Side} {p : Nat} (hon : portOn s side p = true) (heq : (portOf s side p).eq = none) :
    portEqReq ord r side p s =
      modPort side p (fun x => { x with eq := some (ord, now s), eqTrained := r && x.iftype != 0, training := r && x.iftype != 0 })
        (linkFall side p true true (some 2) s) := by
  simp [portEqReq, hon, heq]

section
variable (hr : s.sealPath.retrain = none) (hs : sweeping s = false)
include hr hs

/-- MEM_RETRAIN with no retraining and no sweep under way: a channel that is not mapped out starts to move its granules out. -/
theorem memRetrain_of_idle {c : Nat} (hc : (chanState s c).st ≠ 5) :
    memRetrain ord c s =
      modChan c (fun x => { x with prog := 0 }) (chanTo c 2 { s with sealPath := { s.sealPath with retrain := some (c, ord) } }) := by
  simp [memRetrain, hr, hs, hc]

/-- SEAL_REKEY then starts the sweep of a key whose generation can still rise. -/
theorem sealRekey_of_idle {k : Nat} (hk : s.sealPath.gen.getD k 0 ≠ 0xFFFF) :
    sealRekey ord k s = { s with sealPath := { s.sealPath with rekey := some (k, some ord), rekeySwept := 0 } } := by
  simp only [sealRekey, hr, hs, hk, Option.isSome_none, Bool.or_false, Bool.false_eq_true, if_false]

end

section
variable {sec ns fr d : Nat} (hns : ns ≤ 999999999) (hd : (sec * 1000000000 + ns) * nsUnit + fr * nsUnit / 2 ^ 16 = d)
include hns hd

/-- MER_STEP without the PPS bit steps Meridian at once by its offset `d`, up or down, within Meridian's range. -/
theorem merStepReq_forward (h : s.time.mer + d < merTop) :
    merStepReq ord false false sec ns fr s = stepMer ord (s.time.mer + d) s := by
  have range : ¬ (false && decide (s.time.mer < d) || !false && decide (merTop ≤ s.time.mer + d)) = true := by
    simp [h]
  simp only [merStepReq, hd]
  rw [if_neg Bool.false_ne_true, if_neg (by omega), if_neg range, if_neg Bool.false_ne_true]

theorem merStepReq_backward (h : d ≤ s.time.mer) :
    merStepReq ord true false sec ns fr s = stepMer ord (s.time.mer - d) s := by
  have range : ¬ (true && decide (s.time.mer < d) || !true && decide (merTop ≤ s.time.mer + d)) = true := by
    simp [h]
  simp only [merStepReq, hd]
  rw [if_neg Bool.false_ne_true, if_neg (by omega), if_neg range, if_pos trivial]

end

/-- A step at the next pulse waits with the time at which it was taken. -/
theorem merStepReq_pps {sec : Nat} (h : sec < 2 ^ 48) :
    merStepReq ord false true sec 0 0 s = { s with mer := { s.mer with step := s.mer.step ++ [(ord, sec, s.time.mer)] } } := by
  have fits : ¬ 2 ^ 48 ≤ sec := Nat.not_le.mpr h
  simp only [merStepReq, fits]
  rfl

end

/-! ### Admission and dispatch (R104, R194, R249) -/

section
variable {d : Dir} {f : Frame} {s : State}

/-- The first Polar frame that may be admitted goes first. -/
theorem frameAdmit_of_polar (h : firstOf ((slotWaiters s d).filter (fun f => mayAdmit s d f.cls && f.cls == 0)) = some f) :
    frameAdmit d s = admitFrame f.id s := by
  simp only [frameAdmit, List.filter_filter, Bool.and_comm (_ == 0), h]

/-- With no Polar frame that may be admitted, the first of the others does. -/
theorem frameAdmit_of_noPolar (hn : ∀ x ∈ slotWaiters s d, mayAdmit s d x.cls = true → x.cls ≠ 0)
    (h : firstOf ((slotWaiters s d).filter (fun f => mayAdmit s d f.cls)) = some f) : frameAdmit d s = admitFrame f.id s := by
  have noPolar : ((slotWaiters s d).filter (fun f => mayAdmit s d f.cls)).filter (fun f => f.cls == 0) = [] :=
    List.filter_eq_nil_iff.mpr fun x hx => by
      obtain ⟨waits, may⟩ := List.mem_filter.mp hx
      simpa using hn x waits may
  simp only [frameAdmit, noPolar, h]
  rfl

/-- The frames of a direction that a gang could take now: ready, and a received one whole (R12). -/
def readyFrames (d : Dir) (s : State) : List Frame :=
  s.frames.list.filter (fun f => f.dir == d && f.stage == .ready && (d == .enc || arrived s f))

theorem dispatchOne_of_polar (hf : (readyFrames d s).find? (fun f => f.cls == 0) = some f)
    (hg : gangSize s f ≤ (freePipes s (dirNum d)).length) : dispatchOne d s = dispatchFrame f s := by
  rw [readyFrames] at hf
  simp only [dispatchOne, hf, if_pos hg]

/-- With no Polar frame ready, the oldest other one goes when it leaves the express reserve, or is short. -/
theorem dispatchOne_of_other {r : List Frame} (hl : readyFrames d s = f :: r) (hn : ∀ x ∈ readyFrames d s, x.cls ≠ 0)
    (hg : gangSize s f ≤ (freePipes s (dirNum d)).length)
    (hx : frameBlocks f ≤ 16 ∨ xres s d + gangSize s f ≤ expressOpen s (dirNum d)) : dispatchOne d s = dispatchFrame f s := by
  have noPolar : (readyFrames d s).find? (fun f => f.cls == 0) = none :=
    List.find?_eq_none.mpr fun x hm => by simpa using hn x hm
  rw [hl] at noPolar
  rw [readyFrames] at hl
  simp [dispatchOne, hl, noPolar, hg, hx]

end

/-! ### The fill of an SA's record (R152, R367, R395) -/

section
variable {i : Nat} {s : State} (h : s.orb.fills.contains i = true)
include h

theorem orbitFill_of_tag : orbitFill i .tag s = fillFail i (tagFail .orbit (homeAddr i) s) := by
  simp only [orbitFill, h, Bool.not_true, Bool.false_eq_true, if_false]

theorem orbitFill_of_integ : orbitFill i .integ s = fillFail i (portIntegrity .orbit (homeAddr i) s) := by
  simp only [orbitFill, h, Bool.not_true, Bool.false_eq_true, if_false]

/-- A home block that can be read and fits its directory entry is installed. -/
theorem orbitFill_of_fits {b : Bytes} {t : State} (hr : sealRead .orbit (homeAddr i) 256 s = (some b, t))
    (hf : fillFits (saOf s i) (bytesToWords 64 b) = true) : orbitFill i .passed s = fillDone i (bytesToWords 64 b) t := by
  simp only [orbitFill, h, hr, hf, Bool.not_true, Bool.false_eq_true, if_false, if_true]

end

/-! ### A gang finishes (R193, R200) -/

/-- At its clock the frame `id` of direction `d` has a gang, whose last block is done. -/
def GangDue (id clk : Nat) (d : Dir) (f : Frame) (s : State) : Prop :=
  frameOf (frameTime clk s) id = some f ∧ f.gang ≠ [] ∧ f.doneAt ≤ (frameTime clk s).time.cyc ∧ f.dir = d

section
variable {id clk : Nat} {f : Frame} {s : State}

/-- A whole frame sealed by its gang frees it and queues, unless its emission has begun already. -/
theorem gangEnd_of_enc (b : Bool) (h : GangDue id clk .enc f s) (hr : f.receiving = false) :
    gangEnd id clk b s =
      modFrame id (fun f => { f with stage := if f.stage == .gang then .queued else f.stage }) (releaseGang f (frameTime clk s)) := by
  obtain ⟨hf, hg, hd, hdir⟩ := h
  simp [gangEnd, hf, hg, Nat.not_lt.mpr hd, hdir, hr]

/-- A disagreement of the ICV comparators is a fault of the gang's lowest pipeline. -/
theorem gangEnd_of_icvFault (h : GangDue id clk .dec f s) :
    gangEnd id clk true s = liveFault (f.gang.headD 0) 3 0 (frameTime clk s) := by
  obtain ⟨hf, hg, hd, hdir⟩ := h
  simp [gangEnd, hf, hg, Nat.not_lt.mpr hd, hdir]

/-- Without one the received frame is verified, its gang free. -/
theorem gangEnd_of_dec (h : GangDue id clk .dec f s) :
    gangEnd id clk false s = verifyRx { f with gang := [] } (f.gang.headD 0) (releaseGang f (frameTime clk s)) := by
  obtain ⟨hf, hg, hd, hdir⟩ := h
  simp [gangEnd, hf, hg, Nat.not_lt.mpr hd, hdir]

end

/-! ### Egress (R243) -/

section
variable {side : Side} {p clk : Nat} {s t : State}

/-- On a free wire with no preempted frame, the port's Tropic or Comet frame is next. -/
theorem egressRest_of_free (hw : portFree s side p = true) (hs : suspended s (dirOut side) p = none) :
    egressRest side p s = beginOther (dirOut side) p s := by
  simp only [egressRest, hw, hs, Bool.not_true, Bool.false_eq_true, if_false]

variable (ht : t = egressFirst side p ([0, 1, 2].foldl (fun s c => pruneQueue (dirOut side) p c s.frames.list.length s) (frameTime clk s)))
include ht

/-- What comes before a port's queues has had its turn: a Polar frame that is ready begins as soon as its wires are clear. -/
theorem egressNext_of_polar {f : Frame} {at_ : Nat} {u : State} (hq : (classQueue t (dirOut side) p 0).head? = some f)
    (hr : frameReady t f = true) (hb : mayBegin t f = true) (hc : clearWire t (dirOut side) (emitPorts t f) none = some (at_, u)) :
    egressNext side p clk s = beginTx f at_ u := by
  simp only [egressNext, ← ht, hq, hr, hb, hc, Bool.not_true, Bool.false_eq_true, if_false]

/-- With no Polar frame queued, the rest of the port's frames follow. -/
theorem egressNext_of_noPolar (hq : classQueue t (dirOut side) p 0 = []) : egressNext side p clk s = egressRest side p t := by
  simp only [egressNext, ← ht, hq, List.head?_nil]

end

/-! ### Link up and link down (R96, R97, R115) -/

section
variable {side : Side} {p : Nat} {s : State}

/-- The end of a PORT_EQ that waits for its lanes. -/
theorem eqEnd_of_waiting {o : Nat} {t : Tick} (st : Status) (h : (portOf s side p).eq = some (o, t)) :
    eqEnd side p st s =
      event (portPage side p) 6 (endOrder o st 0 (modPort side p (fun x => { x with eq := none, training := false }) s)) := by
  simp only [eqEnd, h]

theorem portEqLimit_of_late {o : Nat} {t : Tick} (h : (portOf s side p).eq = some (o, t)) (hl : 16000 ≤ tdiff (now s) t) :
    portEqLimit side p s = eqEnd side p .fault s := by
  simp only [portEqLimit, h, if_pos hl]

section
variable (hon : portOn s side p = true)
include hon

/-- An enabled port that is down, and not held down, comes up on both sides. -/
theorem linkUpCmd_of_down (ha : bit (getReg s (ra (portPage side p) 0x108)) 1 = false) (hl : linkUp (portOf s side p) = false) :
    linkUpCmd side p s = eqEnd side p .ok (event (portPage side p) 0 (setTx side p 0
      (modPort side p (fun x => verifyAtUp s side p { x with ingUp := true, egUp := true, aligned := true, training := false }) s))) := by
  simp [linkUpCmd, hon, ha, hl]

/-! A loss of signal and ADMIN_DOWN take both sides down, a remote fault the egress alone. -/

theorem linkDownCmd_loss : linkDownCmd side p 0 s = linkFall side p true true (some 1) s := by
  simp [linkDownCmd, hon]

theorem linkDownCmd_remoteFault : linkDownCmd side p 1 s = linkFall side p false true none s := by
  simp [linkDownCmd, hon]

theorem linkDownCmd_admin (ha : bit (getReg s (ra (portPage side p) 0x108)) 1 = true) :
    linkDownCmd side p 2 s = linkFall side p true true (some 2) s := by
  simp [linkDownCmd, hon, ha]

/-! ### Frames of agents (R113, R240, R343) -/

/-- The frame of an agent that the device makes of its bytes: under the port's own address, in the Tropic class. -/
def agentFrame (s : State) (side : Side) (p : Nat) (b : Bytes) : Frame :=
  { Frame.fresh (dirOut side) p (padMin (b.take 6 ++ portMac s side p ++ b.drop 12)) s.time.mer (now s) with
    kind := .control, cls := 1, dest := p, cells := cellsOf ((padMin (b.take 6 ++ portMac s side p ++ b.drop 12)).length + 4) }

theorem controlTx_of_may {b : Bytes} (ht : traffic s = true ∨ controlOnly s = true) (ha : agentMay s side p b = true)
    (hm : macSet s side p = true) :
    controlTx side p b s = reachAdmission s.frames.nextId (addFrame (agentFrame s side p b) s) := by
  have carried : (traffic s || controlOnly s) = true := (Bool.or_eq_true _ _).mpr ht
  simp only [controlTx, hon, carried, ha, hm, Bool.not_true, Bool.or_self, Bool.false_eq_true, if_false]
  rfl

/-! ### Preemption verification (R108, R109) -/

section
variable (hl : linkUp (portOf s side p) = true) (hv : (portOf s side p).verify = 1)
include hl hv

/-- An attempt of a port that verifies sends its frame: an answer ends the verification well. -/
theorem verifyTry_of_answered :
    verifyTry side p true s =
      modPort side p (fun x => { x with verify := 2, verTries := x.verTries + 1 }) (emit (.verify side p false) s) := by
  simp [verifyTry, hon, hl, hv]

/-- An attempt without an answer is followed by another; the third is the last. -/
theorem verifyTry_of_triesLeft (h : (portOf s side p).verTries < 2) :
    verifyTry side p false s = modPort side p (fun x => { x with verTries := x.verTries + 1 }) (emit (.verify side p false) s) := by
  have again : (portOf s side p).verTries + 1 < 3 := Nat.succ_lt_succ h
  simp [verifyTry, hon, hl, hv, again]

theorem verifyTry_of_lastTry (h : 2 ≤ (portOf s side p).verTries) :
    verifyTry side p false s =
      event (portPage side p) 5 (modPort side p (fun x => { x with verify := 3, verTries := 3 }) (emit (.verify side p false) s)) := by
  have last : ¬ (portOf s side p).verTries + 1 < 3 := Nat.not_lt.mpr (Nat.succ_le_succ h)
  simp [verifyTry, hon, hl, hv, last]

end

/-- A request of the link partner is answered on a port whose sides are up. -/
theorem verifyAnswer_of_up (hi : (portOf s side p).ingUp = true) (he : egOpen s side p = true) (hm : idleMode s = false) :
    verifyAnswer side p s = emit (.verify side p true) s := by
  simp [verifyAnswer, hon, hi, he, hm]

end

end

/-! ### Priority flow control (R105) -/

/-- A paused plain port whose refresh falls due at `d`, once that time is reached, sends its PFC frame again. -/
theorem pfcAgain_of_due {p q d : Nat} {s t : State} (hq : q = regFld s (ra (pg .plain p) 0x118) 15 0)
    (hd : d = (portOf s .plain p).pfcAt + lineTime (portRate s .plain p) (q * 32)) (hon : portOn s .plain p = true)
    (hx : (portOf s .plain p).xoff = true) (hw : (portOf s .plain p).pfcWait = []) (he : bit (getReg s (ra (pg .plain p) 0x118)) 31 = true)
    (ht : t = advanceMer d s) (hdue : d ≤ t.time.mer) : pfcAgain .plain p s = sendPfc p q t := by
  have stays : ¬ (Side.plain == Side.line || !(portOf s .plain p).pfcWait.isEmpty || !portOn s .plain p || !(portOf s .plain p).xoff ||
      !bit (getReg s (ra (pg .plain p) 0x118)) 31) = true := by
    simp [hw, hon, hx, he]
  simp only [pfcAgain]
  rw [if_neg stays, ← hq, ← hd, ← ht, if_neg (Nat.not_lt.mpr hdue)]

end Sys2Proof.Machine

namespace Sys2Proof.Proofs
open Sys2Proof.Machine

/-- Settles O30: each order starts its work on the state in which it has been taken. -/
theorem portMemoryAndTimeOrdersStartTheirWork : Obligations.PortMemoryAndTimeOrdersStartTheirWork := by
  refine ⟨?_, ?_, ?_, ?_, ?_, ?_, ?_⟩
  · intro h side g ps s ha hfit
    rw [exec_accepted rfl ha, carryOrder, portMapReq_of_fits (s := taken h (.portMap side g ps) s) hfit]
    rfl
  · intro h r side p s ha hon heq
    rw [exec_accepted rfl ha, carryOrder, portEqReq_of_idle (s := taken h (.portEq r side p) s) hon heq]
    rfl
  · intro h c s ha hr hs hc
    rw [exec_accepted rfl ha, carryOrder, memRetrain_of_idle (s := taken h (.memRetrain c) s) hr hs hc]
    rfl
  · intro h k s ha hr hs hk
    rw [exec_accepted rfl ha, carryOrder, sealRekey_of_idle (s := taken h (.sealRekey k) s) hr hs hk]
    rfl
  · intro h sec ns fr s ha hd
    rw [exec_accepted rfl ha, carryOrder,
      merStepReq_forward (s := taken h (.merStep false false sec ns fr) s) (of_decide_eq_true (formed_of_accepted ha)) rfl hd]
    rfl
  · intro h sec ns fr s ha hd
    rw [exec_accepted rfl ha, carryOrder,
      merStepReq_backward (s := taken h (.merStep true false sec ns fr) s) (of_decide_eq_true (formed_of_accepted ha)) rfl hd]
    rfl
  · intro h sec s ha
    have width : sec < 2 ^ 48 := by simpa [Instr.wf] using ha.1
    rw [exec_accepted rfl ha, carryOrder, merStepReq_pps width]
    rfl

/-- Settles O43: each event in the state in which a frame, a fill or a gang is due. -/
theorem framesMoveThroughTheEngine : Obligations.FramesMoveThroughTheEngine := by
  refine ⟨?_, ?_, ?_, ?_, ?_, ?_, ?_, ?_, ?_, ?_, ?_, ?_⟩
  · intro d f s hf
    exact exec_eq rfl rfl (frameAdmit_of_polar hf)
  · intro d f s hn hf
    exact exec_eq rfl rfl (frameAdmit_of_noPolar hn hf)
  · intro d f s hf hg
    exact exec_eq rfl rfl (dispatchOne_of_polar hf hg)
  · rintro d l f r s rfl hl hn hg hx
    exact exec_eq rfl rfl (dispatchOne_of_other hl hn hg hx)
  · intro side p clk f s t at_ u hw ht hq hr hb hc
    exact exec_eq rfl hw (egressNext_of_polar ht hq hr hb hc)
  · intro side p clk s t hw ht hq hfree hs
    exact exec_eq rfl hw ((egressNext_of_noPolar ht hq).trans (egressRest_of_free hfree hs))
  · intro i s hw hi
    exact exec_eq rfl hw (orbitFill_of_tag hi)
  · intro i s hw hi
    exact exec_eq rfl hw (orbitFill_of_integ hi)
  · intro i s b t hw hi hr hf
    exact exec_eq rfl hw (orbitFill_of_fits hi hr hf)
  · intro id clk b f s hw hf hg hd hdir hr
    exact exec_eq rfl hw (gangEnd_of_enc b ⟨hf, hg, hd, hdir⟩ hr)
  · intro id clk f s hw hf hg hd hdir
    exact exec_eq rfl hw (gangEnd_of_icvFault ⟨hf, hg, hd, hdir⟩)
  · intro id clk f s hw hf hg hd hdir
    exact exec_eq rfl hw (gangEnd_of_dec ⟨hf, hg, hd, hdir⟩)

/-- Settles O44: each event of an enabled port in the state in which it is due. -/
theorem linkEventsMoveTheirPort : Obligations.LinkEventsMoveTheirPort := by
  refine ⟨?_, ?_, ?_, ?_, ?_, ?_, ?_, ?_, ?_, ?_, ?_⟩
  · intro side p s hp hon ha hl
    exact exec_eq rfl (decide_eq_true hp) (linkUpCmd_of_down hon ha hl)
  · intro side p s hp hon
    exact exec_eq rfl (by simp [Instr.wf, hp]) (linkDownCmd_loss hon)
  · intro side p s hp hon
    exact exec_eq rfl (by simp [Instr.wf, hp]) (linkDownCmd_remoteFault hon)
  · intro side p s hp hon ha
    exact exec_eq rfl (by simp [Instr.wf, hp]) (linkDownCmd_admin hon ha)
  · intro side p o t s hp heq hl
    exact exec_eq rfl (decide_eq_true hp) ((portEqLimit_of_late heq hl).trans (eqEnd_of_waiting .fault heq))
  · rintro side p b s f - hw hon ht ha hm rfl
    exact exec_eq rfl hw (controlTx_of_may hon ht ha hm)
  · intro p q d s t hp hq hd hon hx hw he ht hdue
    exact exec_eq rfl (decide_eq_true hp) (pfcAgain_of_due hq hd hon hx hw he ht hdue)
  · intro side p s hp hon hl hv
    exact exec_eq rfl (decide_eq_true hp) (verifyTry_of_answered hon hl hv)
  · intro side p s hp hon hl hv hn
    exact exec_eq rfl (decide_eq_true hp) (verifyTry_of_triesLeft hon hl hv hn)
  · intro side p s hp hon hl hv hn
    exact exec_eq rfl (decide_eq_true hp) (verifyTry_of_lastTry hon hl hv hn)
  · intro side p s hp hon hi he hm
    exact exec_eq rfl (decide_eq_true hp) (verifyAnswer_of_up hon hi he hm)

end Sys2Proof.Proofs
end

section
/-! SUPPORT. Proofs about classification and its neighbours: the read-backs of the tables (R121, R122, R148, R168, R229), the indices of the
rings (R258, R387, R409, R410, R420), the scheduled orders (R140, R220, R221, R229, R236, R284), and the Almanac writes, sweeps and surveys
(R136, R141, R142, R212). -/

namespace Sys2Proof.Machine

/-! ### Register commands -/

/-- A granted register command whose effect on the counted state is known. -/
theorem exec_register {i : Instr} {m : Master} {a : Nat} {f : State → State} {s t : State} (he : exec i s = meaning i (regCmd m a f) s)
    (hg : Granted i m a s) (hf : f (checkedBy m s) = t) : exec i s = .next (settle t) := by
  rw [exec_granted he hg, hf]

/-! ### Seeds and read-backs (R121, R122, R148, R168) -/

theorem seedWrite_of_configure {m : Master} {k : Nat} {v : Word} {s : State} (hm : s.dev.mode = .configure) :
    seedWrite m k v s =
      { setReg s (ra (pg .gaz) (0x100 + 4 * k)) v with gaz := { s.gaz with work := [], edits := s.gaz.edits + 1 } } := by
  have inside : modeIn [.configure] s = true := by simp [modeIn, hm]
  simp only [seedWrite, inModes, inside, if_true]
  rfl

/-- The key that the query registers of GAZ_RD spell. -/
def gazQueryKey (s : State) : Nat :=
  leNat (wordsToBytes ((List.range 4).map (fun i => getReg s (ra (pg .gaz) (0x120 + 4 * i)))))

theorem gazRead_of_found {s : State} {n : Nat} {e : GazEntry}
    (hf : workFind s (regFld s (ra (pg .gaz) 0x130) 7 4) (regFld s (ra (pg .gaz) 0x130) 3 0) (gazQueryKey s) = some (n, e)) :
    gazRead s = event (pg .gaz) 2
      { s with gaz := { s.gaz with
          rdPos := wd (2 ^ 31 + n)
          rdData := bytesToWords 4 (leBytes 16 e.key) ++
            [wd (slotCheck n (some e) * 2 ^ 16 + e.kind * 16 + e.port), wd (gazData5 (some e))] } } := by
  unfold regFld gazQueryKey at hf
  simp only [gazRead, hf]

theorem conRead_of_entry {s : State} {e : ConEntry} (he : s.con.work[regFld s (ra (pg .con) 0x104) 15 0]? = some e) :
    conRead s = event (pg .con) 1
      { s with con := { s.con with
          rd := bytesToWords 5 (leBytes 20 e.value) ++ bytesToWords 5 (leBytes 20 e.mask) ++
            [wd (2 ^ 31 + e.action * 2 ^ 29 + e.cls * 2 ^ 27 + e.sa), wd e.prio] } } := by
  simp only [conRead, he]

/-! ### Reads of pending Eclipse entries (R229) -/

theorem toNat_and_three (w : Word) : (w &&& 3).toNat = w.toNat % 4 := by
  rw [BitVec.toNat_and]
  exact Nat.and_two_pow_sub_one_eq_mod w.toNat 2

/-- The kind that ECL_RD selects stands in the two bits it keeps. -/
theorem fld_and_three (w : Word) : fld (w &&& 3) 1 0 = fld w 1 0 := by
  simp only [fld, toNat_and_three]
  simp

/-- A command bit above the kind is not kept. -/
theorem or_and_three (w : Word) {c : Word} (hc : c &&& 3 = 0) : (w ||| c) &&& 3 = w &&& 3 := by
  rw [BitVec.and_comm, BitVec.and_or_distrib_left, BitVec.and_comm 3 c, hc]
  exact BitVec.or_zero.trans (BitVec.and_comm 3 w)

theorem setBit_two (w : Word) : setBit w 2 true = w ||| 4 := by
  have clear : setBit w 2 true = (w &&& ~~~ 4) ||| 4 := rfl
  rw [clear]
  ext i hi
  simp only [BitVec.getElem_or, BitVec.getElem_and, BitVec.getElem_not]
  cases w[i] <;> cases (4 : Word)[i] <;> rfl

/-- GO reads the first entry of the kind and the SA selected. -/
theorem eclRdGo_of_go (w : Word) (s : State) :
    eclRdGo (setBit w 2 true) s =
      eclRead (fld w 1 0) (regFld s (ra (pg .ecl) 0x120) 20 0) 0 (setReg s (ra (pg .ecl) 0x124) (w &&& 3)) := by
  have kept : (w ||| 4) &&& 3 = w &&& 3 := or_and_three w (by decide)
  have kind : fld (w ||| 4) 1 0 = fld w 1 0 := by rw [← fld_and_three, kept, fld_and_three]
  have go : bit (w ||| 4) 2 = true := by rw [bit_or, show bit 4 2 = true by decide, Bool.or_true]
  rw [setBit_two, eclRdGo]
  simp only [kept, kind, go, if_true]

/-- NEXT reads the entry after the one last read, of the kind that the register holds. -/
theorem eclNextRead_of_kind {s : State} (h : regFld s (ra (pg .ecl) 0x124) 31 2 = 0) :
    eclNextRead s =
      eclRead (regFld s (ra (pg .ecl) 0x124) 1 0) (regFld s (ra (pg .ecl) 0x120) 20 0) (s.ecl.rdPos + 1)
        (setReg s (ra (pg .ecl) 0x124) (getReg s (ra (pg .ecl) 0x124))) := by
  unfold eclNextRead regFld at *
  generalize getReg s (ra (pg .ecl) 0x124) = w at h ⊢
  have small : w.toNat < 4 := by
    have := w.isLt
    simp only [fld] at h
    omega
  have kept : (w ||| 8) &&& 3 = w := by
    rw [or_and_three w (by decide)]
    exact BitVec.eq_of_toNat_eq ((toNat_and_three w).trans (Nat.mod_eq_of_lt small))
  have kind : fld (w ||| 8) 1 0 = fld w 1 0 := by rw [← fld_and_three, kept]
  have noGo : bit (w ||| 8) 2 = false := by
    rw [bit_or, show bit 8 2 = false by decide, Bool.or_false]
    exact Nat.testBit_lt_two_pow small
  have next : bit (w ||| 8) 3 = true := by rw [bit_or, show bit 8 3 = true by decide, Bool.or_true]
  rw [eclRdGo]
  simp only [kept, kind, noGo, next, if_true]
  rfl

/-! ### Indices of the rings (R258, R387, R409, R410, R420) -/

theorem ite_lt_eq_ite_le {α : Type} (a b : Nat) (x y : α) : (if a < b then x else y) = if b ≤ a then y else x := by
  simp only [← Nat.not_le, ite_not]

section
variable {m : Master} {s : State}

theorem ordEnWrite_on (h : ordEn s = false) (hr : ordRingsOk s = true) :
    ordEnWrite m true s =
      { setReg s (ra (pg .ord) 0x100) 0x80000000 with ords := { s.ords with sqHead := 0, sqTail := 0, cqHead := 0, cqTail := 0 } } := by
  simp [ordEnWrite, h, hr]

theorem ordEnWrite_off_of_outstanding (h : ordEn s = true) (ho : outstanding s ≠ 0) :
    ordEnWrite m false s = regErr m (ra (pg .ord) 0x100) 0x41 s := by
  simp [ordEnWrite, h, ho]

theorem eraEnWrite_on (h : eraEn s = false) (hr : eraRingOk s = true) :
    eraEnWrite m true s = { setReg s (ra (pg .era) 0x100) 0x80000000 with era := { s.era with prod := 0, cons := 0 } } := by
  simp [eraEnWrite, h, hr]

theorem smpEn_on (h : bit (getReg s (ra (pg .smp) 0x100)) 31 = false) :
    smpEn true s = { setReg s (ra (pg .smp) 0x100) 0x80000000 with smp := { s.smp with prod := 0, cons := 0 } } := by
  have enabled : setBit 0 31 true = 0x80000000 := by decide
  simp only [smpEn, h, enabled]
  rfl

variable (m) (v : Word) (s)

theorem sqTailWrite_eq :
    sqTailWrite m v s =
      if tdiff v s.ords.sqHead ≤ sqSlots s then { s with ords := { s.ords with sqTail := v } }
      else regErr m (ra (pg .ord) 0x10C) 0x06 s := by
  rw [sqTailWrite, ite_lt_eq_ite_le]

theorem cqHeadWrite_eq :
    cqHeadWrite m v s =
      if tdiff v s.ords.cqHead ≤ tdiff s.ords.cqTail s.ords.cqHead then { s with ords := { s.ords with cqHead := v } }
      else regErr m (ra (pg .ord) 0x11C) 0x06 s := by
  rw [cqHeadWrite, ite_lt_eq_ite_le]

theorem eraConsWrite_eq :
    eraConsWrite m v s =
      if tdiff v s.era.cons ≤ tdiff s.era.prod s.era.cons then { s with era := { s.era with cons := v } }
      else regErr m (ra (pg .era) 0x10C) 0x06 s := by
  rw [eraConsWrite, ite_lt_eq_ite_le]

theorem smpConsWrite_eq :
    smpConsWrite m v s =
      if tdiff v s.smp.cons ≤ tdiff s.smp.prod s.smp.cons then { s with smp := { s.smp with cons := v } }
      else regErr m (ra (pg .smp) 0x10C) 0x06 s := by
  rw [smpConsWrite, ite_lt_eq_ite_le]

end

/-! ### Scheduled orders (R140, R220, R221, R229, R236, R284, R311) -/

section
variable {s : State}

theorem surveyStart_of_idle {ord b c : Nat} {r : Bool} (h : s.swp.survey = none) :
    surveyStart ord b c r s =
      { s with swp := { s.swp with survey := some { ord := some ord, base := b, count := c, rep := r, active := false, next := 0,
                                                    seen := 0, stop := false, doneTick := none } } } := by
  simp [surveyStart, h]

/-- In the twin modes a tick-scheduled order enters the tick list (R311). -/
theorem pairItem_of_twinMode (it : ListItem) (f : State → State) (h : twinMode s = true) : pairItem it f s = listAdd it s := by
  simp [pairItem, h]

theorem eclRequest_of_ok {o : Option Nat} {a : Bool} {k i n f : Nat} {t : Tick} (h : eclJudge s k i n t f = .ok) :
    eclRequest o a k i n t f s = eclAccept o a k i n t f s := by
  simp only [eclRequest, h]

theorem eclCancel_of_selected {o : Option Nat} {k i : Nat} {t : Tick} {e : EclEntry} (h : eclSelect s k i t = some e) :
    eclCancel o k i t s = endOpt o .ok 0 (eclCancelOne 0x84 s e) := by
  simp only [eclCancel, h]

theorem tsiSwapReq_of_free {o : Option Nat} {d : Nat} {t : Tick} (ht : targetOk s t = true)
    (hf : (s.tsi.swap.getD d []).any (fun x => x.1 == t) = false) :
    tsiSwapReq o d t s =
      { s with tsi := { s.tsi with swap := s.tsi.swap.set d (s.tsi.swap.getD d [] ++ [(t, o)]) } } := by
  unfold targetOk at ht
  simp only [tsiSwapReq, ht, hf]
  rfl

/-- An advance is not refused when its mask selects counters and none of them is spent. -/
theorem advanceRefused_of_live {m : Nat} (hn : maskCtrs m ≠ []) (hl : (maskCtrs m).all (fun c => !(almOf s c).spent) = true) :
    advanceRefused s m = none := by
  have live : (maskCtrs m).any (fun c => (almOf s c).spent) = false := by
    simpa [List.any_eq_not_all_not] using hl
  simp [advanceRefused, hn, live]

/-- An advance of counters none of which is spent is held as one that has not failed. -/
theorem advanceGo_of_live {ord m t : Nat} (hl : (maskCtrs m).all (fun c => !(almOf s c).spent) = true) :
    advanceGo (some ord) m t s =
      (let u := (maskCtrs m).foldl (fun u c => almRequest c (max ((almOf u c).epoch + 1) t) u) s
       { u with alm := { u.alm with
         ords := u.alm.ords ++ [{ id := ord, ctrs := maskCtrs m, target := t, written := false, failed := false }] } }) := by
  have sound : (maskCtrs m).any (fun c => (almOf s c).spent && (almOf s c).noSpare) = false := by
    rw [List.any_eq_false]
    intro c hc
    have live : (almOf s c).spent = false := by simpa using List.all_eq_true.mp hl c hc
    simp [live]
  simp only [advanceGo, sound]

/-- A spent counter that no renewal is under way for, with nothing bound to it and a spare generation left, may be renewed. -/
theorem renewRefused_of_spent {c : Nat} (hs : (almOf s c).spent = true) (hr : renewing (almOf s c) = false)
    (hb : almBound s c = 0) (hn : (almOf s c).noSpare = false) (hg : (almOf s c).gen ≠ 0xFFFF) :
    renewRefused s c false = none := by
  simp [renewRefused, hs, hr, hb, hn, hg]

end

/-! ### Almanac writes, sweeps and surveys (R136, R141, R142, R212) -/

section
variable {s t : State}

/-- The instant of the Almanac write: clock 180,000 of a running tick is reached, and `t` is the state then (R20). -/
def AlmanacDue (s t : State) : Prop :=
  s.time.run = true ∧ s.time.clk ≤ 180000 ∧ t = advanceTo 180000 s ∧ t.time.clk = 180000

theorem almanacWrite_of_due (fs : List Nat) (h : AlmanacDue s t) :
    almanacWrite fs s =
      if t.twin.alignFixed then (if now t + 1 = t.twin.alignTick then (List.range 16).foldl (alignWriteOne fs) t else t)
      else
        let u := ((List.range 16).filter (fun c => (almOf t c).wrote.isNone)).foldl (almWriteOne fs) t
        { u with alm := { u.alm with
          ords := u.alm.ords.map (fun o => if o.ctrs.all (fun c => (almOf u c).req.isNone) then { o with written := true } else o) } } := by
  obtain ⟨hrun, hclk, rfl, hat⟩ := h
  have runs : ¬ (!s.time.run || decide (180000 < s.time.clk)) = true := by simp [hrun, hclk]
  have reached : ¬ ((advanceTo 180000 s).time.clk != 180000) = true := by simp [hat]
  simp only [almanacWrite, if_neg runs, if_neg reached]

/-- Slot `n` lies in this tick's part of the Gazetteer and the sweeper has not passed it (R136). -/
def SlotDue (n : Nat) (s : State) : Prop :=
  (now s).toNat % 128 * 16384 ≤ n ∧ n < (now s).toNat % 128 * 16384 + 16384 ∧ s.swp.visited ≤ n

theorem sweeperVisit_of_due {n : Nat} (bad hit : Bool) (h : SlotDue n s) :
    sweeperVisit n bad hit s =
      (let t := bump (pg .swp) 0x200 1 { s with swp := { s.swp with visited := n + 1 } }
       if bad then
         event (pg .swp) 2 (misRecord 4 n (bump (pg .swp) 0x218 1 { t with gaz := { t.gaz with work := slotSet t.gaz.work n none } }))
       else ageVisit n hit t) := by
  obtain ⟨hlo, hhi, hv⟩ := h
  have due : ¬ (decide (n < (now s).toNat % 128 * 16384) || decide ((now s).toNat % 128 * 16384 + 16384 ≤ n) ||
      decide (n < s.swp.visited)) = true := by
    simp [hlo, hhi, hv]
  simp only [sweeperVisit, if_neg due]

/-- A slot emptied because it is bad is no entry that aged out: nothing goes to a joiner. -/
theorem sweeperVisitCmd_of_bad (n : Nat) (hit : Bool) : sweeperVisitCmd n true hit s = sweeperVisit n true hit s := by
  simp only [sweeperVisitCmd, Bool.true_or, if_true]
  split <;> rfl

theorem surveyTick_of_active {v : Survey} (hs : s.swp.survey = some v) (ha : v.active = true) (hn : v.next < v.count)
    (hd : v.doneTick ≠ some (now s)) :
    surveyTick s =
      ((List.range (min 16384 (v.count - v.next))).map (fun i => v.next + i)).foldl (compareOne v.base)
        { s with swp := { s.swp with
          survey := some { v with next := v.next + min 16384 (v.count - v.next), doneTick := some (now s) } } } := by
  have due : ¬ (!v.active || decide (v.count ≤ v.next) || decide (v.doneTick = some (now s))) = true := by
    simp [ha, hn, hd]
  simp only [surveyTick, hs, if_neg due]

/-- A record due for its second look that holds a sound shadow entry is recorded exactly when it still differs (R141). -/
theorem surveyRecheck_of_read {n : Nat} {x : Nat × Nat × Tick} {b : Bytes}
    (hx : s.swp.recheck.find? (fun x => x.1 == n && isDue (now s) x.2.2) = some x)
    (hr : readBar2 .record (x.2.1 + 32 * n) 32 { s with swp := { s.swp with recheck := s.swp.recheck.erase x } } = (some b, t))
    (hv : shadowValid b = true) :
    surveyRecheck n s = (shadowCompare t b).elim t (fun y => misRecord y n t) := by
  simp only [surveyRecheck, hx, hr, hv]
  cases shadowCompare t b <;> rfl

theorem surveyPassEnd_of_once {v : Survey} (hs : s.swp.survey = some v) (ha : v.active = true) (hn : v.count ≤ v.next)
    (hr : v.rep = false) :
    surveyPassEnd s =
      (let n := gazCount s.gaz.work - gazDynCount s.gaz.work
       let t := endOpt v.ord .ok 0
        { s with swp := { s.swp with survey := none, passSeen := v.seen, passStatic := n, passEdits := s.gaz.edits } }
       if v.seen != n then event (pg .swp) 1 (misRecord 3 0 t) else t) := by
  have ended : ¬ (!v.active || decide (v.next < v.count)) = true := by simp [ha, hn]
  simp only [surveyPassEnd, hs, if_neg ended, hr]
  rfl

end

end Sys2Proof.Machine

namespace Sys2Proof.Proofs
open Sys2Proof.Machine

/-- Settles O20: each command on the state in which its access has been counted. -/
theorem tableReadBackCommandsLoadTheirRegisters : Obligations.TableReadBackCommandsLoadTheirRegisters := by
  refine ⟨?_, ?_, ?_, ?_, ?_, ?_, ?_⟩
  · intro m k v s hg hm
    exact exec_register rfl hg (seedWrite_of_configure (s := checkedBy m s) hm)
  · intro m s n e hg hf
    exact exec_register rfl hg (gazRead_of_found (s := checkedBy m s) hf)
  · intro m s e hg he
    exact exec_register rfl hg (conRead_of_entry (s := checkedBy m s) he)
  · rintro m s _ hg rfl
    exact exec_register rfl hg rfl
  · rintro m s _ hg rfl
    exact exec_register rfl hg rfl
  · intro m v s hg
    exact exec_register rfl hg (eclRdGo_of_go v _)
  · intro m s hg hk
    exact exec_register rfl hg (eclNextRead_of_kind (s := checkedBy m s) hk)

/-- Settles O21: the pops are their registers' effects; a ring's index is judged against its end. -/
theorem popAndRingCommandsMoveTheirIndices : Obligations.PopAndRingCommandsMoveTheirIndices := by
  refine ⟨?_, ?_, ?_, ?_, ?_, ?_, ?_, ?_, ?_, ?_, ?_, ?_, ?_, ?_, ?_, ?_⟩
  · intro m s hg
    exact exec_register rfl hg rfl
  · intro m s hg
    exact exec_register rfl hg rfl
  · intro m s hg
    exact exec_register rfl hg rfl
  · intro m s hg
    exact exec_register rfl hg rfl
  · intro m u s hg
    exact exec_register rfl hg rfl
  · intro m s hg
    exact exec_register rfl hg rfl
  · intro m s hg
    exact exec_register rfl hg rfl
  · intro m s hg he hr
    exact exec_register rfl hg (ordEnWrite_on (s := checkedBy m s) he hr)
  · intro m s hg he ho
    exact exec_register rfl hg (ordEnWrite_off_of_outstanding (s := checkedBy m s) he ho)
  · intro m v s hg
    exact exec_register rfl hg (sqTailWrite_eq m _ v)
  · intro m v s hg
    exact exec_register rfl hg (cqHeadWrite_eq m _ v)
  · intro m s hg he hr
    exact exec_register rfl hg (eraEnWrite_on (s := checkedBy m s) he hr)
  · intro m v s hg
    exact exec_register rfl hg (eraConsWrite_eq m _ v)
  · intro m v s hg
    exact exec_register rfl hg rfl
  · intro m s hg he
    exact exec_register rfl hg (smpEn_on (s := checkedBy m s) he)
  · intro m v s hg
    exact exec_register rfl hg (smpConsWrite_eq m _ v)

/-- Settles O33: each order on the state in which it has been taken, which judges it as the state before did. -/
theorem scheduledOrdersAreHeld : Obligations.ScheduledOrdersAreHeld := by
  refine ⟨?_, ?_, ?_, ?_, ?_, ?_, ?_, ?_⟩
  · intro h b c r s ha hs
    rw [exec_accepted rfl ha, carryOrder, surveyStart_of_idle (s := taken h (.surveyStart b c r) s) hs]
    rfl
  · intro h k i n t f s ha hm hj
    rw [exec_accepted rfl ha, carryOrder, pairItem_of_not_twinMode _ _ ((twinMode_taken ..).trans hm),
      eclRequest_of_ok (s := taken h (.eclSchedule k i n t f) s) hj]
    rfl
  · intro h k i t s e ha hm he
    rw [exec_accepted rfl ha, carryOrder, pairItem_of_not_twinMode _ _ ((twinMode_taken ..).trans hm),
      eclCancel_of_selected (s := taken h (.eclCancel k i t) s) he]
    rfl
  · intro h d t s ha hm hb hlo hhi hf
    have target : targetOk s t = true := (targetOk_iff s t).mpr ⟨hlo, hhi⟩
    have sound : ¬ tsiBad (taken h (.tsiSwap d t) s) (dirNum d) = true := ne_true_of_eq_false hb
    rw [exec_accepted rfl ha, carryOrder, if_neg sound, pairItem_of_not_twinMode _ _ ((twinMode_taken ..).trans hm),
      tsiSwapReq_of_free (s := taken h (.tsiSwap d t) s) target hf]
    rfl
  · intro h m t s ha hm hn hl
    rw [exec_accepted rfl ha, carryOrder, advanceRefused_of_live (s := taken h (.almAdvance m t) s) hn hl, almItem,
      pairItem_of_not_twinMode _ _ ((twinMode_taken ..).trans hm), advanceGo_of_live (s := taken h (.almAdvance m t) s) hl]
    rfl
  · intro h m t s ha hm hn hl
    rw [exec_accepted rfl ha, carryOrder, advanceRefused_of_live (s := taken h (.almAdvance m t) s) hn hl, almItem,
      pairItem_of_twinMode _ _ ((twinMode_taken ..).trans hm)]
  · intro h c s ha hm hs hr hl hb hn hg
    have unlisted : renewListed (taken h (.almRenew c) s) c = false := hl
    rw [exec_accepted rfl ha, carryOrder, unlisted, renewRefused_of_spent (s := taken h (.almRenew c) s) hs hr hb hn hg, almItem,
      pairItem_of_twinMode _ _ ((twinMode_taken ..).trans hm)]
  · intro h c s ha hm hs hr hl hb hn hg
    have unlisted : renewListed (taken h (.almRenew c) s) c = false := hl
    rw [exec_accepted rfl ha, carryOrder, unlisted, renewRefused_of_spent (s := taken h (.almRenew c) s) hs hr hb hn hg, almItem,
      pairItem_of_not_twinMode _ _ ((twinMode_taken ..).trans hm)]
    rfl

/-- Settles O55: each event in the state in which it is due. -/
theorem sweepsAndSurveysRun : Obligations.SweepsAndSurveysRun := by
  refine ⟨?_, ?_, ?_, ?_, ?_, ?_, ?_, ?_⟩
  · rintro fs t u s hrun hclk ht hat ha rfl
    have writes := almanacWrite_of_due fs ⟨hrun, hclk, ht, hat⟩
    rw [if_neg (by simp [ha])] at writes
    exact exec_eq rfl rfl writes
  · intro fs t s hrun hclk ht hat ha hn
    have writes := almanacWrite_of_due fs ⟨hrun, hclk, ht, hat⟩
    rw [if_pos ha, if_pos hn] at writes
    exact exec_eq rfl rfl writes
  · intro n h s hn hlo hhi hv
    exact exec_eq rfl (decide_eq_true hn) ((sweeperVisitCmd_of_bad n h).trans (sweeperVisit_of_due true h ⟨hlo, hhi, hv⟩))
  · intro n h s hn hlo hhi hv
    refine exec_eq rfl (decide_eq_true hn) ?_
    rw [sweeperVisitCmd, sweeperVisit_of_due false h ⟨hlo, hhi, hv⟩]
    rfl
  · intro v s hs ha hn hd
    exact exec_eq rfl rfl (surveyTick_of_active hs ha hn hd)
  · intro n x b t y s hn hx hr hv hy
    have again := surveyRecheck_of_read hx hr hv
    rw [hy] at again
    exact exec_eq rfl (decide_eq_true hn) again
  · intro n x b t s hn hx hr hv hy
    have again := surveyRecheck_of_read hx hr hv
    rw [hy] at again
    exact exec_eq rfl (decide_eq_true hn) again
  · intro v s hs ha hn hr
    exact exec_eq rfl rfl (surveyPassEnd_of_once hs ha hn hr)

end Sys2Proof.Proofs
end

section
/-! SUPPORT. Proofs about Eclipse rekeying: the state copy and the join of a twin (R324, R333, R436), and the steps of a key change
(R238). -/

namespace Sys2Proof.Machine

/-! ### The state copy and the join (R324, R333, R436) -/

section
variable {s t : State}

/-- A committed item of the copy is applied by a joiner whose trust stands (R324). -/
theorem stateCopyRx_of_item {bs p : Bytes} {it : ListItem} {n : Nat} (hm : twinMode s = true) (hr : oldReceive 9 bs s = (some p, t))
    (hb : (byteAt p 0).toNat = 2) (hj : t.dev.mode = .twinJoin) (hp : 2 ≤ t.twin.joinPhase)
    (hi : itemOf t (p.drop 1) = some (it, n)) : stateCopyRx bs s = joinItem it t := by
  have paired : ¬ (!twinMode s) = true := by simp [hm]
  have noWhole : ¬ (byteAt p 0).toNat = 0 := by simp [hb]
  have trusted : ¬ t.twin.joinPhase < 2 := by omega
  have applies : ¬ (!(t.dev.mode == .twinJoin) || decide (t.twin.joinPhase < 2)) = true := by simp [hj, trusted]
  simp only [stateCopyRx, hr, if_neg paired, if_neg noWhole, if_neg applies, if_pos hb, hi]

variable {qx qy : Nat}

/-- A joiner whose partner does not verify logs that and changes nothing else (R436). -/
theorem joinTrust_of_unverified {v : Bool} (id : Nat) (nonce : Bytes) (hm : s.dev.mode = .twinJoin) (hp : s.twin.joinPhase = 1)
    (hv : v = false ∨ onCurve p384 qx qy = false) :
    joinTrust v qx qy id nonce s = logEvent 0x0A [wd id, wd (id / 2 ^ 32)] s := by
  have copying : (s.dev.mode == .twinJoin && s.twin.joinPhase == 1) = true := by simp [hm, hp]
  have refused : (!v || !onCurve p384 qx qy) = true := by simpa using hv
  simp only [joinTrust, copying, refused, Bool.not_true, Bool.false_and, Bool.false_eq_true, if_false, if_true]

/-- An emitting Twin A that verifies its joiner holds the pair key, its own identity and nonce first (R436). -/
theorem joinTrust_of_emitting (id : Nat) (nonce : Bytes) (hm : s.dev.mode = .twinEmit) (hp : s.twin.peerPhase = 1)
    (ha : twinId s = 0) (hq : onCurve p384 qx qy = true) (hr : s.rng.st ≠ 2) :
    joinTrust true qx qy id nonce s =
      (let d := draw 32 (reseed s)
       { d.2 with keys := { d.2.keys with
          pairKey := some (kdf (attShared qx qy) "DX32 PAIR" (devIdBytes ++ beBytes 8 id ++ d.1 ++ slice nonce 0 32) 256) } }) := by
  have noCopy : (s.dev.mode == .twinJoin && s.twin.joinPhase == 1) = false := by simp [hm]
  have emitting : (modeIn [.twinEmit, .twinHold] s && s.twin.peerPhase == 1) = true := by simp [modeIn, hm, hp]
  simp only [joinTrust, noCopy, emitting, hq, ha, if_neg hr, Bool.not_true, Bool.or_self, Bool.and_false, Bool.false_eq_true, if_false,
    if_true]

/-- A joining Twin B that verifies its partner holds the pair key, and erases what it holds for the copy (R333, R436). -/
theorem joinTrust_of_joining (id : Nat) (nonce : Bytes) (hm : s.dev.mode = .twinJoin) (hp : s.twin.joinPhase = 1)
    (hb : twinId s ≠ 0) (hq : onCurve p384 qx qy = true) (hr : s.rng.st ≠ 2) :
    joinTrust true qx qy id nonce s =
      (let d := draw 32 (reseed s)
       joinErase { d.2 with keys := { d.2.keys with
          pairKey := some (kdf (attShared qx qy) "DX32 PAIR" (beBytes 8 id ++ devIdBytes ++ slice nonce 0 32 ++ d.1) 256) } }) := by
  have copying : (s.dev.mode == .twinJoin && s.twin.joinPhase == 1) = true := by simp [hm, hp]
  simp only [joinTrust, copying, hq, if_neg hb, if_neg hr, Bool.not_true, Bool.or_self, Bool.false_and, Bool.false_eq_true, if_false,
    if_true]

theorem joinReady_of_equal (hm : s.dev.mode = .twinJoin) (hp : s.twin.joinPhase = 2) (hd : s.twin.bulkDone = true)
    (hf : s.twin.peerFp = some s.twin.ownFp) :
    joinReady s = event (pg .twn) 3 { s with twin := { s.twin with joinPhase := 3 } } := by
  rw [joinReady, if_pos (by simp [hm, hp, hd, hf])]

theorem joinAbandon_of_three (hm : s.dev.mode = .twinJoin) (hn : 3 ≤ s.twin.notEmit) :
    joinAbandon s = trigger .configure 0x0D 4 none s := by
  rw [joinAbandon, if_pos (by simp [hm, hn])]

end

/-! ### The steps of a key change (R238) -/

section
variable {s t : State} {n rx : Nat} {c : MkaChange} {p : MkaPeer}

/-- A step of the agent that acts for its pair: `mkaStep` carries out the step's own effect, and `settle` follows. -/
theorem exec_mkaNewSak {st : MkaStep} {f : State → State} (he : mkaStep st s = if !mkaActs s then s else f s)
    (hw : (Instr.mkaNewSak st).wf = true) (ha : mkaActs s = true) (hf : f s = t) :
    exec (.mkaNewSak st) s = .next (settle t) := by
  have acts : ¬ (!mkaActs s) = true := by simp [ha]
  exact exec_eq rfl hw ((he.trans (if_neg acts)).trans hf)

/-- What a new transmit SA asks: an installed transmit SA of a MACsec suite on a channel with a CAK, a key of the suite's length, no
change that already makes this SA, and no failed one that still waits for its retry. -/
def Rekeyable (old new : Nat) (sak : Bytes) (s : State) : Prop :=
  (workSa s old).st = 1 ∧ (workSa s old).dir = 0 ∧ isMacsec (recSuite (workSa s old).record) = true ∧
    cakFor s (recLine (workSa s old).record) = true ∧ sak.length = keyLen (recSuite (workSa s old).record) ∧ mkaOf s new = none ∧
    mkaWaits s old = false

/-- Step 1: an installation that finds room in the queue begins the change. -/
theorem mkaInstall_of_queued {old new : Nat} {sak : Bytes} (hr : Rekeyable old new sak s)
    (hq : agentItem (.installImg new (nextImage (workSa s old).record (some (regFld s (ra (pg .ecl) 0x10C) 3 0))) (some sak) false) s =
      (true, t)) :
    mkaInstall old new sak s =
      { t with ecl := { t.ecl with
        mka := t.ecl.mka ++ [{ old := old, new := new, sak := sak, peers := [], announced := false, switchAt := none, retired := false }]
        mkaHold := t.ecl.mkaHold.filter (fun h => h.1 != old) } } := by
  obtain ⟨hst, hdir, hsuite, hcak, hlen, hnew, hwait⟩ := hr
  simp [mkaInstall, hst, hdir, hsuite, hcak, hlen, hnew, hwait, hq]

/-- Step 2: the first field of an installed SA is announced. -/
theorem mkaAnnounce_of_installed (hc : mkaOf s n = some c) (ha : c.announced = false) (hst : (saOf s n).st = 1) :
    mkaAnnounce n s =
      emit (.agent 0 .line (recLine (saOf s n).record) (announced (saOf s n)) none) (modMka n (fun c => { c with announced := true }) s) := by
  simp [mkaAnnounce, hc, ha, hst]

/-- Step 3: a peer's receive SA and the copies of its entries, when all of them find room. -/
theorem mkaPeer_of_queued {old : Nat} (hc : mkaOf s n = some c) (hst : (workSa s old).st = 1) (hdir : (workSa s old).dir = 1)
    (hnew : c.peers.any (fun p => p.new == rx) = false)
    (hq : agentItems (.installImg rx (nextImage (workSa s old).record none) (some c.sak) false ::
        (entriesOf s old).map (fun g => .gaz (copyEdit ((recAn (workSa s old).record + 1) % 4) rx g))) s = (true, t)) :
    mkaPeer n old rx s = modMka n (fun c => { c with peers := c.peers ++
      [{ old := old, new := rx, floorDone := false, firstAt := none, closing := false, cleaned := false }] }) t := by
  simp only [mkaPeer, hc, hst, hdir, hnew, hq]
  rfl

/-- Step 3: the announced number of an installed receive SA becomes its floor. -/
theorem mkaFloor_of_installed (f : Nat) (hc : mkaPeerOf s rx = some (c, p)) (hf : p.floorDone = false) (hst : (workSa s rx).st = 1) :
    mkaFloor rx f s = agentEclipse 1 rx 0 (earliest s) f (modPeer rx (fun p => { p with floorDone := true }) s) := by
  simp [mkaFloor, hc, hf, hst]

/-- Step 4: once every peer has its floor, the reported change is switched over after the margin. -/
theorem mkaReported_of_floors (hc : mkaOf s n = some c) (ha : c.announced = true) (hs : c.switchAt = none)
    (hf : c.peers.any (fun p => !p.floorDone) = false) :
    mkaReported n s =
      agentEclipse 0 c.old n (now s + wd (regFld s (ra (pg .ecl) 0x108) 15 0)) 0
        (modMka n (fun c => { c with switchAt := some (now s + wd (regFld s (ra (pg .ecl) 0x108) 15 0)) }) s) := by
  have due : ¬ (!c.announced || c.switchAt.isSome || c.peers.any (fun p => !p.floorDone)) = true := by rw [ha, hs, hf]; decide
  simp only [mkaReported, hc, if_neg due]

/-- Step 5: the old receive SA closes once the overlap has passed since the first frame under the new one. -/
theorem mkaClose_of_past {u : Tick} (hc : mkaPeerOf s rx = some (c, p)) (hf : p.firstAt = some u) (hn : p.closing = false)
    (ho : overlapPast s u = true) :
    mkaClose rx s = agentEclipse 2 p.old 0 (earliest s) 0 (modPeer rx (fun p => { p with closing := true }) s) := by
  simp [mkaClose, hc, hf, hn, ho]

/-- Step 5: a closed receive SA is cleaned up, when the deletions and the erase all find room. -/
theorem mkaCleanup_of_closed (hc : mkaPeerOf s rx = some (c, p)) (hn : p.cleaned = false) (hg : p.closing = true)
    (hd : (saOf s p.old).closed = true) (hst : (workSa s p.old).st ≠ 0)
    (hq : agentItems ((entriesOf s p.old).map (fun g => .gaz (dropEdit g)) ++ [.erase p.old]) s = (true, t)) :
    mkaCleanup rx s = mkaOver (modPeer rx (fun p => { p with cleaned := true }) t) := by
  simp [mkaCleanup, hc, hn, hg, hd, hst, hq]

/-- Step 6: RETIRE_READY is due once the overlap has passed since the old SA's switch to this one. -/
theorem mkaRetire_of_past {u : Tick} (hc : mkaOf s n = some c) (hs : c.switchAt = some u) (hr : c.retired = false)
    (ho : overlapPast s u = true) (hn : eclSuccessor s c.old = some n) :
    mkaRetire n s = eclNote 2 0 c.old (mkaOver (modMka n (fun c => { c with retired := true }) s)) := by
  simp [mkaRetire, hc, hs, hr, ho, hn]

theorem mkaFail_of_change (hc : mkaOf s n = some c) : mkaFail n s = agentFailed 0 c.old s := by
  simp only [mkaFail, hc]

end

end Sys2Proof.Machine

namespace Sys2Proof.Proofs
open Sys2Proof.Machine

/-- Settles O51: the copy and the join each in the state that takes them, the agreement through its steps. -/
theorem joiningTwinTakesItsCopy : Obligations.JoiningTwinTakesItsCopy := by
  refine ⟨?_, ?_, ?_, ?_, ?_, ?_, ?_, ?_⟩
  · intro bs p it n t s hm hr hb hj hp hi
    exact exec_eq rfl rfl (stateCopyRx_of_item hm hr hb hj hp hi)
  · intro v qx qy id nonce s hw hm hp hv
    exact exec_eq rfl hw (joinTrust_of_unverified id nonce hm hp hv)
  · intro qx qy id nonce s hw hm hp ha hq hr
    exact exec_eq rfl hw (joinTrust_of_emitting id nonce hm hp ha hq hr)
  · intro qx qy id nonce s hw hm hp hb hq hr
    exact exec_eq rfl hw (joinTrust_of_joining id nonce hm hp hb hq hr)
  · intro s hm hp hd hf
    exact exec_eq rfl rfl (joinReady_of_equal hm hp hd hf)
  · intro s hm hn
    exact exec_eq rfl rfl (joinAbandon_of_three hm hn)
  · intro n c s hw ha hc
    exact exec_mkaNewSak rfl hw ha (mkaFail_of_change hc)
  · rintro n c _ s hw ha hc han hs hf rfl
    exact exec_mkaNewSak rfl hw ha (mkaReported_of_floors hc han hs hf)

/-- Settles O59: each step in the state that meets its condition. -/
theorem keyAgreementTakesItsSteps : Obligations.KeyAgreementTakesItsSteps := by
  refine ⟨?_, ?_, ?_, ?_, ?_, ?_, ?_, ?_⟩
  · rintro old new sak _ t s hw ha rfl hst hdir hsuite hcak hlen hnew hwait hq
    exact exec_mkaNewSak rfl hw ha (mkaInstall_of_queued ⟨hst, hdir, hsuite, hcak, hlen, hnew, hwait⟩ hq)
  · intro n c s hw ha hc han hst
    exact exec_mkaNewSak rfl hw ha (mkaAnnounce_of_installed hc han hst)
  · rintro n old rx c _ _ t s hw ha hc rfl hst hdir hnew rfl hq
    exact exec_mkaNewSak rfl hw ha (mkaPeer_of_queued hc hst hdir hnew hq)
  · intro rx f c p s hw ha hc hf hst
    exact exec_mkaNewSak rfl hw ha (mkaFloor_of_installed f hc hf hst)
  · intro n c s hw ha hc han hs hf
    have floors : c.peers.any (fun p => !p.floorDone) = false := by simpa using hf
    exact exec_mkaNewSak rfl hw ha (mkaReported_of_floors hc han hs floors)
  · intro rx c p t s hw ha hc hf hn ho
    exact exec_mkaNewSak rfl hw ha (mkaClose_of_past hc hf hn ho)
  · intro rx c p t s hw ha hc hn hg hd hst hq
    exact exec_mkaNewSak rfl hw ha (mkaCleanup_of_closed hc hn hg hd hst hq)
  · intro n c t s hw ha hc hs hr ho hn
    exact exec_mkaNewSak rfl hw ha (mkaRetire_of_past hc hs hr ho hn)

end Sys2Proof.Proofs
end

section
/-! SUPPORT. Proofs about the tributary highways: inbound frames and losses of signal and sync (R266, R273), the Compass hunt (R270),
received tributary frames and defects (R274, R276), and the Oldun link's synchronisation (R317). -/

namespace Sys2Proof.Machine

/-! ### Inbound highway frames, losses of signal and of sync (R264-R267, R273) -/

section
variable {h : Nat} {s : State}

theorem hwyOf_modHwy (f : Hwy → Hwy) (hl : h < s.hwys.length) : hwyOf (modHwy h f s) h = f (hwyOf s h) := by
  simp [hwyOf, modHwy, hl]

theorem modHwy_congr {f g : Hwy → Hwy} (hfg : f (hwyOf s h) = g (hwyOf s h)) : modHwy h f s = modHwy h g s := by
  rw [modHwy, hfg, modHwy]

@[simp] theorem hwyOf_bump (p o n : Nat) : hwyOf (bump p o n s) h = hwyOf s h := rfl

/-- What every inbound frame does before it is judged: transitions were seen, and the frame and its code errors are counted. -/
def hwyCounted (h : Nat) (syms : List Nat) (s : State) : State :=
  bump (pg .hwy h) 0x210 (syms.countP codeErr) (bump (pg .hwy h) 0x200 1 (modHwy h (fun y => { y with rxSeen := true }) s))

@[simp] theorem hwyCounted_hwys_length (syms : List Nat) : (hwyCounted h syms s).hwys.length = s.hwys.length := by
  simp [hwyCounted, modHwy]

theorem hwyOf_hwyCounted (syms : List Nat) (hl : h < s.hwys.length) :
    hwyOf (hwyCounted h syms s) h = { hwyOf s h with rxSeen := true } := by
  simp [hwyCounted, hwyOf_modHwy _ hl]

/-- What a good frame does to its highway (R266). -/
def hwyGoodFrame (h pos : Nat) (s : State) : State :=
  let t := modHwy h (fun y => { y with good := y.good + 1, bad := 0, locked := if y.lof then none else some pos }) s
  if (hwyOf t h).lof && decide (2 ≤ (hwyOf t h).good) then hwyChange h (fun y => { y with lof := false }) t else t

/-- What a bad frame does to its highway (R266). -/
def hwyBadFrame (h : Nat) (s : State) : State :=
  let t := event (pg .hwy h) 3 (bump (pg .hwy h) 0x208 1 (modHwy h (fun y => { y with bad := y.bad + 1, good := 0 }) s))
  if 2 ≤ (hwyOf t h).bad then hwyLof h t else t

variable {pos : Nat} {syms : List Nat}

theorem hwyTake_eq : hwyTake h pos syms s = (List.range 32).foldl (rxSlot h syms)
    (if hwyGood s h pos syms then hwyGoodFrame h pos (hwyCounted h syms s) else hwyBadFrame h (hwyCounted h syms s)) := rfl

/-- Outside loss of frame a good frame adds to the good run and locks the highway at its position (R266). -/
theorem hwyGoodFrame_of_framed (hf : (hwyOf s h).lof = false) (hl : h < s.hwys.length) :
    hwyGoodFrame h pos s = modHwy h (fun y => { y with good := y.good + 1, bad := 0, locked := some pos }) s := by
  simp only [hwyGoodFrame, hwyOf_modHwy _ hl, hf, Bool.false_and, Bool.false_eq_true, if_false]
  exact modHwy_congr (by simp [hf])

/-- The first bad frame of a run is counted with its event and does not yet lose the frame (R266). -/
theorem hwyBadFrame_of_first (hb : (hwyOf s h).bad = 0) (hl : h < s.hwys.length) :
    hwyBadFrame h s =
      event (pg .hwy h) 3 (bump (pg .hwy h) 0x208 1 (modHwy h (fun y => { y with bad := y.bad + 1, good := 0 }) s)) := by
  have one : ¬ 2 ≤ (hwyOf (modHwy h (fun y => { y with bad := y.bad + 1, good := 0 }) s) h).bad := by
    simp [hwyOf_modHwy _ hl, hb]
  exact if_neg one

theorem hwyTake_of_good (hg : hwyGood s h pos syms = true) (hf : (hwyOf s h).lof = false) (hl : h < s.hwys.length) :
    hwyTake h pos syms s = (List.range 32).foldl (rxSlot h syms)
      (modHwy h (fun y => { y with good := y.good + 1, bad := 0, locked := some pos }) (hwyCounted h syms s)) := by
  have framed : (hwyOf (hwyCounted h syms s) h).lof = false := by rw [hwyOf_hwyCounted syms hl, hf]
  rw [hwyTake_eq, if_pos hg, hwyGoodFrame_of_framed framed (by simpa using hl)]

theorem hwyTake_of_firstBad (hg : hwyGood s h pos syms = false) (hb : (hwyOf s h).bad = 0) (hl : h < s.hwys.length) :
    hwyTake h pos syms s = (List.range 32).foldl (rxSlot h syms)
      (event (pg .hwy h) 3 (bump (pg .hwy h) 0x208 1
        (modHwy h (fun y => { y with bad := y.bad + 1, good := 0 }) (hwyCounted h syms s)))) := by
  have first : (hwyOf (hwyCounted h syms s) h).bad = 0 := by rw [hwyOf_hwyCounted syms hl, hb]
  rw [hwyTake_eq, if_neg (by simp [hg]), hwyBadFrame_of_first first (by simpa using hl)]

theorem highwayRx_of_heard (hd : hwyDeaf s h = false) :
    highwayRx h pos syms s = hwyTake h pos syms (if hwyLoopMode s h = 3 then emit (.hwyReturned h syms) s else s) := by
  simp [highwayRx, hd]

theorem highwayRx_of_deaf (hd : hwyDeaf s h = true) : highwayRx h pos syms s = s := by
  simp [highwayRx, hd]

theorem highwayLos_of_heard (hd : hwyDeaf s h = false) :
    highwayLos h s = hwyChange h (fun x => { x with los := true, losSeen := true })
      (if (hwyOf s h).los then s else bump (pg .hwy h) 0x220 1 s) := by
  simp [highwayLos, hd]

theorem highwayLos_of_deaf (hd : hwyDeaf s h = true) : highwayLos h s = s := by
  simp [highwayLos, hd]

theorem highwayLosync_of_heard (l : Bool) (hd : hwyDeaf s h = false) :
    highwayLosync h l s = hwyChange h (fun x => { x with losync := l }) s := by
  simp [highwayLosync, hd]

theorem highwayLosync_of_deaf (l : Bool) (hd : hwyDeaf s h = true) : highwayLosync h l s = s := by
  simp [highwayLosync, hd]

/-- An inbound frame names a highway of the device. -/
theorem highwayFrameRx_highway_lt (hw : (Instr.highwayFrameRx h pos syms).wf = true) : h < 8 := by
  simp only [Instr.wf, Bool.and_eq_true, decide_eq_true_eq] at hw
  exact hw.1.1

end

/-! ### Tributary frames, the Compass hunt and defects (R270, R273, R274, R276) -/

section
variable {t : Nat} {s : State}

/-- A complete frame that finds room in the slip buffer drops nothing (R276): what its framing leaves is written back and counted. -/
theorem tribFrame_of_room {x : Trib} {r : Trib × Nat × Nat × Nat} {bytes : Bytes} (hx : x = tribOf s t) (hon : trbOn s t = true)
    (ha : x.aligned = true) (hn : frameBits s t ≤ x.buf.length) (hroom : x.slip.length < 2)
    (hr : (if trbType s t = 2 then rxT1 (x.rep != 2) (x.buf.take (frameBits s t)) x
      else rxE1 (trbType s t == 0) (x.rep != 2) (x.buf.take (frameBits s t)) x) = r)
    (hb : (if trbType s t = 2 then bitsBytes 24 ((x.buf.take (frameBits s t)).drop 1)
      else bitsBytes 32 (x.buf.take (frameBits s t))) = bytes) :
    tribFrame t s = tribBump t 0x30 r.2.2.2 (tribBump t 0x28 (if trbType s t = 1 then 0 else r.2.2.1) (tribBump t 0x20 r.2.1 (setTrib t
      { r.1 with buf := x.buf.drop (frameBits s t), abs := x.abs + frameBits s t, slip := x.slip ++ [bytes],
                 tickErr := x.tickErr + r.2.2.1, tickFebe := x.tickFebe + r.2.2.2, tickDrop := x.tickDrop + 0,
                 slipNow := x.slipNow } s))) := by
  have complete : ¬ (!trbOn s t || !x.aligned || decide (x.buf.length < frameBits s t)) = true := by simp [hon, ha, hn]
  have noDrop : decide (2 ≤ x.slip.length) = false := by simpa using hroom
  simp only [tribFrame, ← hx, if_neg complete, hr, hb, noDrop, Bool.false_and, Bool.or_false, b2n, Bool.false_eq_true, if_false]

/-- A hunt with several candidates raises the ambiguous event once (R270). -/
def huntAmbiguous (t : Nat) (s : State) : State :=
  if (tribOf s t).amb then s
  else event (pg .trb (t / 16)) 17 (bump (pg .trb (t / 16)) (0x100 + t % 16 * 0xF0 + 0x50) 1
    (modTrib t (fun x => { x with amb := true }) s))

theorem hunts_of_unaligned (hon : trbOn s t = true) (ha : (tribOf s t).aligned = false) (hm : hwyMask (hwyOf s (t / 32)) = 0) :
    ¬ (!trbOn s t || (tribOf s t).aligned || hwyMask (hwyOf s (t / 32)) != 0) = true := by
  simp [hon, ha, hm]

/-- A hunt in T1 by its candidates: none waits, one is aligned to, several are ambiguous (R270, R271). -/
theorem compassHunt_of_t1 {q : List (Nat × Nat)} (hon : trbOn s t = true) (ha : (tribOf s t).aligned = false)
    (hm : hwyMask (hwyOf s (t / 32)) = 0) (ht : trbType s t = 2)
    (hq : (List.range 772).filterMap (fun p => (candT1 (tribOf s t).abs (tribOf s t).buf p).map (fun o => (p, o))) = q) :
    compassHunt t s =
      if q.length ≤ 1 then q.foldl (fun u c => declareAligned t c.1 c.2 0 u) s
      else huntAmbiguous t s := by
  simp only [compassHunt, if_neg (hunts_of_unaligned hon ha hm), if_pos ht, hq]
  match q with
  | [] => simp
  | [(p, o)] => simp
  | _ :: _ :: _ => simp [huntAmbiguous]

/-- A hunt in E1 by its candidates: none waits, one is aligned to in its frame, several are ambiguous (R270). -/
theorem compassHunt_of_e1 {q : List Nat} {c : Nat → Cand} {d : Nat → Nat} (hon : trbOn s t = true)
    (ha : (tribOf s t).aligned = false) (hm : hwyMask (hwyOf s (t / 32)) = 0) (ht : trbType s t ≠ 2)
    (hc : c = candE1 (trbType s t == 0) (tribOf s t).abs (tribOf s t).buf)
    (hq : (List.range 512).filter (fun p => candOk (trbType s t == 0) (c p)) = q)
    (hd : d = fun p => (p + 512 - (tribOf s t).abs % 512) % 512) :
    compassHunt t s =
      if q.length ≤ 1 then
        q.foldl (fun u p => declareAligned t p (if d p < 256 then d p else d p - 256)
          ((c p).qual.elim (if d p < 256 then 0 else 1) (fun n => (11 + 16 * n - n) % 16)) u) s
      else huntAmbiguous t s := by
  simp only [compassHunt, if_neg (hunts_of_unaligned hon ha hm), if_neg ht, ← hc, hq]
  match q with
  | [] => simp
  | [p] => cases hk : (c p).qual <;> simp [hd, hk]
  | _ :: _ :: _ => simp [huntAmbiguous]

theorem tribDefect_of_due {d : Nat} {on : Bool} (hon : trbOn s t = true) (hm : hwyMask (hwyOf s (t / 32)) = 0)
    (hd : defectDue s t d on = true) : tribDefect t d on s = setDefect t d on s := by
  simp [tribDefect, hon, hm, hd]

end

/-! ### The Oldun link's synchronisation (R317) -/

theorem oldSyncChange_of_runs {clk desk : Bool} {lanes skew errs : Nat} {s : State} (hr : oldRuns s = true) :
    oldSyncChange clk lanes desk skew errs s = bump (pg .old) 0x218 errs
      { s with twin := { s.twin with clkOk := clk, lanes := lanes, deskewed := desk, skewSym := skew,
                                     hbRun := if clk && lanes == 0xFF && desk then s.twin.hbRun else 0 } } := by
  simp [oldSyncChange, hr]

end Sys2Proof.Machine

namespace Sys2Proof.Proofs
open Sys2Proof.Machine

/-- Settles O46: each event in the state that takes it. -/
theorem highwayAndTributaryEventsTakeEffect : Obligations.HighwayAndTributaryEventsTakeEffect := by
  refine ⟨?_, ?_, ?_, ?_, ?_, ?_, ?_, ?_, ?_, ?_, ?_⟩
  · rintro h pos x _ s hw hd rfl hg hf hl
    exact exec_eq rfl hw ((highwayRx_of_heard hd).trans (hwyTake_of_good hg hf hl))
  · rintro h pos x _ s hw hd rfl hg hb hl
    exact exec_eq rfl hw ((highwayRx_of_heard hd).trans (hwyTake_of_firstBad hg hb hl))
  · intro h s hh hd
    exact exec_eq rfl (decide_eq_true hh) (highwayLos_of_heard hd)
  · intro h l s hh hd
    exact exec_eq rfl (decide_eq_true hh) (highwayLosync_of_heard l hd)
  · intro h pos x l s hw hd
    have named : decide (h < 8) = true := decide_eq_true (highwayFrameRx_highway_lt hw)
    exact ⟨exec_eq rfl hw (highwayRx_of_deaf hd), exec_eq rfl named (highwayLos_of_deaf hd),
      exec_eq rfl named (highwayLosync_of_deaf l hd)⟩
  · intro t x s ht hx hon ha hn hty hroom
    have frame := tribFrame_of_room hx hon ha hn hroom (if_pos hty) (if_pos hty)
    rw [if_neg (by simp [hty])] at frame
    exact exec_eq rfl (decide_eq_true ht) frame
  · intro t x s ht hx hon ha hn hty hroom
    exact exec_eq rfl (decide_eq_true ht) (tribFrame_of_room hx hon ha hn hroom (if_neg hty) (if_neg hty))
  · intro t q s ht hon ha hm hty hq
    exact exec_eq rfl (decide_eq_true ht) (compassHunt_of_t1 hon ha hm hty hq)
  · intro t q c d s ht hon ha hm hty hc hq hd
    exact exec_eq rfl (decide_eq_true ht) (compassHunt_of_e1 hon ha hm hty hc hq hd)
  · intro t d on s ht hd5 hon hm hd
    exact exec_eq rfl (by simp [Instr.wf, ht, hd5]) (tribDefect_of_due hon hm hd)
  · intro clk lanes desk skew errs s hla hsk he hr
    exact exec_eq rfl (by simpa [Instr.wf, hla, hsk] using he) (oldSyncChange_of_runs hr)

end Sys2Proof.Proofs
end

section
/-! SUPPORT. Proofs about the circuit bundles and their neighbours: the connection memory and the bundle table (R283, R285, R288, R289), the
commands of rates, triggers, bins, the sealed map and the Boundary pages (R304, R339, R350, R380, R392), and the bundles' assembly,
deadlines and forwards with the classification of seconds and the close of bins (R291, R299, R303, R304, R316). -/

namespace Sys2Proof.Machine

/-! ### The connection memory (R283, R285) -/

section
variable {m : Master} {v : Word} {d : Nat} {s : State}

/-- With no swap or copy pending, TSI_WDATA writes the standby entry that TSI_WIDX names and moves the index on. -/
theorem tsiWrite_of_unlocked {n page : Nat} (hd : regFld s (ra (pg .tsi) 0x110) 31 31 = d) (hn : regFld s (ra (pg .tsi) 0x110) 12 0 = n)
    (hp : tsiStandby s d = page) (hl : tsiLocked s d = false) :
    tsiWrite m v s =
      setReg { s with tsi := { s.tsi with pages := s.tsi.pages.set page (spSet 0 (s.tsi.pages.getD page []) n (v &&& 0x80FF001F)) } }
        (ra (pg .tsi) 0x110) (setFld (getReg s (ra (pg .tsi) 0x110)) 12 0 (n + 1)) := by
  subst hd hn hp
  exact if_neg (ne_true_of_eq_false hl)

theorem tsiWrite_of_locked (hl : tsiLocked s (regFld s (ra (pg .tsi) 0x110) 31 31) = true) :
    tsiWrite m v s = regErr m (ra (pg .tsi) 0x114) 0x40 s :=
  if_pos hl

theorem tsiCopyGo_of_unlocked (hg : bit v 0 = true) (hl : tsiLocked s (fld v 31 31) = false) :
    tsiCopyGo m v s = { s with tsi := { s.tsi with copy := s.tsi.copy.set (fld v 31 31) true } } := by
  simp [tsiCopyGo, hg, hl]

theorem tsiCopyEnd_of_running (hc : s.tsi.copy.getD d false = true) :
    tsiCopyEnd d s =
      { s with tsi := { s.tsi with copy := s.tsi.copy.set d false
                                   pages := s.tsi.pages.set (tsiStandby s d) (s.tsi.pages.getD (tsiActive s d) []) } } :=
  if_pos hc

/-- A cancel that names one direction empties that direction's queue. -/
theorem tsiCancel_oneBit (d : Dir) : tsiCancel (oneBit (dirNum d)) s = tsiCancelDir 0x85 (dirNum d) s := by
  cases d <;> rfl

end

/-! ### The bundle table (R288, R289) -/

section
variable {m : Master} {b : Nat} {c : List Word} {s : State} (hb : regFld s (ra (pg .bun) 0x120) 9 0 = b) (hc : bunStaged s = c)
  (hn : bunBusy (bunOf s b) = false)
include hb hc hn

/-- An entry that is not in use takes a configuration that keeps the rules of R289. -/
theorem bunWriteCmd_of_sound (hs : bunShape c = true) (hf : bcEn c = true → bunFits s b c = true) :
    bunWriteCmd m s =
      pmChanged (256 + b) false
        (setBun b { Bun.init with cfg := c, change := if bcEn c then some (true, now s) else none } s) := by
  subst hb hc
  have sound : ¬ (!bunShape (bunStaged s) ||
      (bcEn (bunStaged s) && !bunFits s (regFld s (ra (pg .bun) 0x120) 9 0) (bunStaged s))) = true := by
    simpa [hs] using hf
  simp only [bunWriteCmd]
  rw [if_neg (ne_true_of_eq_false hn), if_neg sound]

theorem bunWriteCmd_of_misshapen (hs : bunShape c = false) : bunWriteCmd m s = regErr m (ra (pg .bun) 0x124) 0x06 s := by
  subst hb hc
  simp [bunWriteCmd, hn, hs]

end

/-! ### Rates, triggers and the sealed map (R338, R339, R349, R350, R380) -/

section
variable {m : Master} {v : Word} {k : Nat} {s : State}

/-- A write by Tircy, or by the host while it is Meridian's source, is judged by its range alone. -/
theorem merRateCmd_of_source (h : m = .host → cfgFld s (ra (pg .mer) 0x100) 1 0 = 2) :
    merRateCmd m v s =
      if 3518437 < v.toInt.natAbs then regErr m (ra (pg .mer) 0x108) 0x06 s
      else bump (pg .mer) 0x310 1 (setReg s (ra (pg .mer) 0x108) v) := by
  have source : ¬ (m == .host && cfgFld s (ra (pg .mer) 0x100) 1 0 != 2) = true := by simpa using h
  simp only [merRateCmd, if_neg source]

/-- A write with ARM = 0 leaves no instant to come; where it sets OE, the pin is driven at its present level. -/
theorem trgArmWrite_of_disarm (ha : bit v 31 = false) :
    trgArmWrite k v s =
      modTrg k (fun x => { x with next := none })
        (if bit v 29 && !bit (getReg s (trgReg k 0)) 29 then
          trgPin k (trgOf s k).pulsing (setReg s (trgReg k 0) (v &&& 0xE0000000))
         else setReg s (trgReg k 0) (v &&& 0xE0000000)) := by
  simp [trgArmWrite, ha]

/-- A full mask with no refused field stores the word as it is. -/
theorem putFields_full (a : Nat) : putFields m a 0xFFFFFFFF [] v s = setReg s a v := by
  have merged : mergeWord (getReg s a) v 0xFFFFFFFF [] = v := by
    change (getReg s a &&& ~~~ BitVec.allOnes 32) ||| (v &&& BitVec.allOnes 32) = v
    rw [BitVec.not_allOnes, BitVec.and_zero, BitVec.zero_or, BitVec.and_allOnes]
  simp [putFields, merged]

/-- In CONFIGURE the map takes a word whose eight identifiers are all 4 or more. -/
theorem b2mapWrite_of_configure (hm : s.dev.mode = .configure) (hv : ∀ i < 8, 4 ≤ fld v (4 * i + 3) (4 * i)) :
    b2mapWrite m k v s = setReg s (ra (pg .seal) (0x120 + 4 * k)) v := by
  have inside : modeIn [.configure] s = true := by simp [modeIn, hm]
  have sound : (List.range 8).filter (fun i => fld v (4 * i + 3) (4 * i) < 4) = [] :=
    List.filter_eq_nil_iff.mpr fun i hi => by simpa using hv i (List.mem_range.mp hi)
  simp only [b2mapWrite, inModes, if_pos inside, sound]
  exact putFields_full _

end

/-! ### Boundary commits (R392) -/

section
variable {m : Master} {u : Nat} {s : State}

theorem bdyCommit_of_sound (hl : (legend s (pg .bdy u)).lock = false) (hp : (bdyOf s u).pending = false)
    (hs : stagedBad s u = none) :
    bdyCommit m u s = copyRegions u { s with bdy := s.bdy.set u { bdyOf s u with pending := true } } := by
  simp only [bdyCommit, hl, hp, hs, Bool.false_eq_true, if_false]

theorem bdyDrained_of_pending (hp : (bdyOf s u).pending = true) :
    bdyDrained u s = event (pg .bdy u) 3 { s with bdy := s.bdy.set u { bdyOf s u with pending := false } } :=
  if_pos hp

end

/-! ### Bundles are assembled, lost and forwarded (R291, R299, R316) -/

section
variable {b : Nat} {x : Bun} {s : State}

/-- A transmit bundle is assembled in the last tick of its period, once each tick of it has been taken. -/
theorem bunAssemble_of_complete (hx : x = bunOf s b) (ht : traffic s = true) (ha : x.active = true) (hd : bcDir x.cfg = 0)
    (hl : x.takes.length = bcPeriod x.cfg)
    (hn : (now s).toNat % bcPeriod x.cfg = (bcPhase x.cfg + bcPeriod x.cfg - 1) % bcPeriod x.cfg) :
    bunAssemble b s =
      (let t := advanceMer (tickStart s + (bcOffset x.cfg - 2000) * nsUnit) (setBun b { x with takes := [] } s)
       bunSequence { Frame.fresh .enc 16 (bunFrame s x.cfg (now s - wd (bcPeriod x.cfg - 1)) x.takes) t.time.mer (now s) with
         kind := .bundle, cls := 0, sa := bcSa x.cfg, launch := some (256 + b, tickStart s + bcOffset x.cfg * nsUnit), bundle := b,
         btick := now s - wd (bcPeriod x.cfg - 1) } t) := by
  have complete : ¬ (!(traffic s && x.active && bcDir x.cfg == 0 && x.takes.length == bcPeriod x.cfg &&
      (now s).toNat % bcPeriod x.cfg == (bcPhase x.cfg + bcPeriod x.cfg - 1) % bcPeriod x.cfg)) = true := by
    simp [ht, ha, hd, hl, hn]
  subst hx
  exact if_neg complete

/-- A period that starts playing in the next tick and is neither held nor lost already is lost at its deadline. -/
theorem bunMiss_of_missing {t0 : Tick} (hx : x = bunOf s b) (ht : t0 = now s + 1 - wd (bcK x.cfg)) (ha : x.active = true)
    (hd : bcDir x.cfg = 1) (hs : x.synced = true) (hm : s.dev.mode ≠ .drain) (hp : t0.toNat % bcPeriod x.cfg = bcPhase x.cfg)
    (hh : x.held.any (fun h => h.tick == t0) = false) (hl : x.lost.contains t0 = false) :
    bunMiss b s = bunLose b t0 (advanceMer (nextBoundary s - 1000 * nsUnit) s) := by
  have missing : (x.active && bcDir x.cfg == 1 && x.synced && !(s.dev.mode == .drain) && t0.toNat % bcPeriod x.cfg == bcPhase x.cfg &&
      !x.held.any (fun h => h.tick == t0) && !x.lost.contains t0) = true := by
    simp only [ha, hd, hs, hp, hh, hl, beq_eq_false_iff_ne.mpr hm, beq_self_eq_true, Bool.not_false, Bool.and_self]
  subst hx ht
  exact if_pos missing

section
variable {bs p : Bytes} {t0 : Tick} {u : State} (hr : oldReceive 3 bs s = (some p, u)) (hb : b = beAt p 0 2) (ht : t0 = wd (beAt p 2 4))
  (hx : x = bunOf u b) (hm : s.dev.mode = .twinEmit) (ha : x.active = true) (hd : bcDir x.cfg = 1)
include hr hb ht hx hm ha hd

/-- A forward for an active receive bundle is judged by its time, and held when it is in time. -/
theorem bunForwarded_of_timely (hj : bunTimely u x t0 false = none) :
    bunForwarded bs s =
      bunHoldIt b t0 false 0 0 (orAll ((slice p 7 (byteAt p 6).toNat).map (·.toNat)))
        (slice p (7 + (byteAt p 6).toNat) (bcSlots x.cfg * bcPeriod x.cfg)) u := by
  subst hb ht hx
  simp [bunForwarded, hr, hm, ha, hd, hj]

theorem bunForwarded_of_untimely {reason off : Nat} (hj : bunTimely u x t0 false = some (reason, off)) :
    bunForwarded bs s = forwardFail b reason off u := by
  subst hb ht hx
  simp [bunForwarded, hr, hm, ha, hd, hj]

end

end

/-! ### Seconds are classified and bins close (R303, R304) -/

section
variable {e : Nat} {x : PmSec} {r : List PmSec} {s : State}

/-- Whether a tributary is in unavailable time after its oldest second, by its ten oldest (R303). -/
def unavailAfter (type : Nat) (un : Bool) (l : List PmSec) : Bool :=
  if un then !(decide ((l.take 10).length = 10) && (l.take 10).all (fun y => !isSes type y))
  else decide ((l.take 10).length = 10) && (l.take 10).all (isSes type)

/-- A classified second has left its queue. -/
def secondTaken (e : Nat) (r : List PmSec) (un : Bool) (s : State) : State :=
  setTrib e { tribOf s e with secs := r, unavail := un } s

/-- The counts of a classified second join the bins of its quarter-hour and day and are held against the thresholds. -/
def secondCounted (e : Nat) (x : PmSec) (type : Nat) (un : Bool) (s : State) : State :=
  tcaCheck (x.sec / 900) e
    (modBins (x.sec / 900) e (fun b => (List.range 4).foldl (fun b k => binAdd k ((secCounts type un x).getD k 0) b) b) s)

variable (hs : (tribOf s e).secs = x :: r) (hon : trbOn s e = true) (hd : x.sec + 11 ≤ utcSec s s.time.mer)
  {un : Bool} (hu : unavailAfter (trbType s e) (tribOf s e).unavail (x :: r) = un)
include hs hon hd hu

/-- What becomes of the oldest second of a framer once it is due. -/
theorem pmClassify_of_due :
    pmClassify e s =
      if !bit (getReg s (ra (pg .pmb) 0x100)) 31 then secondTaken e r un s
      else if x.sec / 900 = s.pmb.qh || s.pmb.closing.any (fun c => c.q == x.sec / 900) then
        secondCounted e x (trbType s e) un (secondTaken e r un s)
      else secondTaken e r un s := by
  subst hu
  have due : ¬ (!trbOn s e || decide (utcSec s s.time.mer < x.sec + 11)) = true := by simp [hon, hd]
  simp only [pmClassify, hs, if_neg due]
  rfl

theorem pmClassify_of_notCollecting (hc : bit (getReg s (ra (pg .pmb) 0x100)) 31 = false) : pmClassify e s = secondTaken e r un s := by
  rw [pmClassify_of_due hs hon hd hu, if_pos (by rw [hc]; rfl)]

/-- With collection on, a second of the present quarter-hour or of one that waits for its close is counted. -/
theorem pmClassify_of_collecting (hc : bit (getReg s (ra (pg .pmb) 0x100)) 31 = true)
    (hq : x.sec / 900 = s.pmb.qh ∨ ∃ c ∈ s.pmb.closing, c.q = x.sec / 900) :
    pmClassify e s = secondCounted e x (trbType s e) un (secondTaken e r un s) := by
  have kept : (decide (x.sec / 900 = s.pmb.qh) || s.pmb.closing.any (fun c => c.q == x.sec / 900)) = true := by
    simpa using hq
  rw [pmClassify_of_due hs hon hd hu, if_neg (by simp [hc]), if_pos kept]

end

theorem pmBinClose_of_due {c : PmClose} {r : List PmClose} {s : State} (hc : s.pmb.closing = c :: r) (hd : isDue (now s) c.at_ = true) :
    pmBinClose s =
      (let t := if bit (getReg s (ra (pg .pmb) 0x100)) 31 then (List.range 1280).foldl (pmCloseOne c) s else s
       event (pg .pmb) 1 { t with pmb := pmForget { t.pmb with closing := r, lastClose := now s } }) := by
  simp only [pmBinClose, hc, hd, Bool.not_true, Bool.false_eq_true, if_false]

end Sys2Proof.Machine

namespace Sys2Proof.Proofs
open Sys2Proof.Machine

/-- Settles O22: each command on the state in which its access has been counted. -/
theorem connectionAndBundleCommandsTakeEffect : Obligations.ConnectionAndBundleCommandsTakeEffect := by
  refine ⟨?_, ?_, ?_, ?_, ?_, ?_, ?_, ?_, ?_⟩
  · intro m v s hg hl
    exact exec_register rfl hg (tsiWrite_of_unlocked (s := checkedBy m s) rfl rfl rfl hl)
  · intro m v s hg hl
    exact exec_register rfl hg (tsiWrite_of_locked (s := checkedBy m s) hl)
  · intro m v s hg hv hl
    exact exec_register rfl hg (tsiCopyGo_of_unlocked (s := checkedBy m s) hv hl)
  · intro d s hc
    exact exec_eq rfl rfl (tsiCopyEnd_of_running hc)
  · intro m d s hg
    exact exec_register rfl hg (tsiCancel_oneBit d)
  · intro m v s hg
    exact exec_register rfl hg rfl
  · intro m s hg hn hs hf
    exact exec_register rfl hg (bunWriteCmd_of_sound (s := checkedBy m s) rfl rfl hn hs hf)
  · intro m s hg hn hs
    exact exec_register rfl hg (bunWriteCmd_of_misshapen (s := checkedBy m s) rfl rfl hn hs)
  · intro m s hg
    exact exec_register rfl hg rfl

/-- Settles O24: each command on the state in which its access has been counted, and the end of a commit that is pending. -/
theorem timeMemoryAndBoundaryCommandsTakeEffect : Obligations.TimeMemoryAndBoundaryCommandsTakeEffect := by
  refine ⟨?_, ?_, ?_, ?_, ?_, ?_, ?_, ?_⟩
  · intro m v s hg hm hv
    exact exec_register rfl hg ((merRateCmd_of_source (s := checkedBy m s) hm).trans (if_neg (Nat.not_lt.mpr hv)))
  · intro m v s hg hm hv
    exact exec_register rfl hg ((merRateCmd_of_source (s := checkedBy m s) hm).trans (if_pos hv))
  · intro m k v s hg ha hp
    have disarmed := trgArmWrite_of_disarm (k := k) (s := checkedBy m s) ha
    rw [getReg_checkedBy, if_neg (ne_true_of_eq_false hp)] at disarmed
    exact exec_register rfl hg disarmed
  · intro m k v s hg ha hp
    have disarmed := trgArmWrite_of_disarm (k := k) (s := checkedBy m s) ha
    rw [getReg_checkedBy, if_pos hp] at disarmed
    exact exec_register rfl hg disarmed
  · intro m s hg
    exact exec_register rfl hg rfl
  · intro m k v s hg hm hv
    exact exec_register rfl hg (b2mapWrite_of_configure (s := checkedBy m s) hm hv)
  · intro m u s hg hl hp hs
    exact exec_register rfl hg (bdyCommit_of_sound (s := checkedBy m s) hl hp hs)
  · intro u s hu hp
    exact exec_eq rfl (decide_eq_true hu) (bdyDrained_of_pending hp)

/-- Settles O47: each event in the state in which it is due. -/
theorem bundlesAndPerformanceBinsTakeEffect : Obligations.BundlesAndPerformanceBinsTakeEffect := by
  refine ⟨?_, ?_, ?_, ?_, ?_, ?_, ?_⟩
  · intro b x s hb hx ht ha hd hl hn
    exact exec_eq rfl (decide_eq_true hb) (bunAssemble_of_complete hx ht ha hd hl hn)
  · intro b x t0 s hb hx ht ha hd hs hm hp hh hl
    exact exec_eq rfl (decide_eq_true hb) (bunMiss_of_missing hx ht ha hd hs hm hp hh hl)
  · intro bs p b t0 x u s hr hb ht hx hm ha hd hj
    exact exec_eq rfl rfl (bunForwarded_of_timely hr hb ht hx hm ha hd hj)
  · intro bs p b t0 x u r o s hr hb ht hx hm ha hd hj
    exact exec_eq rfl rfl (bunForwarded_of_untimely hr hb ht hx hm ha hd hj)
  · intro e x r s he hs hon hd hc
    exact exec_eq rfl (decide_eq_true he) (pmClassify_of_notCollecting hs hon hd rfl hc)
  · rintro e x r _ u _ s he rfl hs hon hd hc rfl hq hu
    exact exec_eq rfl (decide_eq_true he) (pmClassify_of_collecting hs hon hd hu.symm hc hq)
  · intro c r s hc hd
    exact exec_eq rfl rfl (pmBinClose_of_due hc hd)

end Sys2Proof.Proofs
end

section
/-! SUPPORT. Proofs about what crosses the link of a twin pair: heartbeats (R320), cuts and digests (R325, R327), tick lists (R313), and
the SA items with their receive checkpoints (R322, R323). -/

namespace Sys2Proof.Machine

/-- Clock 180,000 of a twin that emits: the instant of the cuts and of the tick lists' deadline, and `t` is the state then. -/
def EmitterDeadline (s t : State) : Prop :=
  s.dev.mode = .twinEmit ∧ s.time.clk ≤ 180000 ∧ t = advanceTo 180000 s

/-! ### Heartbeats, cuts and digests (R320, R325, R327) -/

section
variable {bs p : Bytes} {s t : State}

theorem heartbeatRx_of_timely {clk : Nat} (hr : oldReceive 1 bs (advanceTo clk s) = (some p, t)) (hl : p.length = 27)
    (ht : heartbeatTimely t (wd (beAt p 2 4)) = true) : heartbeatRx bs clk s = adriftUpdate (heartbeatTake p t) := by
  simp [heartbeatRx, hr, hl, ht]

/-- The cut of a port whose newest item is the given one. -/
def portCut (port : Nat) (newest : Option DigItem) (s : State) : Cut :=
  { tick := now s, port := port, last := newest.map (fun x => (x.sa, x.field)), rxAt := (newest.map (·.rxAt)).getD 0 }

/-- A cut as its message carries it. -/
def cutBytes (c : Cut) : Bytes :=
  beBytes 4 c.tick.toNat ++ [by8 c.port] ++
    (c.last.elim (zeros 12) fun l => 1 :: beBytes 3 l.1 ++ beBytes 8 l.2) ++ beBytes 16 c.rxAt

/-- At its instant twin A cuts a port after its newest item, sends the cut and digests up to it. -/
theorem digestCut_of_due {port : Nat} {newest : Option DigItem} (hp : port < 16) (ha : twinId s = 0) (hd : EmitterDeadline s t)
    (hn : (t.twin.items.filter (fun x => x.port == port)).getLast? = newest) :
    digestCut port s = (cutTake (portCut port newest t) (oldSend 2 (cutBytes (portCut port newest t)) t)).2 := by
  obtain ⟨hm, hclk, rfl⟩ := hd
  have due : ¬ (s.dev.mode != .twinEmit || twinId s != 0 || decide (180000 < s.time.clk) || decide (16 ≤ port)) = true := by
    simp [hm, ha, hclk, hp]
  rw [digestCut, if_neg due]
  simp only [hn]
  cases newest <;> rfl

/-- A cut that names a frame which has come is digested at once. -/
theorem cutRx_of_arrived {c : Cut} (hm : s.dev.mode = .twinEmit) (hr : oldReceive 2 bs s = (some p, t)) (hb : byteAt p 5 = 1)
    (hc : c = { tick := wd (beAt p 0 4), port := (byteAt p 4).toNat, last := some (beAt p 6 3, beAt p 9 8), rxAt := beAt p 17 16 })
    (hq : (cutTake c (skewTake c t)).1 = true) : cutRx bs s = (cutTake c (skewTake c t)).2 := by
  have emitting : ¬ (s.dev.mode != .twinEmit) = true := by simp [hm]
  subst hc
  simp only [cutRx, hr, if_neg emitting, if_pos hb, if_pos hq]

/-- The partner's first digest of a tick is compared with the own one of that tick. -/
theorem digestRx_of_first {a : Digest} (hm : s.dev.mode = .twinEmit) (hr : oldReceive 4 bs s = (some p, t))
    (ha : t.twin.own.find? (fun d => d.tick == (digestOf p).tick) = some a)
    (hf : t.twin.peer.any (fun d => d.tick == (digestOf p).tick) = false) :
    digestRx bs s =
      digestCompare a (digestOf p) { t with twin := { t.twin with peer := (digestOf p :: t.twin.peer).take 64 } } := by
  have emitting : ¬ (s.dev.mode != .twinEmit) = true := by simp [hm]
  simp only [digestRx, hr, if_neg emitting, ha, if_neg (ne_true_of_eq_false hf)]

end

/-! ### Tick lists (R313) -/

section
variable {bs p : Bytes} {l : TickList} {n : Tick} {s t : State}

section
variable (hm : s.dev.mode = .twinEmit) (hr : oldReceive 5 bs s = (some p, t)) (hn : n = wd (beAt p 1 4))
include hm hr hn

/-- The list of a tick without a record is stored and acknowledged. -/
theorem tickListRx_of_list (hb : byteAt p 0 = 0) (hl : listOf t n = none) :
    tickListRx bs s =
      oldSend 5 (1 :: beBytes 4 n.toNat) (modList n (fun l => { l with peer := some (itemsOf t p.length (p.drop 5)) }) t) := by
  subst hn
  simp [tickListRx, hr, hm, hb, hl]

/-- An acknowledgement marks the own list. -/
theorem tickListRx_of_ack (hb : byteAt p 0 = 1) (hl : listOf t n = some l) (hx : l.exclOwn = false) :
    tickListRx bs s = modList n (fun l => { l with acked := true }) t := by
  subst hn
  simp [tickListRx, hr, hm, hb, hl, hx]

/-- The word that the partner has excluded a list that is held whole is a disagreement. -/
theorem tickListRx_of_excluded (hb : byteAt p 0 = 2) (hl : listOf t n = some l) (hp : l.peer.isSome = true)
    (hx : l.exclPeer = false) : tickListRx bs s = disagree 7 0 n t := by
  subst hn
  simp [tickListRx, hr, hm, hb, hl, hp, hx]

end

/-- The own list of a tick is excluded: its items are lost and the partner is told. -/
def excludeOwn (l : TickList) (n : Tick) (s : State) : State :=
  oldSend 5 (2 :: beBytes 4 n.toNat)
    (l.own.foldl itemLost (bump (pg .twn) 0x228 1 (modList n (fun l => { l with exclOwn := true, own := [] }) s)))

/-- The partner's list of a tick is excluded. -/
def excludePeer (n : Tick) (s : State) : State :=
  bump (pg .twn) 0x228 1 (modList n (fun l => { l with exclPeer := true }) s)

/-- The deadline judges the two lists of the tick before, the own one by its acknowledgement and the partner's by its arrival. -/
theorem tickListDeadline_of_due (hd : EmitterDeadline s t) (hl : listOf t (now t - 1) = some l) :
    tickListDeadline s =
      (let u := if l.acked || l.exclOwn then t else excludeOwn l (now t - 1) t
       if l.peer.isSome || l.exclPeer then u else excludePeer (now t - 1) u) := by
  obtain ⟨hm, hclk, rfl⟩ := hd
  have due : ¬ (s.dev.mode != .twinEmit || decide (180000 < s.time.clk)) = true := by simp [hm, hclk]
  simp only [tickListDeadline, if_neg due, hl]
  rfl

theorem tickListDeadline_of_unacked (hd : EmitterDeadline s t) (hl : listOf t (now t - 1) = some l) (ha : l.acked = false)
    (hx : l.exclOwn = false) (hp : l.exclPeer = true ∨ l.peer.isSome = true) :
    tickListDeadline s = excludeOwn l (now t - 1) t := by
  have settled : (l.peer.isSome || l.exclPeer) = true := by rcases hp with h | h <;> simp [h]
  rw [tickListDeadline_of_due hd hl, if_pos settled, if_neg (by simp [ha, hx])]

theorem tickListDeadline_of_absent (hd : EmitterDeadline s t) (hl : listOf t (now t - 1) = some l) (ha : l.acked = true)
    (hx : l.exclPeer = false) (hp : l.peer = none) : tickListDeadline s = excludePeer (now t - 1) t := by
  rw [tickListDeadline_of_due hd hl, if_neg (by simp [hx, hp]), if_pos (by simp [ha])]

end

/-! ### SA items and checkpoints (R322, R323) -/

section
variable {bs p : Bytes} {s t : State} (hm : s.dev.mode = .twinEmit) (hr : oldReceive 6 bs s = (some p, t))
include hm hr

/-- The partner's acknowledgement waits for the comparison at the boundary. -/
theorem saItemRx_of_ack (hb : (byteAt p 0).toNat = 0) :
    saItemRx bs s =
      { t with twin := { t.twin with
        peerAcks := t.twin.peerAcks ++ [(wd (beAt p 10 4), beAt p 1 3, beAt p 4 1, wd (beAt p 5 4), beAt p 9 1)] } } := by
  simp [saItemRx, hr, hm, hb]

/-- A checkpoint waits to be applied at the boundary. -/
theorem saItemRx_of_checkpoint (hb : (byteAt p 0).toNat = 1) :
    saItemRx bs s = { t with twin := { t.twin with toApply := t.twin.toApply ++ [(beAt p 1 3, beAt p 4 1, beAt p 5 8)] } } := by
  simp [saItemRx, hr, hm, hb]

end

/-- An SA's ledger is owed to the partner: it holds something and has had no checkpoint, or it has moved and 256 ticks have passed
since its last one. -/
def CheckpointOwed (i : Nat) (s : State) : Prop :=
  (s.twin.checks.find? (fun c => c.1 == i) = none ∧ (saOf s i).ledger ≠ 0) ∨
    ∃ v t, s.twin.checks.find? (fun c => c.1 == i) = some (i, v, t) ∧ v ≠ (saOf s i).ledger ∧ 256 ≤ tdiff (now s) t

/-- An emitting twin sends the checkpoint that it owes for a valid receive SA, and notes the ledger and the tick. -/
theorem checkpointSend_of_owed {i : Nat} {s : State} (hm : s.dev.mode = .twinEmit) (hs : (saOf s i).st = 1) (hd : (saOf s i).dir = 1)
    (ho : CheckpointOwed i s) :
    checkpointSend i s =
      bump (pg .twn) 0x230 1
        (oldSend 6 (1 :: beBytes 3 i ++ [by8 (saOf s i).gen] ++ beBytes 8 (saOf s i).ledger)
          { s with twin := { s.twin with
            checks := (i, (saOf s i).ledger, now s) :: s.twin.checks.filter (fun c => c.1 != i) } }) := by
  rcases ho with ⟨hc, hl⟩ | ⟨v, t, hc, hl, ht⟩
  · simp [checkpointSend, hm, hs, hd, hc, hl]
  · simp [checkpointSend, hm, hs, hd, hc, hl, ht]

end Sys2Proof.Machine

namespace Sys2Proof.Proofs
open Sys2Proof.Machine

/-- Settles O48: the two clauses of a cut are one rule, with and without a newest item of the port. -/
theorem heartbeatsAndDigestsCrossTheLink : Obligations.HeartbeatsAndDigestsCrossTheLink := by
  refine ⟨?_, ?_, ?_, ?_, ?_⟩
  · intro bs clk p t s hw hr hl ht
    exact exec_eq rfl hw (heartbeatRx_of_timely hr hl ht)
  · rintro p t c s hp hm ha hclk ht hn rfl
    exact exec_eq rfl (decide_eq_true hp) (digestCut_of_due hp ha ⟨hm, hclk, ht⟩ (newest := none) (by rw [hn]; rfl))
  · rintro p x t c s hp hm ha hclk ht hn rfl
    exact exec_eq rfl (decide_eq_true hp) (digestCut_of_due hp ha ⟨hm, hclk, ht⟩ hn)
  · intro bs p t c s hm hr hb hc hq
    exact exec_eq rfl rfl (cutRx_of_arrived hm hr hb hc hq)
  · intro bs p a t s hm hr ha hf
    exact exec_eq rfl rfl (digestRx_of_first hm hr ha hf)

/-- Settles O49: each message by its first byte, the deadline by what it finds of the two lists, and the checkpoints that are owed. -/
theorem tickListsAndCheckpointsCrossTheLink : Obligations.TickListsAndCheckpointsCrossTheLink := by
  refine ⟨?_, ?_, ?_, ?_, ?_, ?_, ?_, ?_, ?_⟩
  · intro bs p t s hm hr hb hl
    exact exec_eq rfl rfl (tickListRx_of_list hm hr rfl hb hl)
  · intro bs p l t s hm hr hb hl hx
    exact exec_eq rfl rfl (tickListRx_of_ack hm hr rfl hb hl hx)
  · intro bs p l t s hm hr hb hl hp hx
    exact exec_eq rfl rfl (tickListRx_of_excluded hm hr rfl hb hl hp hx)
  · intro l t s hm hclk ht hl ha hx hp
    exact exec_eq rfl rfl (tickListDeadline_of_unacked ⟨hm, hclk, ht⟩ hl ha hx hp)
  · intro l t s hm hclk ht hl ha hx hp
    exact exec_eq rfl rfl (tickListDeadline_of_absent ⟨hm, hclk, ht⟩ hl ha hx hp)
  · intro bs p t s hm hr hb
    exact exec_eq rfl rfl (saItemRx_of_ack hm hr hb)
  · intro bs p t s hm hr hb
    exact exec_eq rfl rfl (saItemRx_of_checkpoint hm hr hb)
  · intro i s hi hm hs hd hc hl
    exact exec_eq rfl (decide_eq_true hi) (checkpointSend_of_owed hm hs hd (.inl ⟨hc, hl⟩))
  · intro i v t s hi hm hs hd hc hl ht
    exact exec_eq rfl (decide_eq_true hi) (checkpointSend_of_owed hm hs hd (.inr ⟨v, t, hc, hl, ht⟩))

end Sys2Proof.Proofs
end

section
/-! SUPPORT. Proofs about Meridian's events: PPS steps that wait (R340), edges of PPS_IN (R348), Trig pulses (R349) and the PTP agent's
reports (R344, R346). -/

namespace Sys2Proof.Machine

/-! ### What an event of Meridian leaves of the waiting steps -/

/-- A log entry leaves Meridian as it is. -/
@[simp] theorem logEvent_mer (ty : Nat) (d : List Word) (s : State) : (logEvent ty d s).mer = s.mer := by
  obtain ⟨l, c, h⟩ := logEvent_frame ty d s
  rw [h]

@[simp] theorem adriftUpdate_step (s : State) : (adriftUpdate s).mer.step = s.mer.step := by
  simp only [adriftUpdate]
  split
  · rfl
  · rw [logEvent_mer]
    split <;> rfl

@[simp] theorem servoTo_step (st : Nat) (s : State) : (servoTo st s).mer.step = s.mer.step := by
  unfold servoTo
  split
  · rfl
  · rw [logEvent_mer, event_mer]

/-- A measurement completes no step: whichever state the servo is in, it changes the offset, the run of good ones and the servo. -/
@[simp] theorem servoMeasure_step (off : Int) (s : State) : (servoMeasure off s).mer.step = s.mer.step := by
  simp only [servoMeasure, adriftUpdate_step, apply_ite State.mer, apply_ite Mer.step, servoTo_step, ite_self]

/-! ### PPS steps that wait (R340) -/

/-- The steps that have waited for 2 s end with FAULT, and the others still wait. -/
theorem merStepLimit_eq (s : State) :
    merStepLimit s =
      (s.mer.step.filter (fun x => decide (x.2.2 + 2000000000 * nsUnit ≤ s.time.mer))).foldl (fun u x => endOrder x.1 .fault 0 u)
        { s with mer := { s.mer with step := s.mer.step.filter (fun x => decide (s.time.mer < x.2.2 + 2000000000 * nsUnit)) } } := by
  simp only [merStepLimit, merStepEnd, Bool.false_or, ← decide_not, Nat.not_le]

/-- The step of an order that has waited for 2 s ends with FAULT. -/
theorem merStepLimit_of_late {o n t : Nat} {s : State} (h : s.mer.step = [(o, n, t)]) (hl : t + 2000000000 * nsUnit ≤ s.time.mer) :
    merStepLimit s = endOrder o .fault 0 { s with mer := { s.mer with step := [] } } := by
  simp [merStepLimit_eq, h, hl, Nat.not_lt.mpr hl]

/-- Every step that waits has waited for less than 2 s. -/
def StepsTimely (s : State) : Prop := ∀ x ∈ s.mer.step, s.time.mer < x.2.2 + 2000000000 * nsUnit

/-- Steps that have waited for less than 2 s stay as they are. -/
theorem merStepLimit_of_timely {s : State} (h : StepsTimely s) : merStepLimit s = s := by
  have none_late : s.mer.step.filter (fun x => decide (x.2.2 + 2000000000 * nsUnit ≤ s.time.mer)) = [] :=
    List.filter_eq_nil_iff.mpr fun x hx => by simpa using h x hx
  have all_wait : s.mer.step.filter (fun x => decide (s.time.mer < x.2.2 + 2000000000 * nsUnit)) = s.mer.step :=
    List.filter_eq_self.mpr fun x hx => decide_eq_true (h x hx)
  rw [merStepLimit_eq, none_late, all_wait]
  rfl

/-! ### Edges of PPS_IN (R348) -/

/-- The state in which an edge has been captured. -/
def ppsCaptured (s : State) : State :=
  adriftUpdate { s with mer := { s.mer with ppsAt := some s.time.mer, ppsLast := some s.time.mer, ppsErr := ppsError s, ppsAge := 0 } }

/-- The state in which a captured edge has been counted and has measured the offset under SRC = PPS. -/
def ppsMeasured (s : State) : State :=
  event (pg .mer) 2 (bump (pg .mer) 0x320 1 (if merSrc s = 1 then servoMeasure (ppsError s) (ppsCaptured s) else ppsCaptured s))

@[simp] theorem ppsMeasured_step (s : State) : (ppsMeasured s).mer.step = s.mer.step := by
  simp only [ppsMeasured, event_mer, bump_mer]
  split
  · rw [servoMeasure_step, ppsCaptured, adriftUpdate_step]
  · rw [ppsCaptured, adriftUpdate_step]

/-- Under another source an edge measures nothing. -/
theorem ppsMeasured_of_otherSource {s : State} (h : merSrc s ≠ 1) :
    ppsMeasured s = event (pg .mer) 2 (bump (pg .mer) 0x320 1 (ppsCaptured s)) := by
  rw [ppsMeasured, if_neg h]

section
variable {s : State} (hen : bit (getReg s (ra (pg .mer) 0x14C)) 0 = true)
  (hr : s.mer.ppsLast.any (fun t => decide (s.time.mer < t + 500000000 * nsUnit)) = false) (hst : StepsTimely s)
include hen hr hst

/-- An enabled edge half a second or more after the last one, in a mode that completes the steps that wait, or in another. -/
theorem ppsEdge_of_taken :
    ppsEdge s =
      if modeIn [.configure, .diagnostic] s = true then
        s.mer.step.foldl (fun u x => stepMer x.1 (x.2.1 * 1000000000 * nsUnit) u)
          { ppsMeasured s with mer := { (ppsMeasured s).mer with step := [] } }
      else ppsMeasured s := by
  simp only [ppsEdge, merStepLimit_of_timely hst, hen, hr]
  cases modeIn [.configure, .diagnostic] s <;> rfl

/-- In CONFIGURE and DIAGNOSTIC it completes the step that waits for it. -/
theorem ppsEdge_of_oneStep {o sec t : Nat} (hs : s.mer.step = [(o, sec, t)]) (hm : modeIn [.configure, .diagnostic] s = true) :
    ppsEdge s =
      stepMer o (sec * 1000000000 * nsUnit) { ppsMeasured s with mer := { (ppsMeasured s).mer with step := [] } } := by
  rw [ppsEdge_of_taken hen hr hst, if_pos hm, hs, List.foldl_cons, List.foldl_nil]

end

/-- Without a step that waits, an edge is captured, counted and measured in every mode. -/
theorem ppsEdge_of_noStep {s : State} (hen : bit (getReg s (ra (pg .mer) 0x14C)) 0 = true)
    (hr : s.mer.ppsLast.any (fun t => decide (s.time.mer < t + 500000000 * nsUnit)) = false) (hs : s.mer.step = []) :
    ppsEdge s = ppsMeasured s := by
  have none_waits : { (ppsMeasured s).mer with step := [] } = (ppsMeasured s).mer := by rw [← hs, ← ppsMeasured_step s]
  rw [ppsEdge_of_taken hen hr (fun x hx => by simp [hs] at hx), none_waits, hs]
  exact ite_self _

/-! ### Trig pulses (R349) -/

/-- An output's instant has come: its pulse rises, and the next one of a periodic output is a period on. -/
def trgRise (k t : Nat) (u : State) : State :=
  trgPin k true (event (pg .trg) k (bump (pg .trg) (0x200 + 8 * k) 1
    (modTrg k (fun x => { x with
      pulsing := true, endAt := t + trgWidth u k, next := if trgPeriodic u k then some (t + trgPeriod u k) else none }) u)))

/-- The pulse of an armed output rises at its instant. -/
theorem trgPulse_of_due {k t : Nat} {s : State} (hn : (trgOf (trgEnd s) k).next = some t) (ha : trgArmed (trgEnd s) k = true)
    (ht : t ≤ (advanceMer t (trgEnd s)).time.mer) : trgPulse k s = trgRise k t (advanceMer t (trgEnd s)) := by
  simp only [trgPulse, hn, ha, Bool.not_true, Bool.false_eq_true, if_false, if_neg (Nat.not_lt.mpr ht)]
  rfl

/-! ### The PTP agent's reports (R344, R346) -/

/-- The BAR0 page of the port that the PTP agent names: P0-P15, then L0-L15. -/
theorem servoPort_page {n page : Nat} (hp : (n < 16 ∧ page = pg .plain n) ∨ (16 ≤ n ∧ n < 32 ∧ page = pg .line (n - 16))) :
    (if n < 16 then pg .plain n else pg .line (n - 16)) = page := by
  rcases hp with ⟨hn, rfl⟩ | ⟨hn, -, rfl⟩
  · exact if_pos hn
  · exact if_neg (Nat.not_lt.mpr hn)

/-- A measurement on a port that ends PTP is taken with the port's asymmetry off it, unless PPS is the source. -/
theorem servoReport_of_port {n page : Nat} (off : Int) {s : State}
    (hp : (n < 16 ∧ page = pg .plain n) ∨ (16 ≤ n ∧ n < 32 ∧ page = pg .line (n - 16))) (hsrc : merSrc s ≠ 1)
    (hterm : bit (cfgReg s (ra page 0x108)) 2 = true) :
    servoReport (some n) off s = servoMeasure (Int.tdiv (off - (getReg s (ra (pg .mer) (0x180 + 4 * n))).toInt) 65536) s := by
  simp [servoReport, servoPort_page hp, hsrc, hterm]

section
variable {off : Int} {s : State} (hsrc : merSrc s = 0) (hl : s.mer.servo = 2)
include hsrc hl

/-- A LOCKED servo that loses its PTP source goes to PAIR where the partner is LOCKED. -/
theorem servoReport_of_lost_pair (hp : pairOk s = true) : servoReport none off s = adriftUpdate (servoTo 4 s) := by
  simp [servoReport, servoLost, hsrc, hl, hp]

/-- A LOCKED servo that loses its PTP source holds its rate elsewhere. -/
theorem servoReport_of_lost_alone (hp : pairOk s = false) : servoReport none off s = adriftUpdate (servoTo 3 (rateHold s)) := by
  simp [servoReport, servoLost, hsrc, hl, hp]

end

/-! ### The real-time clock (R397) -/

/-- At a whole second of a stepped Meridian the real-time clock takes it. -/
theorem rtcLoadNow_of_second {s : State} (hsup : s.dev.supply = true) (hst : s.time.stepped = true) (hrun : s.time.run = true)
    (hz : tickStart s % (1000000000 * nsUnit) = 0) :
    rtcLoadNow s = { s with lun := { s.lun with rtcSec := wd (tickStart s / nsUnit / 1000000000), rtcFrac := 0, rtcSet := true } } := by
  simp [rtcLoadNow, hsup, hst, hrun, hz]

end Sys2Proof.Machine

namespace Sys2Proof.Proofs
open Sys2Proof.Machine

/-- Settles O41: an edge by what waits for it, the agent's report by its port, and the limit by how long each step has waited. -/
theorem meridianEventsTakeEffect : Obligations.MeridianEventsTakeEffect := by
  refine ⟨?_, ?_, ?_, ?_, ?_, ?_, ?_, ?_, ?_⟩
  · rintro s c hen hs hr rfl
    exact exec_eq rfl rfl (ppsEdge_of_noStep hen hr hs)
  · rintro s c o sec t hen hs ht hr hm hsrc rfl
    have timely : StepsTimely s := by simpa [StepsTimely, hs] using ht
    have completes : modeIn [.configure, .diagnostic] s = true := by simp [modeIn, hm]
    refine exec_eq rfl rfl ?_
    rw [ppsEdge_of_oneStep hen hr timely hs completes, ppsMeasured_of_otherSource hsrc, ppsCaptured]
  · intro k t s hk hn ha ht
    exact exec_eq rfl (decide_eq_true hk) (trgPulse_of_due hn ha ht)
  · intro n page off s hp hsrc hterm
    have port : (Instr.servoChange (some n) off).wf = true := decide_eq_true (by omega : n < 32)
    exact exec_eq rfl port (servoReport_of_port off hp hsrc hterm)
  · intro off s hsrc hl hp
    exact exec_eq rfl rfl (servoReport_of_lost_pair hsrc hl hp)
  · intro off s hsrc hl hp
    exact exec_eq rfl rfl (servoReport_of_lost_alone hsrc hl hp)
  · intro s hsup hst hrun hz
    exact exec_eq rfl rfl (rtcLoadNow_of_second hsup hst hrun hz)
  · intro o n t s hs hl
    exact exec_eq rfl rfl (merStepLimit_of_late hs hl)
  · intro s
    exact exec_eq rfl rfl (merStepLimit_eq s)

end Sys2Proof.Proofs
end

section
/-! SUPPORT. Proofs about the orders of attestation, firmware and provisioning: ATTEST (R454), FW_STAGE and FW_ACTIVATE (R458, R459),
OWNER_ENROL, KEK_GENERATE and PROVISION_COMMIT (R364, R437). -/

namespace Sys2Proof.Machine

section
variable {ord : Nat} {s : State}

/-! ### Attestation (R454) -/

/-- A job joins a queue that has room for it. -/
theorem pkeEnqueue_of_room (j : PkeJob) (h : s.pke.jobs.length < 65) :
    pkeEnqueue j s = { s with pke := { s.pke with jobs := s.pke.jobs ++ [j] } } :=
  if_neg (Nat.not_le.mpr h)

/-- ATTEST with a challenge that can be read and room in the queue. -/
theorem attestReq_of_read {c r : Nat} {b : Bytes} {t : State} (hr : readBar2 (.tircy 0) c 32 s = (some b, t))
    (hroom : t.pke.jobs.length < 65) :
    attestReq ord c r s =
      { t with pke := { t.pke with jobs := t.pke.jobs ++ [
        { ord := some ord, area := 15, op := 1, curve := 2, len := 384, out := r, mlen := 0, ops := [],
          attest := some (r, attestHead t b) }] } } := by
  rw [attestReq, withBlock_of_read _ hr, pkeEnqueue_of_room _ hroom]

/-! ### Firmware images (R458, R459) -/

section
variable {n : Nat} (hn : n ≠ s.fwu.running) (hf : fwBusy s = false)
include hn hf

/-- Outside BOOT, an image that can be read is staged into the slot that does not run if it verifies, and refused if it does not. -/
theorem fwStage_of_read {i l : Nat} {b : Bytes} {t : State} (hm : s.dev.mode ≠ .boot) (hl : l ≤ imgMax)
    (hr : readBar2 (.tircy 0) i (l + 512) s = (some b, t)) :
    fwStage ord i l n s =
      if imageOk t l b then
        { t with fwu := { t.fwu with phase := 1, stage := some (ord, n,
            { ok := true, version := beAt b 8 8, arb := beAt b 0x10 8, body := slice b 512 l }) } }
      else endOrder ord .auth 0 t := by
  have free : (n == s.fwu.running) = false := beq_eq_false_iff_ne.mpr hn
  have fits : decide (imgMax < l) = false := decide_eq_false (Nat.not_lt.mpr hl)
  simp only [fwStage, if_neg hm, free, fits, hf, Bool.or_self, Bool.false_eq_true, if_false, withBlock_of_read _ hr]
  cases imageOk t l b <;> rfl

/-- The activation of an image starts once its body stands in the working image region, and fails with that write (log entry 81). -/
theorem fwActivate_of_image {w : Bool} {t : State} (hok : (imgSlot s n).ok = true)
    (hw : sealWrite .loader 0 (imgSlot s n).body s = (w, t)) :
    fwActivate ord n s =
      if w then { t with fwu := { t.fwu with phase := 2, agent := 0, act := some (ord, n) } } else endOrder ord .fault 0 t := by
  have holds : ¬ (n = s.fwu.running ∨ (!(imgSlot s n).ok) = true) := by simp [hn, hok]
  simp only [fwActivate, Bool.or_eq_true, decide_eq_true_eq, if_neg holds, hf, hw]
  rfl

end

/-! ### Provisioning (R364, R437) -/

/-- Where no owner is enrolled, a key on the curve is enrolled without a signature. -/
theorem ownerEnrol_of_first {off : Nat} {b : Bytes} {t : State} (hr : readBar2 (.tircy 0) off 192 s = (some b, t))
    (hnone : t.keys.owner = none) (hc : onCurve p384 (beAt (slice b 0 96) 0 48) (beAt (slice b 0 96) 48 48) = true) :
    ownerEnrol ord off s = endOrder ord .ok 0 { t with keys := { t.keys with owner := some (slice b 0 96) } } := by
  rw [ownerEnrol, withBlock_of_read _ hr]
  simp [hnone, hc]

section
variable (hc : s.sealPath.commitOrd = none)
include hc

/-- With no commit under way and a generator that is not in FAULT, a key-encryption key is drawn after a reseed. -/
theorem kekGenerate_of_idle (hr : s.rng.st ≠ 2) :
    kekGenerate ord s = endOrder ord .ok 0
      { (draw 32 (reseed s)).2 with
        keys := { s.keys with kekGenerated := true }
        lun := { s.lun with kek := some (draw 32 (reseed s)).1, kekCheck := kekCheckOf (draw 32 (reseed s)).1 } } := by
  simp only [kekGenerate, hc, Option.isSome_none, Bool.false_eq_true, if_false, if_neg hr]
  rfl

/-- With an owner and a key-encryption key, a commit that is the only one starts the sweep. -/
theorem provisionCommit_of_both (ho : s.keys.owner.isSome = true) (hk : kekState s = 1) :
    provisionCommit ord s = { s with sealPath := { s.sealPath with commitOrd := some ord, changing := true } } := by
  have owned : s.keys.owner.isNone = false := by rw [← Option.not_isSome, ho, Bool.not_true]
  simp [provisionCommit, hc, owned, hk]

end

end

end Sys2Proof.Machine

namespace Sys2Proof.Proofs
open Sys2Proof.Machine

/-- Settles O29: each order takes effect on the state in which it has been taken, or in which its block has been read. -/
theorem firmwareAndProvisioningOrdersTakeEffect : Obligations.FirmwareAndProvisioningOrdersTakeEffect := by
  refine ⟨?_, ?_, ?_, ?_, ?_, ?_, ?_⟩
  · intro h c r s b t ha hr hroom
    rw [exec_accepted rfl ha, carryOrder, attestReq_of_read hr hroom]
  · intro h i l n s b t ha hm hn hl hf hr
    rw [exec_accepted rfl ha, carryOrder, fwStage_of_read (s := taken h (.fwStage i l n) s) hn hf hm hl hr]
  · intro h n s t ha hn hok hf hw
    rw [exec_accepted rfl ha, carryOrder, fwActivate_of_image (s := taken h (.fwActivate n) s) hn hf hok hw, if_pos rfl]
  · intro h n s t ha hn hok hf hw
    rw [exec_accepted rfl ha, carryOrder, fwActivate_of_image (s := taken h (.fwActivate n) s) hn hf hok hw,
      if_neg Bool.false_ne_true]
  · intro h off s b t ha hr hnone hc
    rw [exec_accepted rfl ha, carryOrder, ownerEnrol_of_first hr hnone hc]
  · intro h s ha hc hr
    rw [exec_accepted rfl ha, carryOrder, kekGenerate_of_idle (s := taken h .kekGenerate s) hc hr]
    rfl
  · intro h s ha hc ho hk
    rw [exec_accepted rfl ha, carryOrder, provisionCommit_of_both (s := taken h .provisionCommit s) hc ho hk]
    rfl

end Sys2Proof.Proofs
end

section
/-! SUPPORT. Proofs about one step, the Boundary check (R384), the Lunar sensors and alarms (R400, R401), health, the generator,
agents, SMBus and debug (R391, R451, R452, R455, R463, R467), the test access port (R487, R488), the order and record rings (R411, R415,
R421, R425, R466), and the key engines (R438-R453). -/

namespace Sys2Proof.Machine

/-! ### One step -/

theorem step_of_empty {s : State} (h : s.pending = []) : step s = .next s := by
  simp only [step, h]

theorem step_of_front {c : Instr} {rest : List Instr} {s : State} (h : s.pending = c :: rest) :
    step s = exec c { s with pending := rest } := by
  simp only [step, h]

/-! ### The Boundary check (R384) -/

/-- Region `n` of the unit that checks `m` is enabled, takes the class and holds the address in its space. -/
def regionMatches (s : State) (m : Master) (a n : Nat) : Bool :=
  bit (regionWord s (unitOf m).1 n 2) 31 && bit (regionWord s (unitOf m).1 n 2) (if (unitOf m).2 then 29 else 28) &&
    inRegion s (unitOf m).1 n a

theorem regionMatches_iff (s : State) (m : Master) (a n : Nat) :
    regionMatches s m a n = true ↔
      bit (regionWord s (unitOf m).1 n 2) 31 = true ∧
        bit (regionWord s (unitOf m).1 n 2) (if (unitOf m).2 then 29 else 28) = true ∧ inRegion s (unitOf m).1 n a = true := by
  simp only [regionMatches, Bool.and_eq_true, and_assoc]

/-- Searched from the top, a range gives the highest number that fits. -/
theorem find?_reverse_range_of_highest {p : Nat → Bool} {n : Nat} (hp : p n = true) :
    ∀ {k : Nat}, n < k → (∀ q, n < q → q < k → ¬ p q = true) → (List.range k).reverse.find? p = some n
  | 0, hn, _ => absurd hn (Nat.not_lt_zero n)
  | k + 1, hn, hq => by
    rw [List.range_succ, List.reverse_append, List.reverse_singleton, List.singleton_append, List.find?_cons]
    rcases Nat.lt_succ_iff_lt_or_eq.mp hn with below | rfl
    · rw [Bool.eq_false_iff.mpr (hq k below (Nat.lt_succ_self k))]
      exact find?_reverse_range_of_highest hp below fun q hlo hhi => hq q hlo (Nat.lt_succ_of_lt hhi)
    · rw [hp]

section
variable {s : State} {m : Master} {a n : Nat}

theorem deciding_of_highest (hn : n < 64) (hm : regionMatches s m a n = true)
    (hq : ∀ q, n < q → q < 64 → ¬ regionMatches s m a q = true) : deciding s m a = some n :=
  find?_reverse_range_of_highest hm hn hq

theorem deciding_of_noMatch (hq : ∀ q, q < 64 → ¬ regionMatches s m a q = true) : deciding s m a = none :=
  List.find?_eq_none.mpr fun q hmem => hq q (List.mem_range.mp (List.mem_reverse.mp hmem))

variable {k : Access}

theorem permitted_of_decided (h : deciding s m a = some n) :
    permitted s m k a = (bit (regionWord s (unitOf m).1 n 2) (permBit m k) && !(m == .debug && lockedAnywhere s a)) := by
  simp only [permitted, h]

theorem permitted_of_undecided (h : deciding s m a = none) : permitted s m k a = false := by
  simp only [permitted, h]

end

/-! ### Lunar sensors and alarms (R400, R401) -/

theorem lunarSample_wf {n v : Nat} (hn : n < 9) (hv : v < 2 ^ 16) : (Instr.lunarSample n v).wf = true := by
  simp only [Instr.wf, hn, hv, decide_true, Bool.and_self]

/-- The state in which `k` tamper samples in a row of sensor `n` stand counted. -/
def tamperCounted (n k : Nat) (s : State) : State :=
  let u := if s.dev.supply then bump (pg .lun) 0x208 1 s else s
  { u with lun := { s.lun with tamper := s.lun.tamper.set n k, clean := s.lun.clean.set n 0 } }

section
variable {n v : Nat} {s : State} (h6 : n ≠ 6)
include h6

theorem lunarSample_of_notSampled (hs : sampledNow s n = false) : lunarSample n v s = s := by
  simp [lunarSample, h6, hs]

section
variable (hs : sampledNow s n = true)
include hs

/-- A tamper sample counts `k` in a row; the count that reaches the filter declares a sensor that is not in alarm. -/
theorem lunarSample_of_tamper {k : Nat} (ht : tamperSample s n v = true) (hk : k = min 255 (s.lun.tamper.getD n 0 + 1)) :
    lunarSample n v s =
      if !s.lun.alarm.testBit n && decide (lunFilter s n ≤ k) then declareSensor n (tamperCounted n k s)
      else tamperCounted n k s := by
  have noCrystal : ¬ (decide (n = 6) && lunPowered s) = true := by simp [h6]
  have lunKept : (if s.dev.supply then bump (pg .lun) 0x208 1 s else s).lun = s.lun := by split <;> rfl
  simp only [lunarSample, if_neg noCrystal, hs, ht, ← hk, Bool.not_true, Bool.false_eq_true, if_false, if_true, tamperCounted, lunKept]

/-- A clean sample of a sensor that is not in alarm counts as one and ends the run of tamper samples. -/
theorem lunarSample_of_clean (ht : tamperSample s n v = false) (ha : s.lun.alarm.testBit n = false) :
    lunarSample n v s =
      { s with lun := { s.lun with
        tamper := s.lun.tamper.set n 0, clean := s.lun.clean.set n (min 255 (s.lun.clean.getD n 0 + 1)) } } := by
  simp [lunarSample, h6, hs, ht, ha]

end

end

/-- Alarms whose responses hold neither FAULT, ERASE_KEK nor RESET are logged, and raise the events of those that interrupt. -/
theorem alarmRespond_of_logOnly {ds : List Nat} {s : State} (hd : (List.range 13).filter s.lun.declared.contains = ds) (hne : ds ≠ [])
    (hs : s.dev.supply = true)
    (hr : ∀ n ∈ ds, bit (lunResp s n) 2 = false ∧ bit (lunResp s n) 3 = false ∧ bit (lunResp s n) 4 = false) :
    alarmRespond s = ds.foldl (fun z n => eventIf (bit (lunResp s n) 1) (pg .lun) n z)
      (ds.foldl (fun s n => logEvent 0x05 [wd n] s) { s with lun := { s.lun with declared := [] } }) := by
  have lacks : ∀ b, (∀ n ∈ ds, bit (lunResp s n) b = false) → ds.any (fun n => bit (lunResp s n) b) = false :=
    fun b h => List.any_eq_false.mpr fun n hn => by simp [h n hn]
  have noFault := lacks 2 fun n hn => let ⟨fault, _, _⟩ := hr n hn; fault
  have noErase := lacks 3 fun n hn => let ⟨_, erase, _⟩ := hr n hn; erase
  have noReset := lacks 4 fun n hn => let ⟨_, _, reset⟩ := hr n hn; reset
  have some_declared : ds.isEmpty = false := List.isEmpty_eq_false_iff.mpr hne
  have powered : (!s.dev.supply) = false := by rw [hs, Bool.not_true]
  simp only [alarmRespond, hd, some_declared, powered, noFault, noErase, noReset, Bool.false_eq_true, if_false]

/-! ### Health (R463) -/

theorem healthSample_wf {n v : Nat} (hn : n < 24) (hv : v < 2 ^ 32) : (Instr.healthSample n v).wf = true := by
  simp only [Instr.wf, hn, hv, decide_true, Bool.and_self]

/-- A sample within a limit that does not stand crossed leaves it so. -/
theorem limitStep_of_within {s : State} {n : Nat} {crit : Bool} {v : Int} (c : Nat) (h : outsideLimit s n crit false v = false) :
    limitStep s n crit false c v = (false, 0) := by
  simp [limitStep, h]

/-- A sample within both limits of a monitor that warns of nothing is its value. -/
theorem healthIn_of_within {n v : Nat} {s : State} (hn : n < 24) (hs : s.dev.supply = true)
    (hm : s.hlt.mons.getD n Monitor.init = { Monitor.init with value := 0 })
    (hl : ∀ c, outsideLimit s n c false (signed 32 v) = false) :
    healthIn n v s =
      (let ms := s.hlt.mons.set n { Monitor.init with value := signed 32 v }
       vbatSample n (signed 32 v)
        { s with hlt := { s.hlt with mons := ms }, dev := { s.dev with health := ms.any (fun m => m.crit) } }) := by
  have taken_in : ¬ (decide (24 ≤ n) || !s.dev.supply) = true := by simp [hs, hn]
  have initial : s.hlt.mons.getD n Monitor.init = Monitor.init := hm
  have warns : limitStep s n false Monitor.init.warn Monitor.init.warnClear (signed 32 v) = (false, 0) := limitStep_of_within 0 (hl false)
  have crits : limitStep s n true Monitor.init.crit Monitor.init.critClear (signed 32 v) = (false, 0) := limitStep_of_within 0 (hl true)
  simp only [healthIn, if_neg taken_in, initial, warns, crits]
  rfl

/-! ### The generator (R451-R453) -/

section
variable {s : State}

theorem drbgDue_of_due (hr : s.rng.st = 1) (hd : 2 ^ 20 ≤ s.rng.reqs ∨ 8000 ≤ tdiff (now s) s.rng.seedTick) :
    drbgDue s = reseed s := by
  rw [drbgDue, if_pos (by simpa [hr] using hd)]

section
variable (ha : Awake s) (hr : s.rng.st ≠ 0)
include ha hr

theorem rngWindow_of_passed : rngWindow false false s = { s with rng := { s.rng with failed := 0 } } := by
  simp [rngWindow, modeIn_of_awake ha, hr]

/-- A failed window is counted by its tests and raises its event; the third in a row stops a running generator. -/
theorem rngWindow_of_failed {a b : Bool} (hf : (a || b) = true) :
    rngWindow a b s =
      (let u := bump (pg .rng) 0x208 (b2n b) (bump (pg .rng) 0x200 (b2n a) s)
       let t := event (pg .rng) 0 { u with rng := { s.rng with failed := s.rng.failed + 1 } }
       if s.rng.failed + 1 = 3 && s.rng.st = 1 then rngFault t else t) := by
  have watched : ¬ (decide (s.rng.st = 0) || modeIn [.lunar, .reset] s) = true := by simp [modeIn_of_awake ha, hr]
  have failed : ¬ (!a && !b) = true := by rw [← Bool.not_or, hf]; exact Bool.false_ne_true
  rw [rngWindow, if_neg watched, if_neg failed]
  rfl

end

theorem rngFill_of_running (m : Master) (hr : s.rng.st = 1) :
    rngFill m s =
      (let d := draw 64 s
       { d.2 with rng := { d.2.rng with
         out := d.2.rng.out.set (mSet m) (bytesToWords 16 d.1), ready := d.2.rng.ready.set (mSet m) true } }) := by
  simp [rngFill, hr]

theorem rngFill_of_fault (m : Master) (hr : s.rng.st = 2) : rngFill m s = s := by
  simp [rngFill, hr]

theorem rngReseedCmd_of_running (hr : s.rng.st = 1) : rngReseedCmd s = reseed s := if_pos hr

end

/-! ### Agents, SMBus and debug (R391, R455, R467) -/

section
variable {s : State}

theorem agentSilent_of_agent {c : Nat} (ha : Awake s) (hc : (agentOf s c).isSome = true) :
    agentSilent c s = stopAgent c [wd (2 ^ 31 + c)] s := by
  have running : ¬ (modeIn [.lunar, .reset] s || (agentOf s c).isNone) = true := by
    simp [modeIn_of_awake ha, ← Option.not_isSome, hc]
  rw [agentSilent, if_neg running]

section
variable (hs : s.dev.supply = true) (hp : s.dev.porst = true)
include hs hp

theorem smbusUp_of_powered : smbusUp s = true := by
  rw [smbusUp, hs, hp, Bool.and_self]

theorem smbusReadAt_of_powered (c : Nat) : smbusReadAt c s = emit (.smbus (smbusData s c)) s := if_pos (smbusUp_of_powered hs hp)

theorem smbusWriteAt_of_powered : smbusWriteAt s = emit .nack (bump (pg .hlt) 0x228 1 s) := if_pos (smbusUp_of_powered hs hp)

end

theorem debugTokenIn_of_owned (rs : List Nat) (ha : Awake s) (ho : s.keys.owner.isSome = true) :
    debugTokenIn true rs s = rs.foldl enableDebug { s with keys := { s.keys with debugOn := true } } := by
  rw [debugTokenIn, if_pos (by simp [ho, modeIn_of_awake ha])]

end

/-! ### The test access port (R487, R488) -/

/-- The instruction in force once `op` is loaded: one that takes the balls is in force with PORST_N low alone. -/
def tapInForce (porst : Bool) (op : Nat) : Nat :=
  if ((op == 0x00 || op == 0x03 || op == 0x04 || op == 0x05 || op == 0x06) && porst) ||
    !([0x00, 0x01, 0x02, 0x03, 0x04, 0x05, 0x06, 0x20].contains op) then 0xFF else op

/-- The instructions of the boundary register that take the balls. -/
def ballCodes : List Nat := [0x00, 0x03, 0x04, 0x05, 0x06]

theorem tapInForce_of_ball_low {op : Nat} (h : op ∈ ballCodes) : tapInForce false op = op := by
  have all : ∀ op ∈ ballCodes, tapInForce false op = op := by decide
  exact all op h

theorem tapInForce_of_ball_high {op : Nat} (h : op ∈ ballCodes) : tapInForce true op = 0xFF := by
  have all : ∀ op ∈ ballCodes, tapInForce true op = 0xFF := by decide
  exact all op h

/-- IDCODE, SAMPLE/PRELOAD, DAP and BYPASS are in force at either level of PORST_N. -/
theorem tapInForce_of_other (p : Bool) {op : Nat} (h : op ∈ [0x01, 0x02, 0x20, 0xFF]) : tapInForce p op = op := by
  have all : ∀ p, ∀ op ∈ [0x01, 0x02, 0x20, 0xFF], tapInForce p op = op := by decide
  exact all p op h

section
variable {op ir : Nat} {s : State} (hs : s.dev.supply = true) (hi : tapInForce s.dev.porst op = ir)
include hs hi

theorem tapLoad_of_inForce :
    tapLoad op s = { s with tap := { ir := ir, preload := s.tap.preload || ir == 0x02 }, out := s.out ++ [.tap ir] } := by
  subst hi
  rw [tapLoad, if_neg (by simp [hs])]
  rfl

/-- Every instruction but SAMPLE/PRELOAD leaves the boundary register's contents as they are. -/
theorem tapLoad_of_noPreload (h2 : ir ≠ 0x02) :
    tapLoad op s = { s with tap := { s.tap with ir := ir }, out := s.out ++ [.tap ir] } := by
  rw [tapLoad_of_inForce hs hi, beq_false_of_ne h2, Bool.or_false]

end

theorem tapId_of_supply {s : State} (hs : s.dev.supply = true) : tapId s = emit (.data (leBytes 4 0x10D3258B)) (tapLoad 0x01 s) :=
  if_pos hs

/-- Each instruction of the boundary register that takes the balls loads its code. -/
theorem exec_ballInstruction {i : Instr} {op : Nat} (s : State)
    (h : (i, op) ∈ [(Instr.extest, 0x00), (.extestPulse, 0x03), (.extestTrain, 0x04), (.clamp, 0x05), (.highz, 0x06)]) :
    op ∈ ballCodes ∧ exec i s = .next (settle (tapLoad op s)) := by
  simp only [List.mem_cons, Prod.mk.injEq, List.not_mem_nil, or_false] at h
  rcases h with ⟨rfl, rfl⟩ | ⟨rfl, rfl⟩ | ⟨rfl, rfl⟩ | ⟨rfl, rfl⟩ | ⟨rfl, rfl⟩
  all_goals exact ⟨by decide, exec_eq rfl rfl rfl⟩

/-! ### Orders and their rings (R408, R411, R415, R417) -/

/-- A submitted order that Tircy does not take changes nothing. -/
theorem submit_of_notTaken {h : OrdHdr} {o : Order} {s : State} (hn : normOrder o = o)
    (hw : reachable .host s = false ∨ s.ords.sqHead ≠ s.ords.sqTail ∨ mayTake s h.fence o = false) : submitOrder h o s = s := by
  have waits : ¬ (reachable .host s && s.ords.sqHead == s.ords.sqTail && mayTake s h.fence o) = true := by
    rcases hw with hr | hr | hr <;> simp [hr]
  simp only [submitOrder, hn, if_neg waits]

section
variable {s : State} (hid : ∀ x ∈ s.ords.outs, x.id < s.ords.nextId)
include hid

/-- An order's identity is that of no order taken before it. -/
theorem ne_takenId {x : OrdRec} (hx : x ∈ s.ords.outs) : x.id ≠ takenId s := Nat.ne_of_lt (hid x hx)

/-- The order just taken is the one outstanding under its identity. -/
theorem find?_taken (h : OrdHdr) (o : Order) :
    (taken h o s).ords.outs.find? (fun x => x.id == takenId s) =
      some { id := takenId s, tag := h.tag, op := orderCode o, int := h.int } := by
  have before : s.ords.outs.find? (fun x => x.id == takenId s) = none :=
    List.find?_eq_none.mpr fun x hx => by simpa using ne_takenId hid hx
  simp [taken, before]

/-- Without it the outstanding orders are those before. -/
theorem sansOrder_taken (h : OrdHdr) (o : Order) : sansOrder (takenId s) (taken h o s).ords.outs = s.ords.outs := by
  have before : s.ords.outs.filter (fun x => x.id != takenId s) = s.ords.outs :=
    List.filter_eq_self.mpr fun x hx => by simpa using ne_takenId hid hx
  simp [sansOrder, taken, before]

theorem endOrder_taken (h : OrdHdr) (o : Order) (st : Status) (d : Word) :
    endOrder (takenId s) st d (taken h o s) =
      { taken h o s with
        ords := { (taken h o s).ords with
          outs := s.ords.outs
          ended := s.ords.ended ++ [{ id := takenId s, tag := h.tag, op := orderCode o, int := h.int, status := st, detail := d,
                                      tick := now s }] } } := by
  have others := sansOrder_taken hid h o
  rw [sansOrder] at others
  simp only [endOrder, find?_taken hid, others]
  rfl

end

/-- The sixteen words that Tircy takes a slot's bytes for. -/
def slotWords (b : Bytes) : List Word := bytesToWords 16 (b ++ zeros (64 - b.length))

/-- The header of the order that a slot spells. -/
def slotHdr (b : Bytes) : OrdHdr :=
  { tag := (slotWords b).getD 1 0, int := bit ((slotWords b).getD 0 0) 16, fence := bit ((slotWords b).getD 0 0) 17 }

section
variable {s t : State}

/-- A descriptor of 64 bytes whose order may be taken passes its slot, and the order is judged. -/
theorem orderTake_of_read {b : Bytes} (hr : takeRoom s = true) (hn : s.ords.sqHead ≠ s.ords.sqTail) (h3 : behaviour s 3 = false)
    (hb : readBar2 (.tircy 0) (sqSlot s s.ords.sqHead) 64 s = (some b, t))
    (hm : mayTake s (slotHdr b).fence (orderOf (slotWords b)) = true) :
    orderTake s = runOrder (slotHdr b) (orderOf (slotWords b)) { t with ords := { t.ords with sqHead := t.ords.sqHead + 1 } } := by
  have due : ¬ (!takeRoom s || s.ords.sqHead == s.ords.sqTail) = true := by simp [hr, hn]
  have whole : slotBytes32 s = false := h3
  have may : ¬ (!mayTake s (slotHdr b).fence (orderOf (slotWords b))) = true := by simp [hm]
  simp only [orderTake, if_neg due, whole, Bool.false_eq_true, if_false, hb]
  simp only [takeFrom, whole, Bool.false_and, Bool.false_eq_true, if_false]
  exact if_neg may

/-- The oldest order that has ended is posted at CQ_TAIL. -/
theorem completionPost_of_written {e : EndRec} {rest : List EndRec} (hen : ordEn s = true) (hh : ringsHeld s = false)
    (he : s.ords.ended = e :: rest)
    (hw : writeBar2 (.tircy 0) ((getReg s (ra (pg .ord) 0x114)).toNat + s.ords.cqTail.toNat % cqSlots s * 16)
      (wordsToBytes (complWords e s.ords.cqTail.toNat (cqSlots s))) s = (true, t)) :
    completionPost s = eventIf e.int (pg .ord) 1 (bump (pg .ord) 0x208 1 (bump (pg .ord) (statusCtr e.status) 1
      { t with ords := { t.ords with ended := rest, cqTail := t.ords.cqTail + 1 } })) := by
  simp only [completionPost, he, hen, hh, hw, Bool.not_true, Bool.or_self, Bool.false_eq_true, if_false, if_true]

end

/-! ### Errata and sample records (R421, R424, R425, R466) -/

/-- Counting a failure by its kind changes a counter. -/
theorem ended_frame (r : ErrRec) (s : State) : ∃ c, ended r s = { s with ctrs := c } := by
  unfold ended
  split
  · exact ⟨_, rfl⟩
  · exact ⟨s.ctrs, rfl⟩

@[simp] theorem eraEn_ended (r : ErrRec) (s : State) : eraEn (ended r s) = eraEn s := by
  obtain ⟨c, h⟩ := ended_frame r s
  rw [h]
  rfl

@[simp] theorem era_ended (r : ErrRec) (s : State) : (ended r s).era = s.era := by
  obtain ⟨c, h⟩ := ended_frame r s
  rw [h]

/-- What shuts the ring to single records: it is disabled or full, or a summary is open (R424). -/
def RingShut (s : State) : Prop := eraEn s = false ∨ s.era.sums ≠ [] ∨ 65536 ≤ eraHeld s

/-- A failure enters its summary while the ring is shut, and is written to it otherwise. -/
theorem recordOne_of_shut {r : ErrRec} {s : State} (h : RingShut s) : recordOne r s = summarise r (ended r s) := by
  have shut : (!eraEn (ended r s) || !(ended r s).era.sums.isEmpty || decide (65536 ≤ eraHeld (ended r s))) = true := by
    rw [eraHeld, era_ended, eraEn_ended]
    rcases h with h | h | h
    · simp [h]
    · simp [h]
    · rw [eraHeld] at h
      simp [h]
  simp only [recordOne, if_pos shut]

theorem recordOne_of_written {r : ErrRec} {s t : State} (h : ¬ RingShut s) (hp : eraPut r 0 1 (ended r s) = (true, t)) :
    recordOne r s = t := by
  have opened : ¬ (!eraEn (ended r s) || !(ended r s).era.sums.isEmpty || decide (65536 ≤ eraHeld (ended r s))) = true := by
    rw [eraHeld, era_ended, eraEn_ended]
    simpa [RingShut, eraHeld, and_assoc] using h
  simp only [recordOne, if_neg opened, hp, if_true]

section
variable {s : State} {rest : List ErrRec}

theorem errataOut_of_waiting {r : ErrRec} (hw : s.era.wait = r :: rest) (hh : ringsHeld s = false) :
    errataOut s = recordOne r { s with era := { s.era with wait := rest } } := by
  simp only [errataOut, hw, hh, Bool.false_eq_true, if_false]

theorem summaryOut_of_room (he : eraEn s = true) (hs : s.era.sums ≠ []) (hr : eraHeld s + 1024 ≤ 65536) (hh : ringsHeld s = false) :
    summaryOut s = (s.era.sums.map (·.1)).foldl flushOne s := by
  rw [summaryOut, if_pos (by simp [he, hs, hr, hh])]

end

section
variable {s : State} {r : SampleRec} {rest : List SampleRec} (hw : s.smp.wait = r :: rest)
include hw

theorem sampleOut_of_written {t : State} (hr : tdiff s.smp.prod s.smp.cons < 4096)
    (hp : writeBar2 .record ((getReg s (ra (pg .smp) 0x104)).toNat + s.smp.prod.toNat % 4096 * 64)
      (wordsToBytes ((List.range 15).map (fun k => r.words.getD k 0) ++ [s.smp.prod]))
      { s with smp := { s.smp with wait := rest } } = (true, t)) :
    sampleOut s = bump (pg .smp) 0x200 1 { t with smp := { t.smp with prod := t.smp.prod + 1 } } := by
  simp only [sampleOut, hw, if_neg (Nat.not_le.mpr hr), hp]

theorem sampleOut_of_full (hf : 4096 ≤ tdiff s.smp.prod s.smp.cons) :
    sampleOut s = event (pg .smp) 1 (bump (pg .smp) 0x208 1 { s with smp := { s.smp with wait := rest } }) := by
  simp only [sampleOut, hw, if_pos hf]

end

/-! ### The utility cipher unit (R438-R442) -/

section
variable {m r : Master} {s : State}

theorem ucuAcquire_of_free (h : s.ucu.held = false) :
    ucuAcquire m s = { s with ucu := { s.ucu with held := true, ownCls := mCls m, ownCore := mCore m, lastUse := now s } } := by
  simp [ucuAcquire, h]

theorem ucuAcquire_of_other (h : s.ucu.held = true) (ho : ucuOwner s m = false) : ucuAcquire m s = s := by
  simp [ucuAcquire, h, ho]

theorem ucuOwner_of_otherClass (h : s.ucu.ownCls ≠ mCls m) : ucuOwner s m = false := by
  simp [ucuOwner, h]

/-- Of two writers the one of the lower class is served first, whichever of them the command names first. -/
theorem ucuOrder_of_lower (h : mCls m < mCls r) : ucuOrder ⟨m, some r⟩ = [m, r] ∧ ucuOrder ⟨r, some m⟩ = [m, r] := by
  have higher : ¬ mCls r < mCls m := Nat.not_lt.mpr (Nat.le_of_lt h)
  have apart : mCls r ≠ mCls m := Nat.ne_of_gt h
  constructor
  · simp [ucuOrder, h]
  · simp [ucuOrder, higher, apart]

/-- One writer's access to UCU_LOCK.ACQ. -/
def ucuTry (s : State) (m : Master) : State := regCmd m (ra (pg .ucu) 0x100) (ucuAcquire m) s

theorem ucuTry_of_granted (hr : reachable m s = true) (hp : permitted s m .write (regAddr (ra (pg .ucu) 0x100)) = true) :
    ucuTry s m = ucuAcquire m (checkedBy m s) := regCmd_granted _ hr hp

/-- UCU_ACQ serves its writers in their order. -/
theorem exec_ucuAcq {w : AcqWrite} {ms : List Master} (hw : (Instr.ucuAcq w).wf = true) (ho : ucuOrder w = ms) :
    exec (.ucuAcq w) s = .next (settle (ms.foldl ucuTry s)) :=
  exec_eq (f := (ucuOrder w).foldl ucuTry) rfl hw (by rw [ho])

/-- A single writer of a granted UCU_ACQ tries the lock. -/
theorem exec_ucuAcq_alone (hg : Granted (.ucuAcq ⟨m, none⟩) m (ra (pg .ucu) 0x100) s) :
    exec (.ucuAcq ⟨m, none⟩) s = .next (settle (ucuAcquire m (checkedBy m s))) := by
  obtain ⟨hw, hr, hp⟩ := hg
  rw [exec_ucuAcq (ms := [m]) hw rfl, List.foldl_cons, List.foldl_nil, ucuTry_of_granted hr hp]

/-- Of two granted writers of a free lock the one of the lower class takes it, and the other finds it held. -/
theorem ucuAcquire_both (hm : reachable m s = true ∧ permitted s m .write (regAddr (ra (pg .ucu) 0x100)) = true)
    (hr : reachable r s = true ∧ permitted s r .write (regAddr (ra (pg .ucu) 0x100)) = true) (hf : s.ucu.held = false)
    (hc : mCls m < mCls r) :
    [m, r].foldl ucuTry s =
      { checkedBy r (checkedBy m s) with
          ucu := { s.ucu with held := true, ownCls := mCls m, ownCore := mCore m, lastUse := now s } } := by
  obtain ⟨hmr, hmp⟩ := hm
  obtain ⟨hrr, hrp⟩ := hr
  rw [List.foldl_cons, List.foldl_cons, List.foldl_nil, ucuTry_of_granted hmr hmp, ucuAcquire_of_free (s := checkedBy m s) hf]
  refine (ucuTry_of_granted ?_ ?_).trans ?_
  · exact hrr
  · exact hrp
  · exact ucuAcquire_of_other rfl (ucuOwner_of_otherClass (Nat.ne_of_lt hc))

section
variable (ho : ucuOwner s m = true)
include ho

/-- The owner's command is carried out, and its write noted (R442). -/
theorem ucuOwned_of_owner (off : Nat) (f : State → State) : ucuOwned m off f s = f (ucuTouch s) := if_pos ho

theorem ucuRelease_of_idle (hb : s.ucu.busy = false) : ucuRelease m s = ucuFree (ucuTouch s) := by
  rw [ucuRelease, ucuOwned_of_owner ho]
  exact if_neg (by simp [ucuTouch, hb])

theorem ucuStart_of_ready (hb : s.ucu.busy = false) (hl : ucuLenOk s = true) :
    ucuStart m s = { s with ucu := { s.ucu with busy := true, doneFlag := false, lastUse := now s } } := by
  have ready : ¬ ((ucuTouch s).ucu.busy || !ucuLenOk (ucuTouch s)) = true := by
    rw [show (ucuTouch s).ucu.busy = false from hb, show ucuLenOk (ucuTouch s) = true from hl]
    decide
  rw [ucuStart, ucuOwned_of_owner ho]
  exact if_neg ready

end

/-- A write of UCU_MODE by a master that does not own the lock is refused. -/
theorem ucuModeWrite_of_notOwner (v : Word) (ho : ucuOwner s m = false) :
    ucuModeWrite m v s = regErr m (ra (pg .ucu) 0x108) 0x40 s := by
  rw [ucuModeWrite, ucuOwned, ho]
  rfl

/-- The word that UCU_MODE takes from a write whose fields stand in their ranges. -/
def ucuModeWord (v : Word) : Word :=
  setFld (setFld (setFld (setFld (setFld 0 16 16 (fld v 16 16)) 15 12 (fld v 15 12)) 8 8 (fld v 8 8)) 31 24 (fld v 31 24)) 6 0 (fld v 6 0)

/-- Tircy may select a transport slot's key (R440). -/
theorem ucuModeWrite_of_tircy {c : Nat} {v : Word} (ho : ucuOwner s (.tircy c) = true) (h1 : 1 ≤ fld v 31 24) (h13 : fld v 31 24 ≤ 13)
    (h64 : fld v 6 0 ≤ 64) :
    ucuModeWrite (.tircy c) v s = setReg (ucuTouch s) (ra (pg .ucu) 0x108) (ucuModeWord v) := by
  have keyGood : (bit v 8 && mCls (.tircy c) != 1) = false := by simp [mCls]
  have modeGood : (fld v 31 24 == 0 || decide (13 < fld v 31 24)) = false := by
    simp only [Bool.or_eq_false_iff, beq_eq_false_iff_ne, decide_eq_false_iff_not]
    omega
  have lenGood : decide (64 < fld v 6 0) = false := decide_eq_false (Nat.not_lt.mpr h64)
  simp only [ucuModeWrite, ucuOwned_of_owner ho, keyGood, modeGood, lenGood, Bool.or_self, Bool.false_eq_true, if_false]
  rfl

theorem ucuLease_of_expired (hh : s.ucu.held = true) (hb : s.ucu.busy = false)
    (hl : regFld s (ra (pg .ucu) 0x104) 15 0 ≤ tdiff (now s) s.ucu.lastUse) : ucuLease s = ucuForced s := by
  rw [ucuLease, if_pos (by simp [hh, hb, hl])]

/-! ### The public-key engine (R448) -/

theorem pkeAbortCmd_of_range {area : Nat} (ha : m = .host → area < 8) :
    pkeAbortCmd m area s = pkeAbortIf (fun j => j.area == area) 0xA1 s := by
  have inRange : ¬ (m == .host && decide (8 ≤ area)) = true := by
    simpa using ha
  rw [pkeAbortCmd, if_neg inRange]

end

end Sys2Proof.Machine

namespace Sys2Proof.Proofs
open Sys2Proof.Machine

/-- Settles O10: the search for a match starts at the highest number. -/
theorem theHighestMatchingRegionDecides : Obligations.TheHighestMatchingRegionDecides := by
  refine ⟨?_, ?_⟩
  · intro s m k a n hn hen hcls hin hq
    simp only [← regionMatches_iff] at hq
    exact permitted_of_decided (deciding_of_highest hn ((regionMatches_iff s m a n).mpr ⟨hen, hcls, hin⟩) hq)
  · intro s m k a hq
    simp only [← regionMatches_iff] at hq
    exact permitted_of_undecided (deciding_of_noMatch hq)

/-- Settles O38: each event in the state in which it is due. -/
theorem monitorsGeneratorAndManagementEventsTakeEffect : Obligations.MonitorsGeneratorAndManagementEventsTakeEffect := by
  refine ⟨?_, ?_, ?_, ?_, ?_, ?_, ?_, ?_, ?_, ?_, ?_, ?_, ?_, ?_⟩
  · intro n v k s hn h6 hv hs ht hk hd
    have notDeclared : ¬ (!s.lun.alarm.testBit n && decide (lunFilter s n ≤ k)) = true := by
      rcases hd with on | short
      · simp [on]
      · simp [short]
    exact exec_eq rfl (lunarSample_wf hn hv) ((lunarSample_of_tamper h6 hs ht hk).trans (if_neg notDeclared))
  · intro n v k s hn h6 hv hs ht hk ha hf
    exact exec_eq rfl (lunarSample_wf hn hv) ((lunarSample_of_tamper h6 hs ht hk).trans (if_pos (by simp [ha, hf])))
  · intro n v s hn h6 hv hs ht ha
    exact exec_eq rfl (lunarSample_wf hn hv) (lunarSample_of_clean h6 hs ht ha)
  · intro n v s hn h6 hv hs
    exact exec_eq rfl (lunarSample_wf hn hv) (lunarSample_of_notSampled h6 hs)
  · intro ds s hd hne hs hr
    exact exec_eq rfl rfl (alarmRespond_of_logOnly hd hne hs hr)
  · intro n v s hn hv hs hm hl
    exact exec_eq rfl (healthSample_wf hn hv) (healthIn_of_within hn hs hm hl)
  · intro s hr hd
    exact exec_eq rfl rfl (drbgDue_of_due hr hd)
  · intro s ha hr
    exact exec_eq rfl rfl (rngWindow_of_passed ha hr)
  · intro a b s ha hr hf hk
    exact exec_eq rfl rfl ((rngWindow_of_failed ha hr hf).trans (if_neg (by simp [hk])))
  · intro a b s ha hr hf hk
    have third : (s.rng.failed + 1 = 3 && s.rng.st = 1) = true := by simp [hk, hr]
    refine exec_eq rfl rfl ((rngWindow_of_failed ha (by simp [hr]) hf).trans ((if_pos third).trans ?_))
    rw [hk]
  · intro c s hc ha hag
    exact exec_eq rfl (decide_eq_true hc) (agentSilent_of_agent ha hag)
  · intro c s hc hs hp
    exact exec_eq rfl (decide_eq_true hc) (smbusReadAt_of_powered hs hp c)
  · intro c s hc hs hp
    exact exec_eq rfl (decide_eq_true hc) (smbusWriteAt_of_powered hs hp)
  · intro rs s ha ho hx
    exact exec_eq rfl (by simpa [Instr.wf] using hx) (debugTokenIn_of_owned rs ha ho)

/-- Settles O13: an order that is not taken leaves the state in which it was submitted. -/
theorem ordersThatAreNotTakenWait : Obligations.OrdersThatAreNotTakenWait := by
  intro i h o s hw ho hn
  rw [exec_order hw ho, submit_of_notTaken (normOrder_of_wf hw ho) hn]

/-- Settles O14: under identities that rise, the order just taken is the one that ends. -/
theorem endedOrderWaitsForItsCompletion : Obligations.EndedOrderWaitsForItsCompletion := by
  intro h o st d s hid
  exact endOrder_taken hid h o st d

/-- Settles O35: a descriptor that can be read and a completion that can be written. -/
theorem ringsMoveOrdersAndCompletions : Obligations.RingsMoveOrdersAndCompletions := by
  refine ⟨?_, ?_⟩
  · intro s b t hr hn h3 hb hm
    exact exec_eq rfl rfl (orderTake_of_read hr hn h3 hb hm)
  · intro s e rest t hen hh he hw
    exact exec_eq rfl rfl (completionPost_of_written hen hh he hw)

/-- Settles O40: a failure by whether the ring is shut to single records, the summaries and a sample by the room in their ring. -/
theorem recordsReachTheirRings : Obligations.RecordsReachTheirRings := by
  refine ⟨?_, ?_, ?_, ?_, ?_⟩
  · intro r rest s t hw hh hen hs hr hp
    have opened : ¬ RingShut { s with era := { s.era with wait := rest } } := by
      rintro (off | summed | full)
      · exact Bool.false_ne_true (off.symm.trans hen)
      · exact summed hs
      · exact Nat.not_le.mpr hr full
    exact exec_eq rfl rfl ((errataOut_of_waiting hw hh).trans (recordOne_of_written opened hp))
  · intro r rest s hw hh hs
    exact exec_eq rfl rfl ((errataOut_of_waiting hw hh).trans (recordOne_of_shut hs))
  · intro s hen hs hr hh
    exact exec_eq rfl rfl (summaryOut_of_room hen hs hr hh)
  · intro r rest s t hw hr hp
    exact exec_eq rfl rfl (sampleOut_of_written hw hr hp)
  · intro r rest s hw hf
    exact exec_eq rfl rfl (sampleOut_of_full hw hf)

/-- Settles O25: each command on the state in which its access has been counted. -/
theorem engineCommandsFollowTheirOwner : Obligations.EngineCommandsFollowTheirOwner := by
  refine ⟨?_, ?_, ?_, ?_, ?_, ?_, ?_, ?_, ?_, ?_, ?_, ?_, ?_⟩
  · intro m s hg hf
    rw [exec_ucuAcq_alone hg, ucuAcquire_of_free (s := checkedBy m s) hf]
    rfl
  · intro m s hg hh ho
    rw [exec_ucuAcq_alone hg, ucuAcquire_of_other (s := checkedBy m s) hh ho]
  · rintro m r s ⟨hmw, hm⟩ ⟨hrw, hr⟩ hf hc
    obtain ⟨named, swapped⟩ := ucuOrder_of_lower hc
    rw [exec_ucuAcq hrw swapped, exec_ucuAcq hmw named, ucuAcquire_both hm hr hf hc]
    exact ⟨rfl, rfl⟩
  · intro m s hg ho hb
    exact exec_register rfl hg (ucuRelease_of_idle (s := checkedBy m s) ho hb)
  · intro c s hg
    exact exec_register rfl hg (if_pos rfl)
  · intro m s hg ho hb hl
    exact exec_register rfl hg (ucuStart_of_ready (s := checkedBy m s) ho hb hl)
  · intro m v s hg ho
    exact exec_register rfl hg (ucuModeWrite_of_notOwner (s := checkedBy m s) v ho)
  · intro c v s hg ho h1 h13 h64
    exact ⟨ucuModeWord v, exec_register rfl hg (ucuModeWrite_of_tircy (s := checkedBy (.tircy c) s) ho h1 h13 h64), rfl⟩
  · intro s hh hb hl
    exact exec_eq rfl rfl (ucuLease_of_expired hh hb hl)
  · intro m area s hg ha
    exact exec_register rfl hg (pkeAbortCmd_of_range ha)
  · intro m s hg hr
    exact exec_register rfl hg (rngFill_of_running (s := checkedBy m s) m hr)
  · intro m s hg hr
    exact exec_register rfl hg (rngFill_of_fault (s := checkedBy m s) m hr)
  · intro m s hg hr
    exact exec_register rfl hg (rngReseedCmd_of_running (s := checkedBy m s) hr)

/-- Settles O39: the instruction in force by its code and the level of PORST_N. -/
theorem testPortLoadsItsInstruction : Obligations.TestPortLoadsItsInstruction := by
  refine ⟨?_, ?_, ?_, ?_, ?_, ?_⟩
  · intro i op s hs hp hi
    obtain ⟨ball, run⟩ := exec_ballInstruction s hi
    have inForce : tapInForce s.dev.porst op = op := by rw [hp, tapInForce_of_ball_low ball]
    have noPreload : op ≠ 0x02 := by
      rintro rfl
      exact absurd ball (by decide)
    rw [run, tapLoad_of_noPreload hs inForce noPreload]
  · intro i op s hs hp hi
    obtain ⟨ball, run⟩ := exec_ballInstruction s hi
    have inForce : tapInForce s.dev.porst op = 0xFF := by rw [hp, tapInForce_of_ball_high ball]
    rw [run, tapLoad_of_noPreload hs inForce (by decide)]
  · intro s hs
    refine exec_eq rfl rfl ((tapLoad_of_inForce hs (tapInForce_of_other _ (by decide))).trans ?_)
    simp
  · intro s hs
    exact exec_eq rfl rfl (tapLoad_of_noPreload hs (tapInForce_of_other _ (by decide)) (by decide))
  · intro s hs
    exact exec_eq rfl rfl (tapLoad_of_noPreload hs (tapInForce_of_other _ (by decide)) (by decide))
  · intro s hs
    refine exec_eq rfl rfl ((tapId_of_supply hs).trans ?_)
    rw [tapLoad_of_noPreload hs (tapInForce_of_other _ (by decide)) (by decide)]
    rfl

/-- Settles O1: the step of a queue with a front. -/
theorem stepRunsTheFrontCommand : Obligations.StepRunsTheFrontCommand := by
  intro c rest s hq
  exact step_of_front hq

/-- Settles O2: an empty queue idles, and every command answers a settled state. -/
theorem everyStepAnswersANextState : Obligations.EveryStepAnswersANextState := by
  refine ⟨?_, ?_⟩
  · intro s
    cases hq : s.pending with
    | nil => exact ⟨s, step_of_empty hq⟩
    | cons c rest =>
      obtain ⟨u, run⟩ := exec_settled c { s with pending := rest }
      exact ⟨settle u, (step_of_front hq).trans run⟩
  · intro s hq
    exact step_of_empty hq

end Sys2Proof.Proofs
end
